-- ==== Sys2Proof/Word.lean ====
section
/-! DEFINITION. The word types: bytes, 16-bit fields and the 32-bit millisecond count of spec/00_scope.md. -/

namespace Sys2Proof

/-- One byte of a frame, a record or the staging image. -/
abbrev Byte := BitVec 8

/-- A 16-bit field: a tag, a duration in seconds, a notice detail, the backoff generator. -/
abbrev Half := BitVec 16

/-- A value of the free-running 32-bit millisecond count, which wraps at its limit (00_scope.md, Time). -/
abbrev Ms := BitVec 32

end Sys2Proof
end

