-- ==== Sys2Proof/Config.lean ====
section
/-! DEFINITION. The free values of the model: choices that the spec leaves open after which the part goes on.
Each is a constant with no body, applied to the counter `freeCount` of State (log 5). -/

namespace Sys2Proof

/-- R17: the snapshot shows SEQ after (true) or before (false) it takes the trip request of the same cycle;
"both outcomes occur". -/
opaque Config.snapshotSeesTrip : Nat → Bool

/-- R111: where a raise locks SEQ out, the SEQ_STATE notice stands before (true) or after (false) the
PROFILE_CHANGED notice. -/
opaque Config.seqBeforeProfileNotice : Nat → Bool

/-- R95: SEQ takes the trip request of an INTERTRIP action before the WATCH_MATCH notice is queued (true),
or as an event after all matching of the frame (false). No other place is modelled (log 37). -/
opaque Config.intertripTakenAtOnce : Nat → Bool

/-- R170, R172: effects that follow a command at another block are visible (true) or not (false) in the
status byte of the same response, all of them or none where they fall at two blocks (log 40). -/
opaque Config.statusSeesFollowOn : Nat → Bool

/-- R163: in DEAD_HOLD, the owner's trip request reaches SEQ before (true) or after (false) the removal of
the HUNT record. -/
opaque Config.ownerRequestFirst : Nat → Bool

end Sys2Proof
end

