-- ==== Sys2Proof/Syntax.lean ====
section
/-! DEFINITION. The names and payloads the commands carry, and `Instr`: one constructor for each row of
spec/opcode_table.json. The names are those of 11_frame_record_and_settings_layouts.md, 11.1. -/

namespace Sys2Proof

/-- Profiles and demands, in rising order of restriction (R98). -/
inductive Profile where
  | ordinary | elevated | extreme
  deriving DecidableEq, Repr

/-- The ten sequencer states (04, state table). -/
inductive SeqState where
  | dormant | closedRest | tripping | deadTime | deadHold | closing | reclaim | lockout | opened | failed
  deriving DecidableEq, Repr

/-- The breaker position FIN reports (R46). -/
inductive Position where
  | unknown | closed | opened
  deriving DecidableEq, Repr

/-- Trip causes (04, state table). -/
inductive Cause where
  | none | ph | phh | ef | sef | huntOwner | intertrip | manual
  deriving DecidableEq, Repr

/-- The protective causes: those a trip request can carry (R58). -/
inductive ProtCause where
  | ph | phh | ef | sef | huntOwner | intertrip
  deriving DecidableEq, Repr

/-- Residual direction (R10). -/
inductive Direction where
  | undetermined | forward | reverse
  deriving DecidableEq, Repr

/-- Hunt phases (09, state table). -/
inductive HuntPhase where
  | idle | capture | collect | cooldown
  deriving DecidableEq, Repr

/-- Verdicts of a hunt round (R162). -/
inductive Verdict where
  | none | owner | notOwner | uncertain | notInvolved
  deriving DecidableEq, Repr

/-- Relation of a station to this one; `own` only in the hunt table (R124, R160). -/
inductive Relation where
  | other | up | down | own
  deriving DecidableEq, Repr

/-- Supervision status of a neighbour entry (R126). -/
inductive NbrStatus where
  | fresh | quiet | lost
  deriving DecidableEq, Repr

/-- The mechanism that placed a block record (R78). -/
inductive BlockSource where
  | tag | field | watch | sef | hunt | self
  deriving DecidableEq, Repr

/-- Wait, or end the sequence in lockout (R78). -/
inductive BlockEffect where
  | hold | lock
  deriving DecidableEq, Repr

/-- Whether a watch acts once or every time (R89). -/
inductive WatchMode where
  | once | standing
  deriving DecidableEq, Repr

/-- The actions of a watch (R89). -/
inductive WatchAction where
  | none | placeBlock | removeBlock | intertrip
  deriving DecidableEq, Repr

/-- The coil operation a BREAKER_FAIL frame reports (R71). -/
inductive FailedOp where
  | trip | close
  deriving DecidableEq, Repr

/-- The nine kinds of link frame (R116). -/
inductive FrameKind where
  | breakerFail | trip | restrain | release | state | huntCall | huntReport | huntVerdict | beacon
  deriving DecidableEq, Repr

/-- The key of a block record (R79). -/
structure BlockKey where
  source : BlockSource
  origin : Byte
  tag : Half
  deriving DecidableEq, Repr

/-- The identity of a hunt round: the caller's address and its sequence (09, state table). -/
structure Round where
  caller : Byte
  seqNo : Byte
  deriving DecidableEq, Repr

/-- The payload of a TRIP frame; `fail10` is TRIP_FAIL in units of 10 ms (R71). -/
structure TripInfo where
  cause : Cause
  shot : Nat
  fail10 : Nat
  deriving DecidableEq, Repr

/-- The payload of a RESTRAIN frame: the elements picked up and the trip number (R144). -/
structure RestrainInfo where
  ph : Bool
  ef : Bool
  phh : Bool
  tripNo : Nat
  deriving DecidableEq, Repr

/-- The payload of a STATE frame (R70). -/
structure StateInfo where
  st : SeqState
  pos : Position
  shot : Nat
  deriving DecidableEq, Repr

/-- The payload of a HUNT_REPORT frame (R159). -/
structure ReportInfo where
  round : Round
  mag : Nat
  dir : Direction
  isOpen : Bool
  incomplete : Bool
  deriving DecidableEq, Repr

/-- The payload of a BEACON frame; the interval is in seconds (R130). -/
structure BeaconInfo where
  ownDemand : Profile
  effective : Profile
  st : SeqState
  pos : Position
  measFresh : Bool
  phase : HuntPhase
  interval : Nat
  deriving DecidableEq, Repr

/-- A frame that its owner places with its payload: every kind but BEACON (R127). -/
inductive OwnedFrame where
  | breakerFail (op : FailedOp)
  | trip (t : TripInfo)
  | restrain (r : RestrainInfo)
  | release
  | state (x : StateInfo)
  | huntCall (seqNo : Byte)
  | huntReport (r : ReportInfo)
  | huntVerdict (round : Round)
  deriving DecidableEq, Repr

/-- The kind and payload of a frame on the line (R116). -/
inductive FrameBody where
  | owned (f : OwnedFrame)
  | beacon (b : BeaconInfo)
  deriving DecidableEq, Repr

/-- A placement: a frame with its payload, or a request for a BEACON, whose payload is built later (R127). -/
inductive Placement where
  | owned (f : OwnedFrame)
  | beaconRequest
  deriving DecidableEq, Repr

/-- The thirteen bytes of a BOOK WATCH payload, field by field (11.6, Watch). -/
structure WatchOperand where
  station : Byte
  kind : Byte
  substate : Byte
  mode : Byte
  action1 : Byte
  action2 : Byte
  blockTag : Half
  effect : Byte
  duration : Half
  tagA : Byte
  tagB : Byte
  deriving DecidableEq, Repr

/-- What brings about a power-on reset (R176): the rise of the supply with RESETn high, or RESETn going low. -/
inductive ResetCause where
  | supplyRise | resetnLow
  deriving DecidableEq, Repr

/-- The commands of the block: one constructor for each row of spec/opcode_table.json, in the table's order. -/
inductive Instr where
  /-- The bytes clocked in between a fall and a rise of SFS, and the bits left over in an incomplete last byte (R1). -/
  | sampleFrame (bytes : List Byte) (extraBits : Nat)
  | frameSilenceExpiry
  /-- The raw levels of IN0..IN7 at a 1 ms sample, bit n for IN n (R42). -/
  | staticSample (levels : Byte)
  | sensePeriodStart
  /-- The raw levels of IN0..IN7 at the end of the 2 ms pulse (R43). -/
  | cyclicSample (levels : Byte)
  | discrepancyTimeout
  | tripRequest (cause : ProtCause)
  | tripFailExpiry
  | deadTimeExpiry
  | holdMaxExpiry
  | closeFailExpiry
  | reclaimExpiry
  | loadSettings (area : Byte) (offset : Half) (data : List Byte)
  | start
  | softReset
  | selectProfile (profile : Byte)
  | tag (number : Half) (duration : Half)
  | untag (number : Half)
  | unblock (source : Byte) (origin : Byte) (number : Half)
  | clearOverflow
  | bookWatch (w : WatchOperand)
  | unbookWatch (station : Byte) (kind : Byte) (substate : Byte)
  | manualOpen
  | manualClose
  | resetFail
  | startHunt
  | snapshotRequest
  | snapshotRead
  | readNotice
  | readTable (table : Byte) (first : Byte) (count : Byte)
  | readStatus
  | commandRejected (code : Byte) (length : Byte) (payload : List Byte) (crc : Byte)
  | transactionBegin
  | transactionEnd
  | powerOnReset (cause : ResetCause)
  | blockRecordExpiry (key : BlockKey)
  | watchFrameMatch (source : Byte) (body : FrameBody)
  | relaxTimerExpiry
  /-- The bytes the receiver collected, from the length byte to the last CRC byte (R118). -/
  | linkFrameReceived (bytes : List Byte)
  | receiveGapTimeout
  | neighbourQuietExpiry (address : Byte)
  | neighbourLostExpiry (address : Byte)
  | framePlacement (p : Placement)
  | carrierDetectChange (busy : Bool)
  | deferQuietExpiry
  | backoffExpiry
  | keyupExpiry
  | sendComplete
  | keydownExpiry
  | beaconTimerExpiry
  | restrainReceived (source : Byte) (r : RestrainInfo)
  | releaseReceived (source : Byte)
  | stateFrameReceived (source : Byte) (x : StateInfo)
  | tripFrameReceived (source : Byte) (t : TripInfo)
  | breakerFailReceived (source : Byte) (op : FailedOp)
  | restraintExpiry (address : Byte)
  | refreshTimerExpiry
  | huntCallReceived (source : Byte) (seqNo : Byte)
  | huntReportReceived (source : Byte) (r : ReportInfo)
  | huntVerdictReceived (source : Byte) (round : Round)
  | roundDeadlineExpiry
  | cooldownExpiry
  /-- A byte completed on RXD, and whether its stop bit was present (R118). -/
  | rxdByteCompleted (byte : Byte) (stopBit : Bool)
  | commandByteTaken (byte : Byte)
  | resetnRelease
  deriving DecidableEq, Repr

end Sys2Proof
end

