-- ==== Sys2Proof/WellFormed.lean ====
section
/-! DEFINITION. Which operands the spec's layouts allow: a decidable check on a command alone.
`exec` is total and gives every command a meaning; the check says which commands the world outside can send. -/

namespace Sys2Proof

/-- Station addresses are 1..62 (00_scope.md, Station addresses). -/
def Byte.isAddress (a : Byte) : Bool := decide (1 ≤ a.toNat) && decide (a.toNat ≤ 62)

/-- The sequencer states a STATE frame carries (R70; 11.3). -/
def SeqState.announced : SeqState → Bool
  | .closedRest | .reclaim | .lockout | .opened | .failed => true
  | .dormant | .tripping | .deadTime | .deadHold | .closing => false

/-- 11.3, TRIP: a cause 1..7, a shot count 0..4, TRIP_FAIL 6..100 in units of 10 ms. -/
def TripInfo.wf (t : TripInfo) : Bool :=
  decide (t.cause ≠ .none) && decide (t.shot ≤ 4) && decide (6 ≤ t.fail10) && decide (t.fail10 ≤ 100)

/-- 11.3, RESTRAIN: at least one element, a trip number 1..5. -/
def RestrainInfo.wf (r : RestrainInfo) : Bool :=
  (r.ph || r.ef || r.phh) && decide (1 ≤ r.tripNo) && decide (r.tripNo ≤ 5)

/-- 11.3, STATE: a state code 1, 6, 7, 8 or 9 and a shot count 0..4. -/
def StateInfo.wf (x : StateInfo) : Bool := x.st.announced && decide (x.shot ≤ 4)

/-- 11.3, HUNT_REPORT: a caller 1..62 and a magnitude 0..32767. -/
def ReportInfo.wf (r : ReportInfo) : Bool := r.round.caller.isAddress && decide (r.mag ≤ 32767)

/-- 11.3, BEACON: an interval 1..60 s. -/
def BeaconInfo.wf (b : BeaconInfo) : Bool := decide (1 ≤ b.interval) && decide (b.interval ≤ 60)

/-- Every payload field holds a value defined for it in 11.3. -/
def OwnedFrame.wf : OwnedFrame → Bool
  | .breakerFail _ => true
  | .trip t => t.wf
  | .restrain r => r.wf
  | .release => true
  | .state x => x.wf
  | .huntCall _ => true
  | .huntReport r => r.wf
  | .huntVerdict r => r.caller.isAddress

/-- Every payload field of a frame holds a value defined for it in 11.3. -/
def FrameBody.wf : FrameBody → Bool
  | .owned f => f.wf
  | .beacon b => b.wf

/-- A placement carries a payload that can be sent. -/
def Placement.wf : Placement → Bool
  | .owned f => f.wf
  | .beaconRequest => true

/-- A command whose operands lie in the ranges the spec's layouts give them. -/
def Instr.wf : Instr → Bool
  | .sampleFrame _ extraBits => decide (extraBits < 8)
  | .frameSilenceExpiry => true
  | .staticSample _ => true
  | .sensePeriodStart => true
  | .cyclicSample _ => true
  | .discrepancyTimeout => true
  | .tripRequest _ => true
  | .tripFailExpiry => true
  | .deadTimeExpiry => true
  | .holdMaxExpiry => true
  | .closeFailExpiry => true
  | .reclaimExpiry => true
  | .loadSettings _ _ data => decide (1 ≤ data.length) && decide (data.length ≤ 16)
  | .start => true
  | .softReset => true
  | .selectProfile _ => true
  | .tag _ _ => true
  | .untag _ => true
  | .unblock _ _ _ => true
  | .clearOverflow => true
  | .bookWatch _ => true
  | .unbookWatch _ _ _ => true
  | .manualOpen => true
  | .manualClose => true
  | .resetFail => true
  | .startHunt => true
  | .snapshotRequest => true
  | .snapshotRead => true
  | .readNotice => true
  | .readTable _ _ _ => true
  | .readStatus => true
  | .commandRejected _ length payload _ =>
    decide (payload.length = length.toNat) && decide (length.toNat ≤ 24)
  | .transactionBegin => true
  | .transactionEnd => true
  | .powerOnReset _ => true
  | .blockRecordExpiry key => key.origin.isAddress
  | .watchFrameMatch source body => source.isAddress && body.wf
  | .relaxTimerExpiry => true
  | .linkFrameReceived bytes =>
    decide (6 ≤ bytes.length) && decide (bytes.length ≤ 16) &&
      decide ((bytes.headD 0).toNat = bytes.length)
  | .receiveGapTimeout => true
  | .neighbourQuietExpiry address => address.isAddress
  | .neighbourLostExpiry address => address.isAddress
  | .framePlacement p => p.wf
  | .carrierDetectChange _ => true
  | .deferQuietExpiry => true
  | .backoffExpiry => true
  | .keyupExpiry => true
  | .sendComplete => true
  | .keydownExpiry => true
  | .beaconTimerExpiry => true
  | .restrainReceived source r => source.isAddress && r.wf
  | .releaseReceived source => source.isAddress
  | .stateFrameReceived source x => source.isAddress && x.wf
  | .tripFrameReceived source t => source.isAddress && t.wf
  | .breakerFailReceived source _ => source.isAddress
  | .restraintExpiry address => address.isAddress
  | .refreshTimerExpiry => true
  | .huntCallReceived source _ => source.isAddress
  | .huntReportReceived source r => source.isAddress && r.wf
  | .huntVerdictReceived source round => source.isAddress && round.caller.isAddress
  | .roundDeadlineExpiry => true
  | .cooldownExpiry => true
  | .rxdByteCompleted _ _ => true
  | .commandByteTaken _ => true
  | .resetnRelease => true

end Sys2Proof
end

