-- ==== Sys2Proof/Decode.lean ====
section
/-! DEFINITION. The command a word of spec/opcode_table.json spells. The table gives no row any bits, so no
word spells a command. The byte codings of the host's commands and of link frames are in Machine/Codec.lean and
Machine/Port.lean. -/

namespace Sys2Proof

/-- No row of the table gives bits, so every word is refused. -/
def decodeTableWord (_nbits _w : Nat) : Option Instr := none

end Sys2Proof
end

