-- ==== Sys2Proof/Machine/State.lean ====
section
/-! DEFINITION. The state of the part, block by block, and the state right after a power-on reset.
Every field is plain data. A timer is the instant it is set to, or `none` when it is stopped
(00_scope.md, Time). -/

namespace Sys2Proof.Machine

/-- Reasons for which a step of the part stops. The manual names none: bad frames are discarded (R1, R2, R119),
bad commands are answered with a result code (R170), so the type has no constructor. Safe: nothing raises it. -/
inductive Fault where
  deriving DecidableEq, Repr

/-- Refusals. -/
inductive Refusal where
  /-- Raised by an arm of `exec` whose command has no meaning yet; safe. No arm of this model uses it. -/
  | notModelled (mnemonic : String)
  deriving DecidableEq, Repr

/-! ### MEAS (chapter 1) -/

/-- The seven replaced channel values of one accepted sample (R2, R3). -/
structure Sample where
  ia : Int
  ib : Int
  ic : Int
  is : Int
  va : Int
  vb : Int
  vc : Int
  deriving DecidableEq, Repr

/-- Cycle assembly: WAITING, or ASSEMBLING(n) with the n samples taken, in the order taken (R3). -/
inductive Assembly where
  | waiting
  | assembling (samples : List Sample)
  deriving DecidableEq, Repr

/-- The measurement supervision status (R12, R13). -/
inductive MeasStatus where
  | fresh | stale
  deriving DecidableEq, Repr

/-- The results of one complete cycle (R6 to R10). -/
structure CycleResult where
  ia : Nat
  ib : Nat
  ic : Nat
  m : Nat
  ir : Nat
  is : Nat
  v0 : Nat
  p0 : Int
  dir : Direction
  deriving DecidableEq, Repr

/-- The four states of the snapshot mechanism (01, section 1.6). -/
inductive SnapState where
  | none | pending | valid | fail
  deriving DecidableEq, Repr

/-- A snapshot record (R17); the two accumulator fields are in units of 256, limited to 65,535. -/
structure Snapshot where
  ia : Nat
  ib : Nat
  ic : Nat
  ir : Nat
  is : Nat
  v0 : Nat
  p0 : Int
  dir : Direction
  accPh : Nat
  accEf : Nat
  sefCount : Nat
  effective : Profile
  st : SeqState
  shot : Nat
  sol : Nat
  time : Ms
  deriving DecidableEq, Repr

/-- The measurement engine. `cycleSerial` is the model's own name for the last completed cycle, 0 for none (log 17). -/
structure MeasState where
  assembly : Assembly
  silenceAt : Option Ms
  status : MeasStatus
  staleSince : Ms
  lossCount : Nat
  staleLoss : Nat
  last : CycleResult
  cycleTime : Ms
  cycleSerial : Nat
  snapState : SnapState
  snapshot : Option Snapshot
  deriving DecidableEq, Repr

/-! ### ELEM (chapter 2) -/

/-- The time-current elements: accumulators, counters, flags, and the indications of the last step (R39, R40). -/
structure ElemState where
  accPh : Nat
  accEf : Nat
  phhRun : Nat
  sefCount : Nat
  deferral : Bool
  waiver : Bool
  sefOperated : Bool
  pickedPh : Bool
  pickedEf : Bool
  pickedPhh : Bool
  summary : Bool
  activity : Bool
  sefPickup : Bool
  deriving DecidableEq, Repr

/-! ### FIN (chapter 3) -/

/-- What FIN keeps for one input: its confirmed level (`none` is unset), the static run with the sample before,
and the pending sample of CYCLIC sensing (R42, R43). -/
structure InputState where
  confirmed : Option Bool
  run : Nat
  prev : Option Bool
  pend : Option Bool
  deriving DecidableEq, Repr

/-- The two sample rows of the table, one for each sensing mode. -/
inductive SampleRow where
  | static | cyclic
  deriving DecidableEq, Repr

/-- The instants of sensing (R41): the end of the 2 ms that begin a sense period, `none` outside them; the next 1 ms
sample of the timebase; the levels on IN0..IN7; and the row whose samples another row took along, with the instant
(log 12). -/
structure SenseState where
  pulseEndAt : Option Ms
  staticAt : Ms
  pins : Byte
  along : Option (SampleRow × Ms)
  deriving DecidableEq, Repr

/-- The field input block. `inputs` holds IN0..IN7 in order. -/
structure FinState where
  inputs : List InputState
  forced : Bool
  nextPeriodAt : Option Ms
  sense : SenseState
  wet : Bool
  position : Position
  discrepancy : Bool
  discAt : Option Ms
  fieldDemand : Profile
  healthy : Bool
  deriving DecidableEq, Repr

/-! ### SEQ (chapter 4) -/

/-- The reclose sequencer. -/
structure SequencerState where
  st : SeqState
  shot : Nat
  manualClose : Bool
  noReclose : Bool
  lastCause : Cause
  timer : Option Ms
  tripLine : Bool
  closeLine : Bool
  deriving DecidableEq, Repr

/-! ### BLK (chapter 5) -/

/-- A block record (R78). -/
structure BlockRecord where
  key : BlockKey
  effect : BlockEffect
  setTime : Ms
  expiry : Option Ms
  deriving DecidableEq, Repr

/-- A booked watch (R89); `effect` is the byte as given (R185). -/
structure Watch where
  station : Byte
  kind : FrameKind
  substate : Byte
  mode : WatchMode
  action1 : WatchAction
  action2 : WatchAction
  blockTag : Half
  effect : Byte
  duration : Half
  tagA : Byte
  tagB : Byte
  deriving DecidableEq, Repr

/-- The block manager. -/
structure BlkState where
  table : List BlockRecord
  overflow : Bool
  watches : List Watch
  deriving DecidableEq, Repr

/-! ### PROF (chapter 6) -/

/-- Progress of a lowering of the effective profile (R106 to R109). -/
inductive RelaxState where
  | none | timing | due
  deriving DecidableEq, Repr

/-- The profile manager. -/
structure ProfState where
  port : Profile
  field : Profile
  ownDemand : Profile
  peer : Profile
  target : Profile
  effective : Profile
  relax : RelaxState
  relaxAt : Option Ms
  deriving DecidableEq, Repr

/-! ### LINK (chapter 7) -/

/-- What the slot of priority 3 holds (R127). -/
inductive RestraintMsg where
  | restrain (r : RestrainInfo)
  | release
  deriving DecidableEq, Repr

/-- The eight transmit slots, in priority order (R116, R127). -/
structure Slots where
  breakerFail : Option FailedOp
  trip : Option TripInfo
  restraint : Option RestraintMsg
  state : Option StateInfo
  huntCall : Option Byte
  huntReport : Option ReportInfo
  huntVerdict : Option Round
  beacon : Bool
  deriving DecidableEq, Repr

/-- The transmitter states (R128). -/
inductive TxState where
  | idle | defer | backoff | keyup | sending | keydown
  deriving DecidableEq, Repr

/-- The frame fixed at the start of a key-up (R130): its sign-of-life, what it says, and its bytes on the line. -/
structure FixedFrame where
  sol : Nat
  body : FrameBody
  bytes : List Byte
  deriving DecidableEq, Repr

/-- The receive states (R118); BODY holds the bytes from the length byte on. -/
inductive RxState where
  | hunt | sync1 | sync2
  | body (length : Nat) (bytes : List Byte)
  deriving DecidableEq, Repr

/-- A neighbour entry (R124) with its two supervision instants (R126). -/
structure Neighbour where
  address : Byte
  relation : Relation
  pinned : Bool
  status : NbrStatus
  lastSol : Option Nat
  lastHeard : Option Ms
  missed : Nat
  ownDemand : Profile
  effective : Profile
  st : Option SeqState
  pos : Position
  measFresh : Bool
  phase : HuntPhase
  interval : Nat
  tripFail : Option Nat
  quietAt : Option Ms
  lostAt : Option Ms
  deriving DecidableEq, Repr

/-- The feeder link controller. `txTimer` times the transmitter state; `cd` is the CD input, true when busy;
`txd` holds the bytes being sent, `none` at the stop level. -/
structure LinkState where
  slots : Slots
  tx : TxState
  txTimer : Option Ms
  sending : Option FixedFrame
  key : Bool
  txd : Option (List Byte)
  cd : Bool
  sol : Nat
  freshStart : Bool
  lastSent : Option Nat
  lfsr : Half
  beaconAt : Option Ms
  rx : RxState
  table : List Neighbour
  deriving DecidableEq, Repr

/-! ### TRIPCO (chapter 8) -/

/-- A restraint record (R136). -/
structure Restraint where
  address : Byte
  held : Bool
  tripped : Bool
  expiry : Option Ms
  lost : Bool
  deriving DecidableEq, Repr

/-- The coordinated-tripping block. -/
structure TripcoState where
  records : List Restraint
  restraining : Bool
  tripTaken : Bool
  refreshAt : Option Ms
  deriving DecidableEq, Repr

/-! ### HUNT (chapter 9) -/

/-- The capture accumulators (R155). -/
structure Capture where
  taken : Nat
  lost : Nat
  isSum : Nat
  fwd : Nat
  rev : Nat
  deriving DecidableEq, Repr

/-- The own report (R156). -/
structure OwnReport where
  mag : Nat
  dir : Direction
  isOpen : Bool
  incomplete : Bool
  deriving DecidableEq, Repr

/-- An entry of the hunt table (R160). -/
structure HuntReport where
  station : Byte
  relation : Relation
  mag : Nat
  dir : Direction
  isOpen : Bool
  incomplete : Bool
  round : Round
  crossed : Bool
  deriving DecidableEq, Repr

/-- The hunting block. `excluded` names a cycle by its serial (log 17). -/
structure HuntState where
  phase : HuntPhase
  arm : Nat
  ownSeq : Byte
  round : Option Round
  excluded : Option Nat
  capture : Capture
  ownReport : Option OwnReport
  table : List HuntReport
  heardOwner : Option Byte
  crossed : Nat
  ignored : Nat
  verdict : Verdict
  deadlineAt : Option Ms
  cooldownAt : Option Ms
  deriving DecidableEq, Repr

/-! ### CPORT (chapter 10) -/

/-- The transaction states (R169). -/
inductive TransState where
  | deselected | command | discard | response
  deriving DecidableEq, Repr

/-- The part-wide states (R175). -/
inductive PartState where
  | config | run
  deriving DecidableEq, Repr

/-- A settings image: area S of 81 bytes and area F of 44 bytes (11.7, 11.8). -/
structure Image where
  areaS : List Byte
  areaF : List Byte
  deriving DecidableEq, Repr

/-- The seventeen notice kinds (R179). -/
inductive NoticeKind where
  | trip | seqState | externalOpen | breakerFail | sefAlarm | profileChanged | huntVerdict | watchMatch
  | blockOverflow | peerStatus | addressClash | stale | fresh | breakerDiscrepancy | inputChange
  | started | restarted
  deriving DecidableEq, Repr

/-- A notice (R179); its category is fixed by its kind. -/
structure Notice where
  kind : NoticeKind
  time : Ms
  station : Byte
  detail1 : Half
  detail2 : Half
  tagA : Byte
  tagB : Byte
  deriving DecidableEq, Repr

/-- The command port. `rxBuf` holds the bytes of the command so far; `resp` and `respPos` the response and how
many of its bytes have been clocked out; `pdo` is `none` at high impedance. -/
structure CportState where
  trans : TransState
  rxBuf : List Byte
  resp : List Byte
  respPos : Nat
  pdo : Option Byte
  part : PartState
  staging : Image
  locked : Option Image
  notices : List Notice
  overflow : Bool
  attn : Bool
  deriving DecidableEq, Repr

/-- The whole part. `handovers` holds the events that one block has issued and another has not yet taken, oldest
first; `pending` the commands waiting; `freeCount` is the model's own counter for free values (log 1, 5). -/
structure State where
  now : Ms
  resetHeld : Bool
  meas : MeasState
  elem : ElemState
  fin : FinState
  sequencer : SequencerState
  blk : BlkState
  prof : ProfState
  link : LinkState
  tripco : TripcoState
  hunt : HuntState
  cport : CportState
  handovers : List Instr
  pending : List Instr
  freeCount : Nat
  deriving DecidableEq, Repr

/-! ### After a power-on reset -/

/-- R19. -/
def MeasState.reset : MeasState where
  assembly := .waiting
  silenceAt := none
  status := .stale
  staleSince := 0
  lossCount := 0
  staleLoss := 0
  last := { ia := 0, ib := 0, ic := 0, m := 0, ir := 0, is := 0, v0 := 0, p0 := 0, dir := .undetermined }
  cycleTime := 0
  cycleSerial := 0
  snapState := .none
  snapshot := none

/-- R40. -/
def ElemState.reset : ElemState where
  accPh := 0
  accEf := 0
  phhRun := 0
  sefCount := 0
  deferral := false
  waiver := false
  sefOperated := false
  pickedPh := false
  pickedEf := false
  pickedPhh := false
  summary := false
  activity := false
  sefPickup := false

/-- An input before its first sample (R54). -/
def InputState.reset : InputState := { confirmed := none, run := 0, prev := none, pend := none }

/-- R54: no pulse runs and no sample was taken; the contacts are open (log 12). -/
def SenseState.reset : SenseState := { pulseEndAt := none, staticAt := 0, pins := 0, along := none }

/-- R54: the sense periods start at the reset. -/
def FinState.reset : FinState where
  inputs := List.replicate 8 InputState.reset
  forced := false
  nextPeriodAt := some 0
  sense := SenseState.reset
  wet := false
  position := .unknown
  discrepancy := false
  discAt := none
  fieldDemand := .ordinary
  healthy := false

/-- R77. -/
def SequencerState.reset : SequencerState where
  st := .dormant
  shot := 0
  manualClose := false
  noReclose := false
  lastCause := .none
  timer := none
  tripLine := false
  closeLine := false

/-- R97. -/
def BlkState.reset : BlkState := { table := [], overflow := false, watches := [] }

/-- R114. -/
def ProfState.reset : ProfState where
  port := .ordinary
  field := .ordinary
  ownDemand := .ordinary
  peer := .ordinary
  target := .ordinary
  effective := .ordinary
  relax := .none
  relaxAt := none

/-- Every slot empty (R135). -/
def Slots.empty : Slots where
  breakerFail := none
  trip := none
  restraint := none
  state := none
  huntCall := none
  huntReport := none
  huntVerdict := none
  beacon := false

/-- R135; the unloaded backoff generator holds 0 (log 16) and CD is idle (log 15). -/
def LinkState.reset : LinkState where
  slots := Slots.empty
  tx := .idle
  txTimer := none
  sending := none
  key := false
  txd := none
  cd := false
  sol := 1
  freshStart := true
  lastSent := none
  lfsr := 0
  beaconAt := none
  rx := .hunt
  table := []

/-- R148. -/
def TripcoState.reset : TripcoState where
  records := []
  restraining := false
  tripTaken := false
  refreshAt := none

/-- The capture accumulators cleared (R152). -/
def Capture.zero : Capture := { taken := 0, lost := 0, isSum := 0, fwd := 0, rev := 0 }

/-- R168. -/
def HuntState.reset : HuntState where
  phase := .idle
  arm := 0
  ownSeq := 0
  round := none
  excluded := none
  capture := Capture.zero
  ownReport := none
  table := []
  heardOwner := none
  crossed := 0
  ignored := 0
  verdict := .none
  deadlineAt := none
  cooldownAt := none

/-- The all-zero staging image (R176). -/
def Image.zero : Image := { areaS := List.replicate 81 0, areaF := List.replicate 44 0 }

/-- R176; the buffers are empty (log 28), and PDO is at high impedance also where PSEL is still low, until its next fall
(the model's choice, log 41). -/
def CportState.reset : CportState where
  trans := .deselected
  rxBuf := []
  resp := []
  respPos := 0
  pdo := none
  part := .config
  staging := Image.zero
  locked := none
  notices := []
  overflow := false
  attn := false

/-- The part right after a power-on reset (R176). -/
def State.reset : State where
  now := 0
  resetHeld := false
  meas := MeasState.reset
  elem := ElemState.reset
  fin := FinState.reset
  sequencer := SequencerState.reset
  blk := BlkState.reset
  prof := ProfState.reset
  link := LinkState.reset
  tripco := TripcoState.reset
  hunt := HuntState.reset
  cport := CportState.reset
  handovers := []
  pending := []
  freeCount := 0

end Sys2Proof.Machine
end

