-- ==== Sys2Proof/Machine/Codes.lean ====
section
/-! DEFINITION. The codes of 11_frame_record_and_settings_layouts.md: each name's byte, and what a byte names. -/

namespace Sys2Proof.Machine

/-- Profile, demand: Ordinary 0, Elevated 1, Extreme 2. -/
def profileCode : Profile → Nat
  | .ordinary => 0
  | .elevated => 1
  | .extreme => 2

def profileOfCode : Nat → Option Profile
  | 0 => some .ordinary
  | 1 => some .elevated
  | 2 => some .extreme
  | _ => none

/-- The larger of two demands is the more restrictive one (00_scope.md, Profile order). -/
def profileMax (a b : Profile) : Profile := if profileCode a ≤ profileCode b then b else a

def seqStateCode : SeqState → Nat
  | .dormant => 0
  | .closedRest => 1
  | .tripping => 2
  | .deadTime => 3
  | .deadHold => 4
  | .closing => 5
  | .reclaim => 6
  | .lockout => 7
  | .opened => 8
  | .failed => 9

def seqStateOfCode : Nat → Option SeqState
  | 0 => some .dormant
  | 1 => some .closedRest
  | 2 => some .tripping
  | 3 => some .deadTime
  | 4 => some .deadHold
  | 5 => some .closing
  | 6 => some .reclaim
  | 7 => some .lockout
  | 8 => some .opened
  | 9 => some .failed
  | _ => none

def positionCode : Position → Nat
  | .unknown => 0
  | .closed => 1
  | .opened => 2

def positionOfCode : Nat → Option Position
  | 0 => some .unknown
  | 1 => some .closed
  | 2 => some .opened
  | _ => none

def causeCode : Cause → Nat
  | .none => 0
  | .ph => 1
  | .phh => 2
  | .ef => 3
  | .sef => 4
  | .huntOwner => 5
  | .intertrip => 6
  | .manual => 7

/-- The causes a TRIP frame can carry: 1..7 (11.3). -/
def causeOfCode : Nat → Option Cause
  | 1 => some .ph
  | 2 => some .phh
  | 3 => some .ef
  | 4 => some .sef
  | 5 => some .huntOwner
  | 6 => some .intertrip
  | 7 => some .manual
  | _ => none

/-- A protective cause as the cause SEQ records (R59). -/
def protCause : ProtCause → Cause
  | .ph => .ph
  | .phh => .phh
  | .ef => .ef
  | .sef => .sef
  | .huntOwner => .huntOwner
  | .intertrip => .intertrip

def directionCode : Direction → Nat
  | .undetermined => 0
  | .forward => 1
  | .reverse => 2

def directionOfCode : Nat → Option Direction
  | 0 => some .undetermined
  | 1 => some .forward
  | 2 => some .reverse
  | _ => none

def phaseCode : HuntPhase → Nat
  | .idle => 0
  | .capture => 1
  | .collect => 2
  | .cooldown => 3

def phaseOfCode : Nat → Option HuntPhase
  | 0 => some .idle
  | 1 => some .capture
  | 2 => some .collect
  | 3 => some .cooldown
  | _ => none

def verdictCode : Verdict → Nat
  | .none => 0
  | .owner => 1
  | .notOwner => 2
  | .uncertain => 3
  | .notInvolved => 4

def relationCode : Relation → Nat
  | .other => 0
  | .up => 1
  | .down => 2
  | .own => 3

def nbrStatusCode : NbrStatus → Nat
  | .fresh => 0
  | .quiet => 1
  | .lost => 2

def blockSourceCode : BlockSource → Nat
  | .tag => 1
  | .field => 2
  | .watch => 3
  | .sef => 4
  | .hunt => 5
  | .self => 6

def blockEffectCode : BlockEffect → Nat
  | .hold => 1
  | .lock => 2

def blockEffectOfCode : Nat → Option BlockEffect
  | 1 => some .hold
  | 2 => some .lock
  | _ => none

def watchModeCode : WatchMode → Nat
  | .once => 1
  | .standing => 2

def watchModeOfCode : Nat → Option WatchMode
  | 1 => some .once
  | 2 => some .standing
  | _ => none

def watchActionCode : WatchAction → Nat
  | .none => 0
  | .placeBlock => 1
  | .removeBlock => 2
  | .intertrip => 3

def watchActionOfCode : Nat → Option WatchAction
  | 0 => some .none
  | 1 => some .placeBlock
  | 2 => some .removeBlock
  | 3 => some .intertrip
  | _ => none

def failedOpCode : FailedOp → Nat
  | .trip => 1
  | .close => 2

def failedOpOfCode : Nat → Option FailedOp
  | 1 => some .trip
  | 2 => some .close
  | _ => none

def relaxCode : RelaxState → Nat
  | .none => 0
  | .timing => 1
  | .due => 2

def txCode : TxState → Nat
  | .idle => 0
  | .defer => 1
  | .backoff => 2
  | .keyup => 3
  | .sending => 4
  | .keydown => 5

def snapCode : SnapState → Nat
  | .none => 0
  | .pending => 1
  | .valid => 2
  | .fail => 3

def kindCode : FrameKind → Nat
  | .breakerFail => 1
  | .trip => 2
  | .restrain => 3
  | .release => 4
  | .state => 5
  | .huntCall => 6
  | .huntReport => 7
  | .huntVerdict => 8
  | .beacon => 9

/-- Kind codes 0 and 10..15 are not kinds (R116). -/
def kindOfCode : Nat → Option FrameKind
  | 1 => some .breakerFail
  | 2 => some .trip
  | 3 => some .restrain
  | 4 => some .release
  | 5 => some .state
  | 6 => some .huntCall
  | 7 => some .huntReport
  | 8 => some .huntVerdict
  | 9 => some .beacon
  | _ => none

/-- 11.5, kind codes. -/
def noticeCode : NoticeKind → Nat
  | .trip => 1
  | .seqState => 2
  | .externalOpen => 3
  | .breakerFail => 4
  | .sefAlarm => 5
  | .profileChanged => 6
  | .huntVerdict => 7
  | .watchMatch => 8
  | .blockOverflow => 9
  | .peerStatus => 10
  | .addressClash => 11
  | .stale => 12
  | .fresh => 13
  | .breakerDiscrepancy => 14
  | .inputChange => 15
  | .started => 16
  | .restarted => 17

/-- The category of a notice kind (R179): PROTECTION 0, COORDINATION 1, LINK 2, SUPERVISION 3 (11.5). -/
def noticeCategory : NoticeKind → Nat
  | .trip | .seqState | .externalOpen | .breakerFail | .sefAlarm => 0
  | .profileChanged | .huntVerdict | .watchMatch => 1
  | .peerStatus | .addressClash => 2
  | .blockOverflow | .stale | .fresh | .breakerDiscrepancy | .inputChange | .started | .restarted => 3

/-- The reasons of a SEQ_STATE notice (R70). -/
inductive Reason where
  | start | reclaimDone | resetFail | closeDone | externalClose | noReclose | shotLimit | blockLock
  | holdTimeout | profileRaise | externalOpen | manualOpen | tripFail | closeFail
  deriving DecidableEq, Repr

def reasonCode : Reason → Nat
  | .start => 1
  | .reclaimDone => 2
  | .resetFail => 3
  | .closeDone => 4
  | .externalClose => 5
  | .noReclose => 6
  | .shotLimit => 7
  | .blockLock => 8
  | .holdTimeout => 9
  | .profileRaise => 10
  | .externalOpen => 11
  | .manualOpen => 12
  | .tripFail => 13
  | .closeFail => 14

/-- The result codes of a response (R172). -/
inductive Result where
  | accepted | busy | notFound | refusedState | refusedRange | refusedLocked | refusedFull | refusedTagged
  | refusedLocal | refusedGas | crcError | unknownCommand
  deriving DecidableEq, Repr

def resultCode : Result → Nat
  | .accepted => 0
  | .busy => 1
  | .notFound => 2
  | .refusedState => 3
  | .refusedRange => 4
  | .refusedLocked => 5
  | .refusedFull => 6
  | .refusedTagged => 7
  | .refusedLocal => 8
  | .refusedGas => 9
  | .crcError => 10
  | .unknownCommand => 11

/-- The kind of a frame (R116). -/
def ownedKind : OwnedFrame → FrameKind
  | .breakerFail _ => .breakerFail
  | .trip _ => .trip
  | .restrain _ => .restrain
  | .release => .release
  | .state _ => .state
  | .huntCall _ => .huntCall
  | .huntReport _ => .huntReport
  | .huntVerdict _ => .huntVerdict

def bodyKind : FrameBody → FrameKind
  | .owned f => ownedKind f
  | .beacon _ => .beacon

/-- The substate of a frame: the sequencer state of a STATE, the cause of a TRIP, and ANY (255) for the kinds
that carry none (R92, R96). -/
def bodySubstate : FrameBody → Nat
  | .owned (.state x) => seqStateCode x.st
  | .owned (.trip t) => causeCode t.cause
  | _ => 255

/-! ### Bytes -/

/-- The low eight bits of a number. -/
def byteOf (n : Nat) : Byte := BitVec.ofNat 8 n

/-- A count sent in one byte saturates at 255 (R184). -/
def satByte (n : Nat) : Byte := BitVec.ofNat 8 (min n 255)

/-- Two bytes, most significant first (00_scope.md, Byte and bit order). -/
def be16 (n : Nat) : List Byte := [byteOf (n / 256), byteOf n]

/-- Four bytes, most significant first. -/
def be32 (n : Nat) : List Byte := [byteOf (n / 16777216), byteOf (n / 65536), byteOf (n / 256), byteOf n]

/-- A notice detail field of one quantity. -/
def half (n : Nat) : Half := BitVec.ofNat 16 n

/-- A notice detail field of two quantities: the first named stands in the high byte (11.5). -/
def pair (hi lo : Nat) : Half := BitVec.ofNat 16 (hi % 256 * 256 + lo % 256)

def flagBit (b : Bool) (n : Nat) : Nat := if b then 2 ^ n else 0

end Sys2Proof.Machine
end

