-- ==== Sys2Proof/Machine/Operands.lean ====
section
/-! DEFINITION. Where settings are read from: the fields of areas S and F (11.7, 11.8), the image that is in
force, and the staged values that blocks bring into range in CONFIG. -/

namespace Sys2Proof.Machine

/-! ### The fields of an image -/

def Image.s8 (i : Image) (off : Nat) : Nat := (i.areaS.getD off 0).toNat
def Image.s16 (i : Image) (off : Nat) : Nat := i.s8 off * 256 + i.s8 (off + 1)
def Image.s32 (i : Image) (off : Nat) : Nat := i.s16 off * 65536 + i.s16 (off + 2)
def Image.f8 (i : Image) (off : Nat) : Nat := (i.areaF.getD off 0).toNat
def Image.f16 (i : Image) (off : Nat) : Nat := i.f8 off * 256 + i.f8 (off + 1)

def Image.stationAddress (i : Image) : Byte := i.areaS.getD 0 0
def Image.feederCode (i : Image) : Half := half (i.s16 1)
def Image.upstream (i : Image) : Byte := i.areaS.getD 3 0
/-- The configured downstream addresses that are not 0, in the order of area S. -/
def Image.downstream (i : Image) : List Byte :=
  [i.areaS.getD 4 0, i.areaS.getD 5 0, i.areaS.getD 6 0, i.areaS.getD 7 0].filter (fun a => a != 0)
def Image.followPeers (i : Image) : Nat := i.s8 8
def Image.linkBaud (i : Image) : Nat := i.s8 9
def Image.keyupTime (i : Image) : Nat := i.s8 10
def Image.beaconInterval (i : Image) : Nat := i.s8 11
def Image.pickupPh (i : Image) : Nat := i.s16 12
def Image.curvePh (i : Image) : Nat := i.s8 14
def Image.delayedTmPh (i : Image) : Nat := i.s8 15
def Image.resetTimePh (i : Image) : Nat := i.s16 16
def Image.highSet (i : Image) : Nat := i.s16 18
def Image.delayHs (i : Image) : Nat := i.s16 20
def Image.delayLost (i : Image) : Nat := i.s16 22
def Image.curveEf (i : Image) : Nat := i.s8 24
def Image.resetTimeEf (i : Image) : Nat := i.s16 25
def Image.v0Min (i : Image) : Nat := i.s16 27
def Image.p0Min (i : Image) : Nat := i.s32 29
/-- DT1..DT4, by the shot count 1..4 (R56). -/
def Image.deadTime (i : Image) (shot : Nat) : Nat := i.s32 (33 + 4 * (shot - 1))
def Image.reclaim (i : Image) : Nat := i.s32 49
def Image.tripFail (i : Image) : Nat := i.s16 53
def Image.closeFail (i : Image) : Nat := i.s16 55
def Image.holdMax (i : Image) : Nat := i.s32 57
def Image.restraintHold (i : Image) : Nat := i.s16 61
def Image.huntDefer (i : Image) : Nat := i.s16 63
def Image.profileRelax (i : Image) : Nat := i.s16 65
def Image.inputMode (i : Image) (n : Nat) : Nat := i.s8 (67 + n)
def Image.sensePeriod (i : Image) : Nat := i.s8 75
def Image.discTime (i : Image) : Nat := i.s16 76
def Image.attnMask (i : Image) : Nat := i.s8 78

/-- The place of a profile's record in area F (11.8). -/
def profileBase (p : Profile) : Nat := 14 * profileCode p

def Image.shotLimit (i : Image) (p : Profile) : Nat := i.f8 (profileBase p)
def Image.fastTrips (i : Image) (p : Profile) : Nat := i.f8 (profileBase p + 1)
def Image.phhEnable (i : Image) (p : Profile) : Bool := i.f8 (profileBase p + 2) == 1
def Image.fastTmPh (i : Image) (p : Profile) : Nat := i.f8 (profileBase p + 3)
def Image.pickupEf (i : Image) (p : Profile) : Nat := i.f16 (profileBase p + 4)
def Image.tmEf (i : Image) (p : Profile) : Nat := i.f8 (profileBase p + 6)
def Image.pickupSef (i : Image) (p : Profile) : Nat := i.f16 (profileBase p + 7)
def Image.timeSef (i : Image) (p : Profile) : Nat := i.f16 (profileBase p + 9)
/-- SEF action: TRIP is 1, ALARM 0. -/
def Image.sefTrips (i : Image) (p : Profile) : Bool := i.f8 (profileBase p + 11) == 1
def Image.sefLock (i : Image) (p : Profile) : Bool := i.f8 (profileBase p + 12) == 1
def Image.huntEnable (i : Image) (p : Profile) : Bool := i.f8 (profileBase p + 13) == 1

/-! ### The values in force -/

def State.isRun (s : State) : Bool := s.cport.part == .run

/-- In RUN every block reads the locked settings, in CONFIG the staging image (R175). -/
def State.image (s : State) : Image := s.cport.locked.getD s.cport.staging

/-- This station's address: locked in RUN, staged in CONFIG (R119, R183). -/
def State.address (s : State) : Byte := s.image.stationAddress

/-- A staged value below the range is taken as the lower limit, one above it as the upper (R10). -/
def clampTo (lo hi n : Nat) : Nat := max lo (min hi n)

/-- R10. -/
def State.v0Min (s : State) : Nat := if s.isRun then s.image.v0Min else clampTo 1 20000 s.image.v0Min
/-- R10. -/
def State.p0Min (s : State) : Nat := if s.isRun then s.image.p0Min else clampTo 1 10000000 s.image.p0Min
/-- R41: a staged SENSE_PERIOD other than 50 is taken as 200. -/
def State.sensePeriod (s : State) : Nat :=
  if s.isRun then s.image.sensePeriod else if s.image.sensePeriod = 50 then 50 else 200
/-- R47. -/
def State.discTime (s : State) : Nat := if s.isRun then s.image.discTime else clampTo 20 500 s.image.discTime
/-- R124: the beacon interval of this station, in seconds. -/
def State.beaconInterval (s : State) : Nat :=
  if s.isRun then s.image.beaconInterval else clampTo 1 60 s.image.beaconInterval
/-- R102: the follow-peers flag; a staged value other than 1 is taken as 0. -/
def State.followPeers (s : State) : Bool := s.image.followPeers == 1
/-- R115: a staged code that is not one of the five rates is taken as 9600, code 4. -/
def effectiveBaud (i : Image) : Nat := if 1 ≤ i.linkBaud ∧ i.linkBaud ≤ 5 then i.linkBaud else 4

/-- Profile fields mean the value in the effective profile at the time of use (00_scope.md, Names). -/
def State.shotLimit (s : State) : Nat := s.image.shotLimit s.prof.effective
def State.sefLock (s : State) : Bool := s.image.sefLock s.prof.effective
def State.sefTrips (s : State) : Bool := s.image.sefTrips s.prof.effective
def State.pickupSef (s : State) : Nat := s.image.pickupSef s.prof.effective
def State.huntEnable (s : State) : Bool := s.image.huntEnable s.prof.effective

/-- The confirmed level of an input, `none` when unset. -/
def State.input (s : State) (n : Nat) : Option Bool := (s.fin.inputs.getD n InputState.reset).confirmed

/-- A field input confirmed 1; an unset one counts as 0 (R51). -/
def State.inputSet (s : State) (n : Nat) : Bool := s.input n == some true

/-- R41, R44: an input is sensed STATIC by its mode (any code but CYCLIC), or when BKR_A or BKR_B is forced. -/
def sensedStatic (i : Image) (forced : Bool) (n : Nat) : Bool :=
  (i.inputMode n != 1) || (forced && decide (n < 2))

/-- R41: at least one input is being sensed STATIC. -/
def anyStatic (i : Image) (forced : Bool) : Bool := (List.range 8).any (sensedStatic i forced)

end Sys2Proof.Machine
end

