-- ==== Sys2Proof/Machine/Flags.lean ====
section
/-! DEFINITION. Levels that follow from the state: the ATTN, HEALTHY and wetting outputs, the status byte, and
the indications blocks read of each other. -/

namespace Sys2Proof.Machine

/-- R180: some notice queued has a category that the mask enables; the bits above the four are ignored. -/
def attnLevel (mask : Nat) (q : List Notice) : Bool := q.any (fun n => mask.testBit (noticeCategory n.kind))

/-- R53. -/
def healthyLevel (s : State) : Bool :=
  s.isRun && (s.meas.status == .fresh) && (s.sequencer.st != .failed)

/-- R41: held high while an input is sensed STATIC, else high for the 2 ms that begin a sense period. -/
def wetLevel (s : State) : Bool := anyStatic s.image s.fin.forced || s.fin.sense.pulseEndAt.isSome

/-- 11.4: bit 7 RUN, bit 6 ATTN pending, bit 5 notice overflow, bit 4 MEAS fresh, bits 1..0 snapshot state (R172). -/
def statusByte (s : State) : Byte :=
  byteOf (flagBit s.isRun 7 + flagBit s.cport.attn 6 + flagBit s.cport.overflow 5 +
    flagBit (s.meas.status == .fresh) 4 + snapCode s.meas.snapState)

/-- R136: restraint held. -/
def restraintHeld (s : State) : Bool := s.tripco.records.any (·.held)

/-- R136: downstream lost. -/
def downstreamLost (s : State) : Bool := s.tripco.records.any (·.lost)

/-- R107: the at-rest sequencer states. -/
def SequencerState.atRest (q : SequencerState) : Bool :=
  match q.st with
  | .closedRest | .lockout | .opened | .failed => true
  | .dormant | .tripping | .deadTime | .deadHold | .closing | .reclaim => false

/-- R107: the station is at rest. -/
def State.atRest (s : State) : Bool := s.sequencer.atRest && !s.elem.activity && (s.hunt.phase == .idle)

/-- R144: the restrain condition. -/
def restrainCondition (s : State) : Bool :=
  s.elem.summary &&
    (match s.sequencer.st with
     | .closedRest | .reclaim | .tripping => true
     | .dormant | .deadTime | .deadHold | .closing | .lockout | .opened | .failed => false)

/-- R102: the largest announced own demand among the FRESH and QUIET entries. -/
def tableDemand (t : List Neighbour) : Profile :=
  t.foldl (fun p e => if e.status = .lost then p else profileMax p e.ownDemand) .ordinary

/-- R102: the peer demand that the neighbour table and the follow-peers flag give. -/
def peerDemand (s : State) : Profile := if s.followPeers then tableDemand s.link.table else .ordinary

end Sys2Proof.Machine
end

