-- ==== Sys2Proof/Machine/Ops.lean ====
section
/-! DEFINITION. The operations every block shares: instants, notices, hand-overs, lines and free values. -/

namespace Sys2Proof.Machine

/-! ### Instants -/

/-- The instant `d` ms from now, on the wrapping count (00_scope.md, Time). -/
def after (now : Ms) (d : Nat) : Ms := now + BitVec.ofNat 32 d

/-- The count has reached the instant `t`: it lies at or before `now`, as no timer runs for half the count or
longer (log 4). -/
def reached (now t : Ms) : Bool := decide ((now - t).toNat < 2147483648)

/-- A running timer whose instant the count has reached. -/
def due (now : Ms) : Option Ms → Bool
  | some t => reached now t
  | none => false

/-- The event at the instant `t`: the count is at `t` when it happens, or past it (log 3). -/
def State.arriveAt (s : State) (t : Ms) : State := { s with now := if reached s.now t then s.now else t }

/-! ### Notices (R179, R180) -/

/-- Queue a notice; with 64 present it is dropped and the overflow flag is set (R179). ATTN follows (R180). -/
def CportState.queue (c : CportState) (mask : Nat) (n : Notice) : CportState :=
  if c.notices.length < 64 then
    { c with notices := c.notices ++ [n], attn := attnLevel mask (c.notices ++ [n]) }
  else { c with overflow := true }

/-- Queue a notice about a station, stamped with the count; the user tags are those of a watch. -/
def queueTagged (kind : NoticeKind) (station : Byte) (d1 d2 : Half) (tagA tagB : Byte) (s : State) : State :=
  { s with
    cport := s.cport.queue s.image.attnMask
      { kind := kind, time := s.now, station := station, detail1 := d1, detail2 := d2, tagA := tagA, tagB := tagB } }

/-- Queue a notice that carries a station and user tag bytes 0. -/
def queueAbout (kind : NoticeKind) (station : Byte) (d1 d2 : Half) (s : State) : State :=
  queueTagged kind station d1 d2 0 0 s

/-- Queue a notice that carries this station's own address. -/
def queueOwn (kind : NoticeKind) (d1 d2 : Half) (s : State) : State := queueAbout kind s.address d1 d2 s

/-- CPORT sets the ATTN line anew (R180). -/
def refreshAttn (s : State) : State :=
  { s with cport := { s.cport with attn := attnLevel s.image.attnMask s.cport.notices } }

/-! ### Lines of FIN -/

/-- FIN sets the HEALTHY line anew (R53). -/
def refreshHealthy (s : State) : State := { s with fin := { s.fin with healthy := healthyLevel s } }

/-- FIN drives the wetting output (R41). -/
def refreshWet (s : State) : State := { s with fin := { s.fin with wet := wetLevel s } }

/-! ### Hand-overs -/

/-- An event issued by one block and to be taken by another (log 1). -/
def handOver (e : Instr) (s : State) : State := { s with handovers := s.handovers ++ [e] }

/-- The event is taken: the oldest hand-over equal to it, if there is one, is no longer outstanding (log 1). -/
def takeHandOver (e : Instr) (s : State) : State := { s with handovers := s.handovers.erase e }

/-- A block places a frame: an event at LINK (R127). -/
def placeFrame (f : OwnedFrame) (s : State) : State := handOver (.framePlacement (.owned f)) s

/-- PROF asks LINK for a BEACON (R113). -/
def askBeacon (s : State) : State := handOver (.framePlacement .beaconRequest) s

/-! ### Free values -/

/-- The next free value is another one. -/
def advanceFree (s : State) : State := { s with freeCount := s.freeCount + 1 }

/-! ### Outcomes -/

/-- While RESETn is held low the part takes nothing (R176); else the event has its effect. -/
def awake (f : State → State) (s : State) : Host.Outcome State Fault Refusal :=
  .next (if s.resetHeld then s else f s)

end Sys2Proof.Machine
end

