-- ==== Sys2Proof/Machine/Relax.lean ====
section
/-! DEFINITION. PROF, chapter 6: announcing a change of the effective profile, and completing a relax. Raises and
the demands stand in Profile.lean, above SEQ. -/

namespace Sys2Proof.Machine

/-- The kinds of change a PROFILE_CHANGED notice reports (11.5). -/
inductive ProfileChange where
  | raised | relaxed | followed
  deriving DecidableEq, Repr

def profileChangeCode : ProfileChange → Nat
  | .raised => 1
  | .relaxed => 2
  | .followed => 3

/-- Which of the port, field and peer demands equal the effective profile (R111; 11.5). -/
def demandFlags (p : ProfState) : Nat :=
  flagBit (p.port == p.effective) 0 + flagBit (p.field == p.effective) 1 + flagBit (p.peer == p.effective) 2

/-- The PROFILE_CHANGED notice (R111). -/
def queueProfileChanged (kind : ProfileChange) (previous : Profile) (s : State) : State :=
  queueOwn .profileChanged (pair (profileCode previous) (profileCode s.prof.effective))
    (pair (profileChangeCode kind) (demandFlags s.prof)) s

/-- The relax completes: the effective profile becomes the target, and in RUN a BEACON is asked for
(R108, R109, R111, R113). -/
def completeRelax (s : State) : State :=
  askBeacon (queueProfileChanged .relaxed s.prof.effective
    { s with prof := { s.prof with effective := s.prof.target, relax := .none, relaxAt := none } })

/-- PROF takes an event of R107: a relax that is DUE completes once the station is at rest (R109, log 30). -/
def profRest (s : State) : State := if s.prof.relax = .due ∧ s.atRest = true then completeRelax s else s

/-- The relax timer expires (R108). -/
def expireRelax (s : State) : State :=
  if s.atRest then completeRelax s else { s with prof := { s.prof with relax := .due, relaxAt := none } }

/-- R108; a stopped relax timer does not expire. -/
def execRelaxTimerExpiry : State → Host.Outcome State Fault Refusal :=
  awake (fun s => match s.prof.relaxAt with
    | some t => expireRelax (s.arriveAt t)
    | none => s)

end Sys2Proof.Machine
end

