-- ==== Sys2Proof/Machine/Restraint.lean ====
section
/-! DEFINITION. TRIPCO, chapter 8: the restraint records of the downstream neighbours, and the own side. -/

namespace Sys2Proof.Machine

/-! ### The own side (R144 to R147) -/

/-- The payload of a RESTRAIN, read when it is placed: the elements of the last step, and the shot count plus 1
(R144). -/
def restrainPayload (s : State) : RestrainInfo where
  ph := s.elem.pickedPh
  ef := s.elem.pickedEf
  phh := s.elem.pickedPhh
  tripNo := s.sequencer.shot + 1

/-- An episode begins (R144). -/
def beginEpisode (s : State) : State :=
  placeFrame (.restrain (restrainPayload s))
    { s with
      tripco := { s.tripco with
        restraining := true, tripTaken := s.sequencer.st == .tripping, refreshAt := some (after s.now 100) } }

/-- An episode ends: a RELEASE unless a trip was taken (R146). -/
def endEpisode (s : State) : State :=
  let ended := { s with tripco := { s.tripco with restraining := false, tripTaken := false, refreshAt := none } }
  if s.tripco.tripTaken then ended else placeFrame .release ended

/-- SEQ's entry to TRIPPING during an episode sets the trip-taken flag (R146). -/
def noteTripping (s : State) : State :=
  { s with tripco := { s.tripco with tripTaken := s.tripco.tripTaken || (s.sequencer.st == .tripping) } }

/-- TRIPCO takes a change of the pickup summary or a transition of SEQ (R144, R146). -/
def tripcoReview (s : State) : State :=
  if restrainCondition s then
    if s.tripco.restraining then noteTripping s else beginEpisode s
  else if s.tripco.restraining then endEpisode s else s

/-- The refresh timer expires: it restarts, and a RESTRAIN is placed if MEAS is FRESH (R145). -/
def refreshRestraint (s : State) : State :=
  let restarted := { s with tripco := { s.tripco with refreshAt := some (after s.now 100) } }
  if s.meas.status = .fresh then placeFrame (.restrain (restrainPayload s)) restarted else restarted

/-! ### The restraint records (R136 to R143) -/

/-- A record as START creates it (R136). -/
def Restraint.fresh (a : Byte) : Restraint :=
  { address := a, held := false, tripped := false, expiry := none, lost := true }

/-- The record cleared (R139). -/
def Restraint.clear (r : Restraint) : Restraint := { r with held := false, tripped := false, expiry := none }

/-- A RESTRAIN on the record; `hold` is the moment plus RESTRAINT_HOLD (R138). -/
def Restraint.restrain (hold : Ms) (r : Restraint) : Restraint :=
  if r.held then
    if r.tripped then { r with expiry := some (match r.expiry with
      | some e => if reached e hold then e else hold
      | none => hold) }
    else { r with expiry := some hold }
  else { r with held := true, tripped := false, expiry := some hold }

/-- A TRIP on the record (R140). -/
def Restraint.trip (hold : Ms) (r : Restraint) : Restraint :=
  { r with held := true, tripped := true, expiry := some hold }

/-- Change the record of one neighbour. -/
def onRecord (a : Byte) (f : Restraint → Restraint) (s : State) : State :=
  { s with
    tripco := { s.tripco with records := s.tripco.records.map (fun r => if r.address = a then f r else r) } }

/-- R137: the source's entry is pinned with relation DOWN. -/
def isDownstream (a : Byte) (s : State) : Bool :=
  s.link.table.any (fun e => (e.address == a) && e.pinned && (e.relation == .down))

/-- LINK hands over a change into or out of LOST of a pinned DOWN entry (R143). -/
def setLost (a : Byte) (lost : Bool) (s : State) : State := onRecord a (fun r => { r with lost := lost }) s

def takeRestrain (a : Byte) (s : State) : State :=
  if isDownstream a s then onRecord a (Restraint.restrain (after s.now s.image.restraintHold)) s else s

def takeRelease (a : Byte) (s : State) : State :=
  if isDownstream a s then onRecord a Restraint.clear s else s

def takeStateFrame (a : Byte) (x : StateInfo) (s : State) : State :=
  if isDownstream a s && (x.pos == .opened) then onRecord a Restraint.clear s else s

/-- The hold is the announced TRIP_FAIL, the frame's value times 10, plus 40 ms (R140, log 22). -/
def takeTripFrame (a : Byte) (t : TripInfo) (s : State) : State :=
  if isDownstream a s then onRecord a (Restraint.trip (after s.now (t.fail10 * 10 + 40))) s else s

/-- The record is cleared and the waiver set in one event, whichever operation failed (R141). -/
def takeBreakerFail (a : Byte) (s : State) : State :=
  if isDownstream a s then
    { onRecord a Restraint.clear s with elem := { s.elem with waiver := true } }
  else s

/-! ### The commands -/

def execRestrainReceived (a : Byte) (r : RestrainInfo) : State → Host.Outcome State Fault Refusal :=
  awake (fun s => takeRestrain a (takeHandOver (.restrainReceived a r) s))

def execReleaseReceived (a : Byte) : State → Host.Outcome State Fault Refusal :=
  awake (fun s => takeRelease a (takeHandOver (.releaseReceived a) s))

def execStateFrameReceived (a : Byte) (x : StateInfo) : State → Host.Outcome State Fault Refusal :=
  awake (fun s => takeStateFrame a x (takeHandOver (.stateFrameReceived a x) s))

def execTripFrameReceived (a : Byte) (t : TripInfo) : State → Host.Outcome State Fault Refusal :=
  awake (fun s => takeTripFrame a t (takeHandOver (.tripFrameReceived a t) s))

def execBreakerFailReceived (a : Byte) (op : FailedOp) : State → Host.Outcome State Fault Refusal :=
  awake (fun s => takeBreakerFail a (takeHandOver (.breakerFailReceived a op) s))

/-- The expiry instant of the held record of a neighbour. -/
def restraintInstant (a : Byte) (s : State) : Option Ms :=
  (s.tripco.records.find? (fun r => (r.address == a) && r.held)).bind (·.expiry)

/-- R142; with no held record of that neighbour nothing expires. -/
def execRestraintExpiry (a : Byte) : State → Host.Outcome State Fault Refusal :=
  awake (fun s => match restraintInstant a s with
    | some t => onRecord a Restraint.clear (s.arriveAt t)
    | none => s)

/-- R145; a stopped refresh timer does not expire. -/
def execRefreshTimerExpiry : State → Host.Outcome State Fault Refusal :=
  awake (fun s => match s.tripco.refreshAt with
    | some t => refreshRestraint (s.arriveAt t)
    | none => s)

end Sys2Proof.Machine
end

