-- ==== Sys2Proof/Machine/Table.lean ====
section
/-! DEFINITION. The block table of BLK as a list: placing and removing records (R78 to R81). What SEQ makes of a
change stands in Block.lean. -/

namespace Sys2Proof.Machine

def hasKey (k : BlockKey) (t : List BlockRecord) : Bool := t.any (fun r => decide (r.key = k))

/-- Refresh in place: effect and expiry become the requested ones, set time and place are kept (R79). -/
def refreshRecord (k : BlockKey) (effect : BlockEffect) (expiry : Option Ms) (t : List BlockRecord) :
    List BlockRecord :=
  t.map (fun r => if r.key = k then { r with effect := effect, expiry := expiry } else r)

/-- R79: the table after a placement request, or `none` where 16 records leave no room for a new key. -/
def placeRecord (k : BlockKey) (effect : BlockEffect) (now : Ms) (expiry : Option Ms) (t : List BlockRecord) :
    Option (List BlockRecord) :=
  if hasKey k t then some (refreshRecord k effect expiry t)
  else if t.length < 16 then some (t ++ [{ key := k, effect := effect, setTime := now, expiry := expiry }])
  else none

/-- The record of a key leaves the list (R78, R81). -/
def removeRecord (k : BlockKey) (t : List BlockRecord) : List BlockRecord := t.filter (fun r => decide (r.key ≠ k))

/-- The expiry of a duration in ms, absent where the duration is (R79, R82). -/
def expiryAfter (now : Ms) (duration : Option Nat) : Option Ms := duration.map (after now)

/-- A duration in seconds, 0 meaning none (R82, R84, R94). -/
def durationOf (seconds : Half) : Option Nat := if seconds = 0 then none else some (seconds.toNat * 1000)

/-- The placement fails: new key, 16 records (R80). -/
def placementFails (k : BlockKey) (s : State) : Bool :=
  !hasKey k s.blk.table && decide (16 ≤ s.blk.table.length)

/-- BLK takes a placement request (R79); a failed one sets the overflow flag and queues a BLOCK_OVERFLOW notice
(R80). -/
def storeBlock (k : BlockKey) (effect : BlockEffect) (duration : Option Nat) (s : State) : State :=
  match placeRecord k effect s.now (expiryAfter s.now duration) s.blk.table with
  | some t => { s with blk := { s.blk with table := t } }
  | none =>
    queueOwn .blockOverflow (pair (blockSourceCode k.source) k.origin.toNat) k.tag
      { s with blk := { s.blk with overflow := true } }

/-! ### The keys of this station's own records (05, section 5.2) -/

def tagKey (s : State) (n : Half) : BlockKey := { source := .tag, origin := s.address, tag := n }
def fieldKey (s : State) (n : Half) : BlockKey := { source := .field, origin := s.address, tag := n }
def sefKey (s : State) : BlockKey := { source := .sef, origin := s.address, tag := 3 }
def selfKey (s : State) : BlockKey := { source := .self, origin := s.address, tag := 1 }
def huntKey (r : Round) : BlockKey := { source := .hunt, origin := r.caller, tag := half r.seqNo.toNat }

/-- The keys of the records that fit a removal request, in list order (R81). -/
def keysWhere (f : BlockRecord → Bool) (t : List BlockRecord) : List BlockKey := (t.filter f).map (·.key)

/-- What SEQ looks for: a record of effect LOCK, or the overflow flag, which acts as one (R64, R65, R80). -/
def blockLocks (b : BlkState) : Bool := b.overflow || b.table.any (fun r => decide (r.effect = .lock))

end Sys2Proof.Machine
end

