-- ==== Sys2Proof/Machine/Sequencer.lean ====
section
/-! DEFINITION. SEQ, chapter 4: its transitions, what it announces, and the blocks it hands them to. PROF takes a
transition (`profRest`) where the event that causes it is complete. -/

namespace Sys2Proof.Machine

/-! ### Handing a transition on (R72) -/

/-- R44: an input whose sensing mode changes keeps its confirmed level and loses the state of the old mode. -/
def InputState.changeMode (x : InputState) : InputState := { x with run := 0, prev := none, pend := none }

/-- The inputs after BKR_A and BKR_B were forced or released: only one whose own mode is CYCLIC changes mode. -/
def changeForced (i : Image) (l : List InputState) : List InputState :=
  l.mapIdx (fun n x => if n < 2 ∧ i.inputMode n = 1 then x.changeMode else x)

/-- FIN forces BKR_A and BKR_B STATIC for as long as SEQ is in TRIPPING or CLOSING (R44). -/
def forceStatic (s : State) : State :=
  let want := (s.sequencer.st == .tripping) || (s.sequencer.st == .closing)
  if s.fin.forced = want then s
  else refreshWet { s with fin := { s.fin with forced := want, inputs := changeForced s.image s.fin.inputs } }

/-- SEQ hands a transition to FIN and TRIPCO (R72). -/
def handTransition (s : State) : State := tripcoReview (refreshHealthy (forceStatic s))

/-! ### Transitions and announcements (R55, R56, R70, R71) -/

/-- The state, with the lines and the timer that belong to it (R55, R56). -/
def SequencerState.enter (st : SeqState) (timer : Option Ms) (q : SequencerState) : SequencerState :=
  { q with st := st, timer := timer, tripLine := st == .tripping, closeLine := st == .closing }

def seqEnter (st : SeqState) (timer : Option Ms) (s : State) : State :=
  { s with sequencer := s.sequencer.enter st timer }

/-- SEQ places its STATE frame (R70). -/
def placeStateFrame (s : State) : State :=
  placeFrame (.state { st := s.sequencer.st, pos := s.fin.position, shot := s.sequencer.shot }) s

/-- A STATE frame and a SEQ_STATE notice (R70). -/
def announceState (r : Reason) (s : State) : State :=
  queueOwn .seqState (half (seqStateCode s.sequencer.st)) (half (reasonCode r)) (placeStateFrame s)

/-- A transition that is announced. -/
def seqMove (st : SeqState) (timer : Option Ms) (r : Reason) (s : State) : State :=
  handTransition (announceState r (seqEnter st timer s))

/-- A transition that is not announced. -/
def seqSlip (st : SeqState) (timer : Option Ms) (s : State) : State := handTransition (seqEnter st timer s)

/-- TRIP_FAIL in 10 ms units, rounded up (R71). -/
def tripFail10 (s : State) : Nat := (s.image.tripFail + 9) / 10

/-- The TRIP frame and the TRIP notice (R71). -/
def announceTrip (s : State) : State :=
  queueOwn .trip (half (causeCode s.sequencer.lastCause)) (half s.sequencer.shot)
    (placeFrame (.trip { cause := s.sequencer.lastCause, shot := s.sequencer.shot, fail10 := tripFail10 s }) s)

/-- The BREAKER_FAIL frame and notice (R71). -/
def announceFailure (op : FailedOp) (s : State) : State :=
  queueOwn .breakerFail (half (failedOpCode op))
    (half (match op with
      | .trip => causeCode s.sequencer.lastCause
      | .close => if s.sequencer.manualClose then 1 else 0))
    (placeFrame (.breakerFail op) s)

/-! ### The ends of a coil operation (R61, R62, R63, R67) -/

/-- The instant that ends a stay in a timed state, `d` ms from now. -/
def State.timerIn (s : State) (d : Nat) : Option Ms := some (after s.now d)

/-- In TRIPPING, the position OPEN (R62). -/
def seqOpened (s : State) : State :=
  if s.sequencer.noReclose then seqMove .lockout none .noReclose s
  else if s.shotLimit < s.sequencer.shot then seqMove .lockout none .shotLimit s
  else seqSlip .deadTime (s.timerIn (s.image.deadTime s.sequencer.shot)) s

/-- In CLOSING, the position CLOSED (R67). -/
def seqClosed (s : State) : State := seqMove .reclaim (s.timerIn s.image.reclaim) .closeDone s

/-- SEQ enters CLOSING; a position that is already CLOSED is taken at once (R61). -/
def seqClosing (s : State) : State :=
  let t := seqSlip .closing (s.timerIn s.image.closeFail) s
  if t.fin.position = .closed then seqClosed t else t

/-- A coil operation fails: FAILED, the BREAKER_FAIL frame and notice, then the announcement of the state
(R63, R67). -/
def seqFail (op : FailedOp) (r : Reason) (s : State) : State :=
  handTransition (announceState r (announceFailure op (seqEnter .failed none s)))

/-! ### Trips (R58 to R61) -/

/-- The SEF lock acts on this trip (R60, third case). -/
def sefLocks (c : ProtCause) (s : State) : Bool :=
  (match c with
   | .sef | .huntOwner => true
   | .ph | .phh | .ef | .intertrip => false) && s.sefLock

/-- R59 step 3 and R60: the no-reclose flag of a protective trip. -/
def tripIsFinal (c : ProtCause) (s : State) : Bool :=
  (4 ≤ s.sequencer.shot) || (c == .intertrip) || s.sequencer.manualClose || sefLocks c s

/-- Steps 1 to 5 of R59, but for the SEF lock record. -/
def SequencerState.trip (cause : Cause) (shot : Nat) (final : Bool) (timer : Option Ms) (q : SequencerState) :
    SequencerState :=
  { q.enter .tripping timer with lastCause := cause, shot := shot, noReclose := final }

/-- R61: TRIPPING takes a position that is already OPEN at once, also where a trip taken in CLOSING falls together with
CLOSED, for which R67 has SEQ stay in TRIPPING (log 39). -/
def takeOpenAtOnce (s : State) : State := if s.fin.position = .opened then seqOpened s else s

/-- Steps 6 to 8 of R59; the blocks of R72 learn of the entry before step 8 (log 26). -/
def finishTrip (s : State) : State := takeOpenAtOnce (handTransition (announceTrip s))

/-- R59: a protective trip request is taken. -/
def takeTrip (c : ProtCause) (s : State) : State :=
  let entered := { s with
    sequencer := s.sequencer.trip (protCause c) (min (s.sequencer.shot + 1) 4) (tripIsFinal c s)
      (s.timerIn s.image.tripFail) }
  finishTrip (if sefLocks c s then storeBlock (sefKey s) .lock none entered else entered)

/-- A trip with cause MANUAL: the shot count is kept, no-reclose is set, no SEF record is placed (R74). -/
def takeManualTrip (s : State) : State :=
  finishTrip { s with
    sequencer := s.sequencer.trip .manual s.sequencer.shot true (s.timerIn s.image.tripFail) }

/-- R58: the states in which a protective trip request is taken. -/
def takesTrip : SeqState → Bool
  | .closedRest | .reclaim | .closing => true
  | .dormant | .tripping | .deadTime | .deadHold | .lockout | .opened | .failed => false

/-- R58, R59: a trip request is taken or discarded. -/
def seqTripRequest (c : ProtCause) (s : State) : State :=
  if takesTrip s.sequencer.st then profRest (takeTrip c s) else s

/-! ### Changes of position (R62, R67, R69) -/

/-- An opening that SEQ did not ask for: the EXTERNAL_OPEN notice first, then the announcement (R69). -/
def seqExternalOpen (s : State) : State :=
  handTransition (announceState .externalOpen
    (queueOwn .externalOpen (half (seqStateCode s.sequencer.st)) (half s.sequencer.shot) (seqEnter .opened none s)))

/-- A closing that SEQ did not ask for: shot count 0, manual-close flag set (R69). -/
def seqExternalClose (s : State) : State :=
  seqMove .reclaim (s.timerIn s.image.reclaim) .externalClose
    { s with sequencer := { s.sequencer with shot := 0, manualClose := true } }

/-- SEQ takes a change of the breaker position that FIN holds (R62, R67, R69). -/
def seqPosition (s : State) : State :=
  match s.sequencer.st, s.fin.position with
  | .tripping, .opened => profRest (seqOpened s)
  | .closing, .closed => profRest (seqClosed s)
  | .closedRest, .opened | .reclaim, .opened => profRest (seqExternalOpen s)
  | .lockout, .closed | .opened, .closed | .deadTime, .closed | .deadHold, .closed => profRest (seqExternalClose s)
  | _, _ => s

/-! ### The block table (R64, R65) and the profile (R66) -/

/-- The block table is judged, with a record of effect HOLD leading to `hold` (R64, R65). -/
def judgeBlocks (hold : State → State) (s : State) : State :=
  if blockLocks s.blk then seqMove .lockout none .blockLock s
  else if s.blk.table = [] then seqClosing s
  else hold s

/-- The dead time expires (R64). -/
def seqDeadTimeOver (s : State) : State := judgeBlocks (fun t => seqSlip .deadHold (t.timerIn t.image.holdMax) t) s

/-- A change of the block table or of the overflow flag (R65, R83). -/
def seqBlockChange (s : State) : State :=
  if s.sequencer.st = .deadHold then profRest (judgeBlocks (fun t => t) s) else s

/-- A raise of the effective profile (R66). -/
def seqRaise (s : State) : State :=
  match s.sequencer.st with
  | .deadTime | .deadHold =>
    if s.shotLimit < s.sequencer.shot then seqMove .lockout none .profileRaise s else s
  | _ => s

/-! ### START (R57) -/

/-- SEQ leaves DORMANT according to the breaker position. -/
def seqStart (s : State) : State :=
  let cleared := { s with
    sequencer := { s.sequencer with shot := 0, manualClose := false, noReclose := false, lastCause := .none } }
  if s.fin.position = .closed then seqMove .closedRest none .start cleared else seqMove .lockout none .start cleared

/-! ### The commands -/

/-- R58, R59. -/
def execTripRequest (c : ProtCause) : State → Host.Outcome State Fault Refusal :=
  awake (fun s => seqTripRequest c (takeHandOver (.tripRequest c) s))

/-- The state timer expires in the state that set it (R56); in any other state, and with the timer stopped,
nothing happens. -/
def seqExpiry (st : SeqState) (f : State → State) (s : State) : State :=
  if s.sequencer.st = st then
    match s.sequencer.timer with
    | some t => profRest (f (s.arriveAt t))
    | none => s
  else s

/-- R63. -/
def execTripFailExpiry : State → Host.Outcome State Fault Refusal :=
  awake (seqExpiry .tripping (seqFail .trip .tripFail))

/-- R64. -/
def execDeadTimeExpiry : State → Host.Outcome State Fault Refusal := awake (seqExpiry .deadTime seqDeadTimeOver)

/-- R65. -/
def execHoldMaxExpiry : State → Host.Outcome State Fault Refusal :=
  awake (seqExpiry .deadHold (seqMove .lockout none .holdTimeout))

/-- R67. -/
def execCloseFailExpiry : State → Host.Outcome State Fault Refusal :=
  awake (seqExpiry .closing (seqFail .close .closeFail))

/-- The reclaim interval is over: shot count 0, manual-close flag clear (R68). -/
def seqReclaimDone (s : State) : State :=
  seqMove .closedRest none .reclaimDone
    { s with sequencer := { s.sequencer with shot := 0, manualClose := false } }

/-- R68. -/
def execReclaimExpiry : State → Host.Outcome State Fault Refusal := awake (seqExpiry .reclaim seqReclaimDone)

end Sys2Proof.Machine
end

