-- ==== Sys2Proof/Machine/Block.lean ====
section
/-! DEFINITION. BLK, chapter 5: changes of the block table as events at SEQ (R83), and the expiry of a record. -/

namespace Sys2Proof.Machine

/-- A placement request is taken and its change handed over: a record added or refreshed, or the overflow flag
set where it was clear (R79, R80, R83). -/
def placeBlock (k : BlockKey) (effect : BlockEffect) (duration : Option Nat) (s : State) : State :=
  if placementFails k s ∧ s.blk.overflow = true then storeBlock k effect duration s
  else seqBlockChange (storeBlock k effect duration s)

/-- A removal request for one key; one that fits no record is no change (R81). -/
def removeBlock (k : BlockKey) (s : State) : State :=
  if hasKey k s.blk.table then
    seqBlockChange { s with blk := { s.blk with table := removeRecord k s.blk.table } }
  else s

/-- Several records are removed one by one, each removal handed to SEQ against the state the one before left
(R83). -/
def removeBlocks (ks : List BlockKey) (s : State) : State := ks.foldl (fun t k => removeBlock k t) s

/-- Every record of a source (R81). -/
def removeSource (src : BlockSource) (s : State) : State :=
  removeBlocks (keysWhere (fun r => decide (r.key.source = src)) s.blk.table) s

/-- Every WATCH record with a given tag (R95). -/
def removeWatchTag (n : Half) (s : State) : State :=
  removeBlocks (keysWhere (fun r => decide (r.key.source = .watch ∧ r.key.tag = n)) s.blk.table) s

/-- The instant at which a record of that key expires, if one with an expiry is present. -/
def recordInstant (k : BlockKey) (s : State) : Option Ms :=
  (s.blk.table.find? (fun r => decide (r.key = k))).bind (·.expiry)

/-- R82; a record that is absent or has no expiry does not expire. -/
def execBlockRecordExpiry (k : BlockKey) : State → Host.Outcome State Fault Refusal :=
  awake (fun s => match recordInstant k s with
    | some t => removeBlock k (s.arriveAt t)
    | none => s)

end Sys2Proof.Machine
end

