-- ==== Sys2Proof/Machine/Hunt.lean ====
section
/-! DEFINITION. HUNT, chapter 9: rounds, captures, the hunt table and the verdict. -/

namespace Sys2Proof.Machine

/-! ### The hunt table (R160) -/

/-- The oldest entry of relation OTHER leaves the list. -/
def dropOldestOther : List HuntReport → List HuntReport
  | [] => []
  | r :: t => if r.relation = .other then t else r :: dropOldestOther t

/-- An insertion (R160). A full table with no entry of relation OTHER cannot arise; it would be left as it is
(log 25). -/
def insertReport (r : HuntReport) (t : List HuntReport) : List HuntReport :=
  if t.any (fun e => e.station == r.station) then t.map (fun e => if e.station = r.station then r else e)
  else if t.length < 16 then t ++ [r]
  else if t.any (fun e => e.relation == .other) then dropOldestOther t ++ [r]
  else t

def storeReport (r : HuntReport) (s : State) : State :=
  { s with hunt := { s.hunt with table := insertReport r s.hunt.table } }

/-- The relation of a station, from its neighbour entry (R160). -/
def relationOf (a : Byte) (s : State) : Relation :=
  ((s.link.table.find? (fun e => e.address == a)).map (·.relation)).getD .other

/-! ### The capture (R155 to R159) -/

/-- The round recorded at the opening; with none recorded, no frame of a round is ever formed. -/
def HuntState.ownRound (h : HuntState) : Round := h.round.getD { caller := 0, seqNo := 0 }

/-- R156: six agreeing cycles out of eight. -/
def captureDirection (c : Capture) : Direction :=
  if 6 ≤ c.fwd then .forward else if 6 ≤ c.rev then .reverse else .undetermined

/-- R156: the mean IS, and 0 where no cycle was taken. -/
def captureMean (c : Capture) : Nat := c.isSum / c.taken

def completeReport (c : Capture) : OwnReport :=
  { mag := c.isSum / 8, dir := captureDirection c, isOpen := false, incomplete := false }

def incompleteReport (c : Capture) : OwnReport :=
  { mag := captureMean c, dir := .undetermined, isOpen := false, incomplete := true }

/-- R157. -/
def openReport (c : Capture) : OwnReport :=
  { mag := captureMean c, dir := .undetermined, isOpen := true, incomplete := false }

/-- The HUNT_REPORT of the own report (R159). -/
def reportFrame (round : Round) (r : OwnReport) : ReportInfo :=
  { round := round, mag := r.mag, dir := r.dir, isOpen := r.isOpen, incomplete := r.incomplete }

/-- The own report as an entry of the hunt table (R159). -/
def ownEntry (a : Byte) (round : Round) (r : OwnReport) : HuntReport :=
  { station := a, relation := .own, mag := r.mag, dir := r.dir, isOpen := r.isOpen, incomplete := r.incomplete,
    round := round, crossed := false }

/-- The capture ends with the own report: the HUNT_REPORT is placed, then the report joins the table
(R159 steps 1 and 2). -/
def report (r : OwnReport) (s : State) : State :=
  storeReport (ownEntry s.address s.hunt.ownRound r)
    (placeFrame (.huntReport (reportFrame s.hunt.ownRound r))
      { s with hunt := { s.hunt with ownReport := some r } })

/-- The capture ends, and COLLECT begins (R159). -/
def endCapture (r : OwnReport) (s : State) : State :=
  let t := report r s
  { t with hunt := { t.hunt with phase := .collect } }

/-- The end conditions, after each cycle taken or lost (R155). -/
def checkCapture (s : State) : State :=
  if 8 ≤ s.hunt.capture.taken then endCapture (completeReport s.hunt.capture) s
  else if 12 ≤ s.hunt.capture.taken + s.hunt.capture.lost then endCapture (incompleteReport s.hunt.capture) s
  else s

def Capture.take (r : CycleResult) (c : Capture) : Capture :=
  { c with
    taken := c.taken + 1, isSum := c.isSum + r.is,
    fwd := if r.dir = .forward then c.fwd + 1 else c.fwd,
    rev := if r.dir = .reverse then c.rev + 1 else c.rev }

def onCapture (f : Capture → Capture) (s : State) : State :=
  { s with hunt := { s.hunt with capture := f s.hunt.capture } }

/-- MEAS hands a completed cycle over (R155); the excluded cycle is not taken. -/
def huntCycle (s : State) : State :=
  if s.hunt.phase = .capture ∧ s.hunt.excluded ≠ some s.meas.cycleSerial then
    checkCapture (onCapture (Capture.take s.meas.last) s)
  else s

/-- MEAS indicates a lost cycle (R155). -/
def huntLost (s : State) : State :=
  if s.hunt.phase = .capture then checkCapture (onCapture (fun c => { c with lost := c.lost + 1 }) s) else s

/-- FIN hands over a change of position (R157). -/
def huntPosition (s : State) : State :=
  if s.hunt.phase = .capture ∧ s.fin.position = .opened then endCapture (openReport s.hunt.capture) s else s

/-! ### Opening a round (R149 to R154) -/

/-- R152 steps 1 to 4: the state a round starts from. -/
def HuntState.begin (round : Round) (excluded : Option Nat) (h : HuntState) : HuntState :=
  { h with
    table := [], round := some round, excluded := excluded, capture := Capture.zero, ownReport := none,
    heardOwner := none, verdict := .none, crossed := 0, ignored := 0, arm := 0 }

/-- The last completed cycle, by its serial (R152; log 17). -/
def lastCycle (m : MeasState) : Option Nat := if m.cycleSerial = 0 then none else some m.cycleSerial

/-- R152 steps 7 to 9. -/
def enterCapture (s : State) : State :=
  huntPosition { s with hunt := { s.hunt with deadlineAt := some (after s.now 600), phase := .capture } }

/-- A round opens by joining (R151, R152). -/
def joinRound (round : Round) (s : State) : State :=
  enterCapture (placeBlock (huntKey round) .hold none
    { s with hunt := s.hunt.begin round (lastCycle s.meas) })

/-- The round of this station's next call (R152, R153). -/
def nextOwnRound (s : State) : Round := { caller := s.address, seqNo := s.hunt.ownSeq }

/-- The station calls a round, BLK taking the placement of the HUNT record as `place` says (R152). -/
def callRoundBy (place : BlockKey → State → State) (s : State) : State :=
  enterCapture (placeFrame (.huntCall s.hunt.ownSeq)
    (place (huntKey (nextOwnRound s))
      { s with
        hunt := { s.hunt.begin (nextOwnRound s) (lastCycle s.meas) with ownSeq := s.hunt.ownSeq + 1 } }))

/-- The station calls a round (R149, R150, R152). -/
def callRound (s : State) : State := callRoundBy (fun k => placeBlock k .hold none) s

/-- The arm count after a step in IDLE (R149). -/
def nextArm (pickup : Bool) (arm : Nat) : Nat := if pickup then min (arm + 1) 5 else 0

/-- HUNT takes the SEF pickup indication at the end of an element step (R149). -/
def huntStep (s : State) : State :=
  if s.hunt.phase = .idle then
    let armed := { s with hunt := { s.hunt with arm := nextArm s.elem.sefPickup s.hunt.arm } }
    if armed.hunt.arm = 5 ∧ s.huntEnable = true then callRound armed else armed
  else { s with hunt := { s.hunt with arm := 0 } }

/-! ### The verdict (R162 to R166) -/

/-- A report that sees the fault at this station's pickup (R162). -/
def seesFault (pickup : Nat) (dir : Direction) (mag : Nat) : Bool := (dir == .forward) && decide (pickup ≤ mag)

/-- R162: a neighbour without a report whose entry shows it open is clear. -/
def entryClear (e : Neighbour) : Bool :=
  (e.pos == .opened) ||
    (match e.st with
     | some .lockout | some .opened | some .failed | some .deadTime | some .deadHold => true
     | _ => false)

/-- The classes of a configured downstream neighbour (R162). -/
inductive NeighbourClass where
  | seesFault | clear | missing
  deriving DecidableEq, Repr

def classify (pickup : Nat) (h : HuntState) (t : List Neighbour) (a : Byte) : NeighbourClass :=
  match h.table.find? (fun r => r.station == a) with
  | some r => if seesFault pickup r.dir r.mag then .seesFault else .clear
  | none => if t.any (fun e => (e.address == a) && entryClear e) then .clear else .missing

/-- The verdict (R162). -/
def decideVerdict (s : State) : Verdict :=
  match s.hunt.ownReport with
  | none => .notInvolved
  | some r =>
    if seesFault s.pickupSef r.dir r.mag then
      let classes := s.image.downstream.map (classify s.pickupSef s.hunt s.link.table)
      if classes.any (· == .seesFault) then .notOwner
      else if classes.any (· == .missing) then .uncertain
      else .owner
    else .notInvolved

/-- The HUNT_VERDICT notice, for the verdict held and an owner's address (R163). -/
def queueVerdict (owner : Byte) (s : State) : State :=
  queueAbout .huntVerdict s.hunt.ownRound.caller
    (pair s.hunt.ownRound.seqNo.toNat (verdictCode s.hunt.verdict))
    (pair owner.toNat (min (s.hunt.crossed + s.hunt.ignored) 255)) s

/-- The owner's address of R163. -/
def verdictOwner (v : Verdict) (s : State) : Byte :=
  if v = .owner then s.address else s.hunt.heardOwner.getD 0

/-- ELEM's deferral flag is set (R165). -/
def setDeferral (s : State) : State := { s with elem := { s.elem with deferral := true } }

/-- The trip request of an OWNER verdict with action TRIP. Where SEQ was in DEAD_HOLD, the request may have
reached it before the removal of the HUNT record, and is then discarded (R163; log 5). -/
def requestOwnerTrip (stBefore : SeqState) (s : State) : State :=
  if stBefore = .deadHold ∧ Config.ownerRequestFirst s.freeCount = true then advanceFree s
  else advanceFree (handOver (.tripRequest .huntOwner) s)

/-- R164. -/
def actAsOwner (stBefore : SeqState) (s : State) : State :=
  let told := placeFrame (.huntVerdict s.hunt.ownRound) s
  if s.sefTrips then requestOwnerTrip stBefore told else told

/-- R164, R165: acting on the verdict. -/
def actOnVerdict (v : Verdict) (stBefore : SeqState) (s : State) : State :=
  match v with
  | .owner => actAsOwner stBefore s
  | .notOwner => setDeferral s
  | .none | .uncertain | .notInvolved => s

/-- R163 step 4. -/
def enterCooldown (s : State) : State :=
  { s with
    hunt := { s.hunt with deadlineAt := none, cooldownAt := some (after s.now 5000), phase := .cooldown } }

/-- R163: the steps of a verdict. -/
def giveVerdict (v : Verdict) (s : State) : State :=
  let held := { s with hunt := { s.hunt with verdict := v } }
  let freed := removeBlock (huntKey s.hunt.ownRound) held
  enterCooldown (actOnVerdict v s.sequencer.st (queueVerdict (verdictOwner v freed) freed))

/-- The round deadline in COLLECT (R162), or in CAPTURE, where the capture ends first (R158). -/
def reachDeadline (s : State) : State :=
  let t := if s.hunt.phase = .capture then report (incompleteReport s.hunt.capture) s else s
  giveVerdict (decideVerdict t) t

/-! ### Frames from other stations (R151, R160, R161, R165) -/

def bump (n : Nat) : Nat := min (n + 1) 255

/-- R151. -/
def takeCall (round : Round) (s : State) : State :=
  match s.hunt.phase with
  | .idle => if s.huntEnable then joinRound round s else s
  | .capture =>
    if s.hunt.round = some round then s
    else { s with hunt := { s.hunt with crossed := bump s.hunt.crossed } }
  | .collect | .cooldown => { s with hunt := { s.hunt with ignored := bump s.hunt.ignored } }

/-- A report received, as an entry of the hunt table (R160). -/
def receivedEntry (source : Byte) (r : ReportInfo) (s : State) : HuntReport :=
  { station := source, relation := relationOf source s, mag := r.mag, dir := r.dir, isOpen := r.isOpen,
    incomplete := r.incomplete, round := r.round, crossed := decide (s.hunt.round ≠ some r.round) }

/-- R160, R161. -/
def takeReport (source : Byte) (r : ReportInfo) (s : State) : State :=
  match s.hunt.phase with
  | .capture | .collect => storeReport (receivedEntry source r s) s
  | .idle | .cooldown => s

/-- R165: the hunt table holds a FORWARD report from that station. -/
def reportedForward (source : Byte) (h : HuntState) : Bool :=
  h.table.any (fun r => (r.station == source) && (r.dir == .forward))

/-- R165: an UNCERTAIN verdict is resolved. -/
def resolveUncertain (source : Byte) (s : State) : State :=
  queueVerdict source { setDeferral s with hunt := { s.hunt with verdict := .notOwner } }

/-- R161, R165. -/
def takeVerdict (source : Byte) (s : State) : State :=
  match s.hunt.phase with
  | .capture | .collect =>
    { s with hunt := { s.hunt with heardOwner := some (s.hunt.heardOwner.getD source) } }
  | .cooldown =>
    if s.hunt.verdict = .uncertain ∧ reportedForward source s.hunt = true then resolveUncertain source s else s
  | .idle => s

/-! ### The commands -/

/-- R151; in CONFIG no frame reaches HUNT (R167). -/
def execHuntCallReceived (source seqNo : Byte) : State → Host.Outcome State Fault Refusal :=
  awake (fun s =>
    let t := takeHandOver (.huntCallReceived source seqNo) s
    if t.isRun then takeCall { caller := source, seqNo := seqNo } t else t)

/-- R160. -/
def execHuntReportReceived (source : Byte) (r : ReportInfo) : State → Host.Outcome State Fault Refusal :=
  awake (fun s => takeReport source r (takeHandOver (.huntReportReceived source r) s))

/-- R161, R165. -/
def execHuntVerdictReceived (source : Byte) (round : Round) : State → Host.Outcome State Fault Refusal :=
  awake (fun s => takeVerdict source (takeHandOver (.huntVerdictReceived source round) s))

/-- R158, R162; a stopped deadline does not expire. -/
def execRoundDeadlineExpiry : State → Host.Outcome State Fault Refusal :=
  awake (fun s => match s.hunt.deadlineAt with
    | some t => reachDeadline (s.arriveAt t)
    | none => s)

/-- HUNT returns to IDLE, which PROF learns of (R166, R107). -/
def endCooldown (s : State) : State :=
  profRest { s with hunt := { s.hunt with phase := .idle, cooldownAt := none } }

/-- R166; a stopped cooldown timer does not expire. -/
def execCooldownExpiry : State → Host.Outcome State Fault Refusal :=
  awake (fun s => match s.hunt.cooldownAt with
    | some t => endCooldown (s.arriveAt t)
    | none => s)

end Sys2Proof.Machine
end

