-- ==== Sys2Proof/Machine/Profile.lean ====
section
/-! DEFINITION. PROF, chapter 6: the demands, the target, and what a change of target does. -/

namespace Sys2Proof.Machine

/-- The demands as given, with own demand and target recomputed (R101, R104). -/
def ProfState.demand (port field peer : Profile) (p : ProfState) : ProfState :=
  { p with
    port := port, field := field, ownDemand := profileMax port field, peer := peer,
    target := profileMax (profileMax port field) peer }

/-- A raise is handed on: the event at SEQ and the notice, in either order (R66, R111; log 5). -/
def handRaise (previous : Profile) (s : State) : State :=
  if Config.seqBeforeProfileNotice s.freeCount then
    advanceFree (queueProfileChanged .raised previous (seqRaise s))
  else advanceFree (seqRaise (queueProfileChanged .raised previous s))

/-- R105: the effective profile is raised to the target at once and any relax ends. -/
def raiseProfile (s : State) : State :=
  handRaise s.prof.effective
    { s with prof := { s.prof with effective := s.prof.target, relax := .none, relaxAt := none } }

/-- R104 in RUN, for a target that changed. -/
def takeTarget (s : State) : State :=
  if profileCode s.prof.effective < profileCode s.prof.target then raiseProfile s
  else if s.prof.target = s.prof.effective then
    { s with prof := { s.prof with relax := .none, relaxAt := none } }
  else
    { s with prof := { s.prof with relax := .timing, relaxAt := some (after s.now (s.image.profileRelax * 1000)) } }

/-- R110: in CONFIG the effective profile follows the target at once. -/
def followTarget (s : State) : State :=
  if s.prof.target = s.prof.effective then s
  else queueProfileChanged .followed s.prof.effective { s with prof := { s.prof with effective := s.prof.target } }

/-- R113: PROF asks once for a BEACON where the own demand or the effective profile changed. -/
def askIfChanged (before : ProfState) (s : State) : State :=
  if s.prof.ownDemand = before.ownDemand ∧ s.prof.effective = before.effective then s else askBeacon s

/-- PROF takes a change of a demand: own demand, target and effective profile follow (R100 to R106, R110). -/
def settle (port field peer : Profile) (s : State) : State :=
  let t := { s with prof := s.prof.demand port field peer }
  if s.isRun then
    askIfChanged s.prof (if t.prof.target = s.prof.target then t else takeTarget t)
  else if t.prof.target = s.prof.target then t else followTarget t

/-- The host's demand (R100). -/
def setPortDemand (p : Profile) (s : State) : State := settle p s.prof.field s.prof.peer s

/-- FIN hands a new field demand over (R48, R101). -/
def setFieldDemand (p : Profile) (s : State) : State := settle s.prof.port p s.prof.peer s

/-- PROF recomputes the peer demand from the neighbour table (R102, R103). -/
def refreshPeerDemand (s : State) : State := settle s.prof.port s.prof.field (peerDemand s) s

end Sys2Proof.Machine
end

