-- ==== Sys2Proof/Machine/Field.lean ====
section
/-! DEFINITION. FIN, chapter 3: sensing the eight inputs, the breaker position, the field demand and the FIELD
records. -/

namespace Sys2Proof.Machine

/-! ### Confirmation (R42, R43) -/

/-- The level is confirmed, and the sensing state starts afresh. -/
def InputState.confirm (level : Bool) : InputState := { confirmed := some level, run := 0, prev := none, pend := none }

/-- One 1 ms sample of a STATIC input (R42). -/
def InputState.sampleStatic (level : Bool) (x : InputState) : InputState :=
  match x.confirmed with
  | some c =>
    if level = c then { x with run := 0 }
    else if 3 ≤ x.run then InputState.confirm level
    else { x with run := x.run + 1 }
  | none =>
    if x.prev = some level then
      if 3 ≤ x.run then InputState.confirm level else { x with run := x.run + 1 }
    else { x with run := 1, prev := some level }

/-- One period sample of a CYCLIC input (R43). -/
def InputState.sampleCyclic (level : Bool) (x : InputState) : InputState :=
  match x.confirmed with
  | some c =>
    if level = c then { x with pend := none }
    else if x.pend.isSome then InputState.confirm level
    else { x with pend := some level }
  | none => if x.pend = some level then InputState.confirm level else { x with pend := some level }

/-- One sample of an input: a sample of the timebase where its mode is STATIC, a period sample where it is CYCLIC. -/
def InputState.sample (isStatic level : Bool) (x : InputState) : InputState :=
  if isStatic then x.sampleStatic level else x.sampleCyclic level

/-- The inputs sampled at one instant are taken together: those of the modes that are sampled then (R41). -/
def sampleInputs (mode : Nat → Bool) (sampled : SampleRow → Bool) (levels : Byte) (l : List InputState) :
    List InputState :=
  l.mapIdx (fun n x =>
    if sampled (if mode n then .static else .cyclic) then x.sample (mode n) (levels.getLsbD n) else x)

/-! ### Breaker position (R46, R47) -/

/-- FIN hands a change of position to SEQ and to HUNT as one event (R46). -/
def handPosition (s : State) : State := huntPosition (seqPosition s)

/-- A consistent pair sets the position and ends any discrepancy (R46). -/
def setPosition (p : Position) (s : State) : State :=
  let t := { s with fin := { s.fin with position := p, discrepancy := false, discAt := none } }
  if s.fin.position = p then t else handPosition t

/-- An inconsistent pair begins a discrepancy where none is in progress (R47). -/
def beginDiscrepancy (s : State) : State :=
  if s.fin.discrepancy then s
  else { s with fin := { s.fin with discrepancy := true, discAt := some (after s.now s.discTime) } }

/-- The derivation from the confirmed pair (BKR_A, BKR_B) (R46). -/
def derivePosition (s : State) : State :=
  match s.input 0, s.input 1 with
  | some true, some false => setPosition .closed s
  | some false, some true => setPosition .opened s
  | some _, some _ => beginDiscrepancy s
  | none, _ | some _, none => s

/-- The pair as BKR_A × 2 + BKR_B (R47). -/
def pairCode (s : State) : Nat := flagBit (s.inputSet 0) 1 + flagBit (s.inputSet 1) 0

/-- The discrepancy timer expires: the position becomes UNKNOWN, and a notice is queued (R47). -/
def expireDiscrepancy (s : State) : State :=
  let t := { s with fin := { s.fin with position := .unknown, discAt := none } }
  queueOwn .breakerDiscrepancy (half (pairCode s)) (half (positionCode s.fin.position))
    (if s.fin.position = .unknown then t else handPosition t)

/-! ### Field demand (R48) -/

/-- The demand the key contacts encode; an unset contact gives Ordinary (R48). -/
def keyDemand (k1 k0 : Option Bool) : Profile :=
  match k1, k0 with
  | some false, some true => .elevated
  | some true, some _ => .extreme
  | some false, some false | none, _ | some _, none => .ordinary

/-- The derivation of the field demand, handed to PROF where it changed (R48). -/
def deriveDemand (s : State) : State :=
  let d := keyDemand (s.input 4) (s.input 3)
  if d = s.fin.fieldDemand then s else setFieldDemand d { s with fin := { s.fin with fieldDemand := d } }

/-! ### Pole inputs (R49, R50, R52) -/

/-- The INPUT_CHANGE notice: a first confirmation reports 16 plus the level (R52). -/
def queueInputChange (n : Nat) (first level : Bool) (s : State) : State :=
  queueOwn .inputChange (half n) (half (flagBit first 4 + flagBit level 0)) s

/-- In RUN, NONRECLOSE and GAS_LOW place and remove their FIELD records (R49, R50). -/
def handFieldRecord (n : Nat) (first level : Bool) (s : State) : State :=
  if s.isRun && (n == 2 || n == 5) then
    if level then placeBlock (fieldKey s (half n)) .lock none s
    else if first then s
    else removeBlock (fieldKey s (half n)) s
  else s

/-- The confirmed level of input `n` in a list of inputs. -/
def confirmedIn (l : List InputState) (n : Nat) : Option Bool := (l.getD n InputState.reset).confirmed

/-- One of IN2..IN7 is handed on, where it was confirmed anew (R45, R52). INPUT_CHANGE is queued before what the FIELD
record makes BLK, SEQ and PROF queue: the model's choice (R179; log 6). -/
def handInput (before after : List InputState) (s : State) (n : Nat) : State :=
  if confirmedIn before n = confirmedIn after n then s
  else match confirmedIn after n with
    | none => s
    | some level =>
      let first := (confirmedIn before n).isNone
      handFieldRecord n first level (queueInputChange n first level s)

/-- Input `n` was confirmed anew. -/
def confirmedAnew (before after : List InputState) (n : Nat) : Bool := confirmedIn before n != confirmedIn after n

/-- What was confirmed at one instant is handed on: the position, the field demand, then IN2..IN7 in order,
and so what each makes the blocks queue (R45; log 14). -/
def handConfirmed (before after : List InputState) (s : State) : State :=
  let s1 := if confirmedAnew before after 0 || confirmedAnew before after 1 then derivePosition s else s
  let s2 := if confirmedAnew before after 3 || confirmedAnew before after 4 then deriveDemand s1 else s1
  [2, 3, 4, 5, 6, 7].foldl (handInput before after) s2

/-- The inputs take new states, and what was confirmed is handed on. -/
def takeInputs (l : List InputState) (s : State) : State :=
  handConfirmed s.fin.inputs l { s with fin := { s.fin with inputs := l } }

/-! ### The instants of sensing (R41) -/

/-- The instant of a row's samples: the next millisecond of the timebase, the end of the pulse; without a pulse, now
(log 3, 12). -/
def sampleInstant (row : SampleRow) (s : State) : Ms :=
  match row with
  | .static => s.fin.sense.staticAt
  | .cyclic => s.fin.sense.pulseEndAt.getD s.now

/-- The samples taken when a row's instant has come: its own, and those of the other row that are due then (R41). -/
def sampledNow (row : SampleRow) (s : State) : SampleRow → Bool
  | .static => (row == .static) || due s.now (some s.fin.sense.staticAt)
  | .cyclic => (row == .cyclic) || due s.now s.fin.sense.pulseEndAt

/-- The row other than this one. -/
def SampleRow.other : SampleRow → SampleRow
  | .static => .cyclic
  | .cyclic => .static

/-- After the samples of an instant: the next millisecond of the timebase, the pulse that ended, the levels seen, and
the other row where its samples were taken along (log 12). -/
def SenseState.sampled (row : SampleRow) (taken : SampleRow → Bool) (levels : Byte) (now : Ms) (x : SenseState) :
    SenseState where
  pulseEndAt := if taken .cyclic then none else x.pulseEndAt
  staticAt := if taken .static then after now 1 else x.staticAt
  pins := levels
  along := if taken row.other then some (row.other, now) else none

/-- FIN records the instants of sensing and drives the wetting output (R41). -/
def setSense (x : SenseState) (s : State) : State := refreshWet { s with fin := { s.fin with sense := x } }

/-- The samples of this instant are taken together (R41). -/
def takeSamplesNow (row : SampleRow) (levels : Byte) (s : State) : State :=
  let t := setSense (s.fin.sense.sampled row (sampledNow row s) levels s.now) s
  takeInputs (sampleInputs (sensedStatic s.image s.fin.forced) (sampledNow row s) levels s.fin.inputs) t

/-- A sample row: nothing but the levels where the other row took its samples along at this instant, else the samples
of its instant (R41, R42, R43; log 12). -/
def takeSamples (row : SampleRow) (levels : Byte) (s : State) : State :=
  if s.fin.sense.along = some (row, s.now) then
    setSense { s.fin.sense with pins := levels, along := none } s
  else takeSamplesNow row levels (s.arriveAt (sampleInstant row s))

/-- A sense period starts with a pulse of 2 ms, and the next one is set (R41). -/
def beginPeriod (t : Ms) (s : State) : State :=
  setSense { s.fin.sense with pulseEndAt := some (after t 2) }
    { s with fin := { s.fin with nextPeriodAt := some (after t s.sensePeriod) } }

/-! ### The commands -/

/-- R41, R42. -/
def execStaticSample (levels : Byte) : State → Host.Outcome State Fault Refusal := awake (takeSamples .static levels)

/-- R41. -/
def execSensePeriodStart : State → Host.Outcome State Fault Refusal :=
  awake (fun s => match s.fin.nextPeriodAt with
    | some t => beginPeriod t (s.arriveAt t)
    | none => s)

/-- R41, R43. -/
def execCyclicSample (levels : Byte) : State → Host.Outcome State Fault Refusal := awake (takeSamples .cyclic levels)

/-- R47; a stopped discrepancy timer does not expire. -/
def execDiscrepancyTimeout : State → Host.Outcome State Fault Refusal :=
  awake (fun s => match s.fin.discAt with
    | some t => expireDiscrepancy (s.arriveAt t)
    | none => s)

end Sys2Proof.Machine
end

