-- ==== Sys2Proof/Machine/Codec.lean ====
section
/-! DEFINITION. Check codes, and link frames as bytes (R2, R116, R117, R170; 11.3). -/

namespace Sys2Proof.Machine

/-! ### Check codes -/

/-- The register `r` evaluated to a numeral before the rest is: `f r` (see `forced_eq`). -/
def forced {w : Nat} {α : Type} (r : BitVec w) (f : BitVec w → α) : α :=
  match r.toNat with
  | 0 => f (BitVec.ofNat w 0)
  | n + 1 => f (BitVec.ofNat w (n + 1))

theorem forced_eq {w : Nat} {α : Type} (r : BitVec w) (f : BitVec w → α) : forced r f = f r := by
  have h : ∀ n, r.toNat = n → f (BitVec.ofNat w n) = f r := fun n hn => by
    rw [← hn, BitVec.ofNat_toNat, BitVec.setWidth_eq]
  unfold forced
  split
  · exact h _ ‹_›
  · exact h _ ‹_›

/-- One bit of an unreflected CRC. -/
def crcBit {w : Nat} (poly r : BitVec w) : BitVec w := if r.msb then (r <<< 1) ^^^ poly else r <<< 1

def crcBits {w : Nat} (poly : BitVec w) : Nat → BitVec w → BitVec w
  | 0, r => r
  | n + 1, r => forced (crcBit poly r) (crcBits poly n)

/-- The register after bytes, each joined to it as `enter` says and then shifted through. -/
def crcOver {w : Nat} (poly : BitVec w) (enter : BitVec w → Byte → BitVec w) : List Byte → BitVec w → BitVec w
  | [], r => r
  | b :: l, r => forced (crcBits poly 8 (enter r b)) (crcOver poly enter l)

/-- CRC-8 with polynomial 0x07, most significant bit first (R2, R170). -/
def crc8 (initial : Byte) (l : List Byte) : Byte := crcOver 0x07#8 (fun r b => r ^^^ b) l initial

/-- The register of the link CRC, polynomial 0x1021 (R117). -/
def crc16 (initial : Half) (l : List Byte) : Half :=
  crcOver 0x1021#16 (fun r b => r ^^^ (b ++ 0#8 : BitVec 16)) l initial

/-- A 16-bit value as two bytes, most significant first. -/
def halfBytes (h : Half) : List Byte := [h.extractLsb' 8 8, h.extractLsb' 0 8]

/-- The two CRC bytes of a link frame: the one's complement of the register (R117). -/
def linkCrc (feeder : Half) (l : List Byte) : List Byte := halfBytes (~~~ crc16 feeder l)

/-! ### Payloads (11.3) -/

def ownedPayload : OwnedFrame → List Byte
  | .breakerFail op => [byteOf (failedOpCode op)]
  | .trip t => [byteOf (causeCode t.cause), byteOf t.shot, byteOf t.fail10]
  | .restrain r => [byteOf (flagBit r.ph 0 + flagBit r.ef 1 + flagBit r.phh 2), byteOf r.tripNo]
  | .release => []
  | .state x => [byteOf (seqStateCode x.st), byteOf (positionCode x.pos), byteOf x.shot]
  | .huntCall n => [n]
  | .huntReport r =>
    [r.round.caller, r.round.seqNo] ++ be16 r.mag ++
      [byteOf (directionCode r.dir), byteOf (flagBit r.isOpen 0 + flagBit r.incomplete 1)]
  | .huntVerdict v => [v.caller, v.seqNo, byteOf (verdictCode .owner)]

def beaconPayload (b : BeaconInfo) : List Byte :=
  [byteOf (profileCode b.ownDemand), byteOf (profileCode b.effective), byteOf (seqStateCode b.st),
   byteOf (positionCode b.pos), byteOf (if b.measFresh then 1 else 0), byteOf (phaseCode b.phase),
   byteOf b.interval]

def bodyPayload : FrameBody → List Byte
  | .owned f => ownedPayload f
  | .beacon b => beaconPayload b

/-- The kind and flags byte: the kind code in the low four bits, the fresh-start flag in bit 7 (R116). -/
def kindByte (k : FrameKind) (fresh : Bool) : Byte := byteOf (kindCode k + flagBit fresh 7)

/-- The bytes a CRC is computed over: from the length byte through the payload (R116, R117). -/
def checkedBytes (source : Byte) (fresh : Bool) (sol : Nat) (body : FrameBody) : List Byte :=
  [byteOf (6 + (bodyPayload body).length), source, kindByte (bodyKind body) fresh, byteOf sol] ++ bodyPayload body

/-- A whole link frame, sync bytes first (R116). -/
def frameBytes (feeder : Half) (source : Byte) (fresh : Bool) (sol : Nat) (body : FrameBody) : List Byte :=
  [0x7E, 0x7E] ++ checkedBytes source fresh sol body ++ linkCrc feeder (checkedBytes source fresh sol body)

/-! ### Reading a payload (check 4 of R119) -/

/-- A byte of two flags whose other bits are zero. -/
def flagsOf (n bits : Nat) : Option Nat := if n < 2 ^ bits then some n else none

/-- A number in a range. -/
def inRange (lo hi n : Nat) : Option Nat := if lo ≤ n ∧ n ≤ hi then some n else none

def parseBreakerFail : List Byte → Option FrameBody
  | [a] => (failedOpOfCode a.toNat).map (fun op => .owned (.breakerFail op))
  | _ => none

def parseTrip : List Byte → Option FrameBody
  | [c, n, f] => do
    let cause ← causeOfCode c.toNat
    let shot ← inRange 0 4 n.toNat
    let fail10 ← inRange 6 100 f.toNat
    pure (.owned (.trip { cause := cause, shot := shot, fail10 := fail10 }))
  | _ => none

def parseRestrain : List Byte → Option FrameBody
  | [e, n] => do
    let flags ← inRange 1 7 e.toNat
    let tripNo ← inRange 1 5 n.toNat
    pure (.owned (.restrain
      { ph := flags.testBit 0, ef := flags.testBit 1, phh := flags.testBit 2, tripNo := tripNo }))
  | _ => none

def parseRelease (l : List Byte) : Option FrameBody := if l = [] then some (.owned .release) else none

/-- The states a STATE frame carries (11.3). -/
def announcedState (n : Nat) : Option SeqState := if n = 1 ∨ (6 ≤ n ∧ n ≤ 9) then seqStateOfCode n else none

def parseState : List Byte → Option FrameBody
  | [c, p, n] => do
    let st ← announcedState c.toNat
    let pos ← positionOfCode p.toNat
    let shot ← inRange 0 4 n.toNat
    pure (.owned (.state { st := st, pos := pos, shot := shot }))
  | _ => none

def parseCall : List Byte → Option FrameBody
  | [n] => some (.owned (.huntCall n))
  | _ => none

def parseRound (caller seqNo : Byte) : Option Round :=
  (inRange 1 62 caller.toNat).map (fun _ => { caller := caller, seqNo := seqNo })

def parseReport : List Byte → Option FrameBody
  | [caller, seqNo, hi, lo, d, f] => do
    let round ← parseRound caller seqNo
    let mag ← inRange 0 32767 (hi.toNat * 256 + lo.toNat)
    let dir ← directionOfCode d.toNat
    let flags ← flagsOf f.toNat 2
    pure (.owned (.huntReport
      { round := round, mag := mag, dir := dir, isOpen := flags.testBit 0, incomplete := flags.testBit 1 }))
  | _ => none

def parseVerdict : List Byte → Option FrameBody
  | [caller, seqNo, v] => do
    let round ← parseRound caller seqNo
    let _ ← inRange 1 1 v.toNat
    pure (.owned (.huntVerdict round))
  | _ => none

def parseBeacon : List Byte → Option FrameBody
  | [d, e, c, p, m, h, i] => do
    let ownDemand ← profileOfCode d.toNat
    let effective ← profileOfCode e.toNat
    let st ← seqStateOfCode c.toNat
    let pos ← positionOfCode p.toNat
    let fresh ← flagsOf m.toNat 1
    let phase ← phaseOfCode h.toNat
    let interval ← inRange 1 60 i.toNat
    pure (.beacon
      { ownDemand := ownDemand, effective := effective, st := st, pos := pos, measFresh := fresh.testBit 0,
        phase := phase, interval := interval })
  | _ => none

/-- The payload of a kind: none where the length is not that of the kind or a field holds a value outside its
codes. -/
def parseBody (k : FrameKind) (l : List Byte) : Option FrameBody :=
  match k with
  | .breakerFail => parseBreakerFail l
  | .trip => parseTrip l
  | .restrain => parseRestrain l
  | .release => parseRelease l
  | .state => parseState l
  | .huntCall => parseCall l
  | .huntReport => parseReport l
  | .huntVerdict => parseVerdict l
  | .beacon => parseBeacon l

/-- The parts of a collected frame, from the length byte to the last CRC byte. -/
structure RawFrame where
  source : Byte
  kindFlags : Byte
  sol : Byte
  payload : List Byte
  checked : List Byte
  crc : List Byte
  deriving DecidableEq, Repr

/-- A collected frame taken apart; none where its length byte is not in 6..16, the first check, or is not its
length (R118, R119). -/
def splitFrame : List Byte → Option RawFrame
  | len :: source :: kindFlags :: sol :: rest =>
    if 2 ≤ rest.length ∧ rest.length ≤ 12 ∧ rest.length + 4 = len.toNat then
      let payload := rest.take (rest.length - 2)
      some { source := source, kindFlags := kindFlags, sol := sol, payload := payload,
             checked := [len, source, kindFlags, sol] ++ payload, crc := rest.drop (rest.length - 2) }
    else none
  | _ => none

/-- The kind code stands in the low four bits; bits 4 to 6 are ignored (R116). -/
def RawFrame.kindCode (f : RawFrame) : Nat := f.kindFlags.toNat % 16

/-- The fresh-start flag, bit 7 (R116). -/
def RawFrame.freshStart (f : RawFrame) : Bool := f.kindFlags.msb

/-- Check 2 of R119. -/
def RawFrame.crcGood (feeder : Half) (f : RawFrame) : Bool := f.crc == linkCrc feeder f.checked

/-- Check 4 of R119. -/
def RawFrame.body (f : RawFrame) : Option FrameBody := (kindOfCode f.kindCode).bind (fun k => parseBody k f.payload)

end Sys2Proof.Machine
end

