-- ==== Sys2Proof/Machine/Records.lean ====
section
/-! DEFINITION. The records a response carries: notices, table records, the snapshot and the status record
(11.5, 11.6). Absent quantities take the sentinels of R184. -/

namespace Sys2Proof.Machine

/-- A signed 32-bit field, two's complement (11). -/
def signed32 (x : Int) : List Byte := be32 (BitVec.ofInt 32 x).toNat

/-- An instant as four bytes, 0 when absent. -/
def instantBytes (t : Option Ms) : List Byte := be32 ((t.map (·.toNat)).getD 0)

/-- The notice record, 13 bytes (11.5). -/
def noticeBytes (n : Notice) : List Byte :=
  [byteOf (noticeCode n.kind), byteOf (noticeCategory n.kind)] ++ be32 n.time.toNat ++ [n.station] ++
    halfBytes n.detail1 ++ halfBytes n.detail2 ++ [n.tagA, n.tagB]

/-- Neighbour entry, 18 bytes (11.6). While last heard is absent its flag is clear (R184), and its four bytes are 0,
which neither 11.6 nor R184 gives (log 38). -/
def neighbourBytes (e : Neighbour) : List Byte :=
  [e.address, byteOf (relationCode e.relation),
   byteOf (flagBit e.pinned 0 + flagBit e.lastHeard.isSome 1 + flagBit e.measFresh 2),
   byteOf (nbrStatusCode e.status), byteOf (e.lastSol.getD 0)] ++ instantBytes e.lastHeard ++
    [satByte e.missed, byteOf (profileCode e.ownDemand), byteOf (profileCode e.effective),
     byteOf ((e.st.map seqStateCode).getD 255), byteOf (positionCode e.pos), byteOf (phaseCode e.phase),
     byteOf e.interval] ++ be16 (e.tripFail.getD 0)

/-- Block record, 14 bytes (11.6). -/
def blockBytes (r : BlockRecord) : List Byte :=
  [byteOf (blockSourceCode r.key.source), r.key.origin] ++ halfBytes r.key.tag ++
    [byteOf (blockEffectCode r.effect), byteOf (flagBit r.expiry.isSome 0)] ++ be32 r.setTime.toNat ++
    instantBytes r.expiry

/-- Watch, 13 bytes (11.6). -/
def watchBytes (w : Watch) : List Byte :=
  [w.station, byteOf (kindCode w.kind), w.substate, byteOf (watchModeCode w.mode),
   byteOf (watchActionCode w.action1), byteOf (watchActionCode w.action2)] ++ halfBytes w.blockTag ++ [w.effect] ++
    halfBytes w.duration ++ [w.tagA, w.tagB]

/-- Hunt header, 7 bytes (11.6). With no round recorded the caller is 0 (R184), and so is the sequence (log 36). -/
def huntHeader (h : HuntState) : List Byte :=
  [byteOf (phaseCode h.phase), (h.round.map (·.caller)).getD 0, (h.round.map (·.seqNo)).getD 0,
   byteOf (verdictCode h.verdict), h.heardOwner.getD 0, satByte h.crossed, satByte h.ignored]

/-- Hunt report, 8 bytes (11.6). -/
def huntReportBytes (r : HuntReport) : List Byte :=
  [r.station, byteOf (relationCode r.relation)] ++ be16 r.mag ++
    [byteOf (directionCode r.dir), byteOf (flagBit r.isOpen 0 + flagBit r.incomplete 1 + flagBit r.crossed 7),
     r.round.caller, r.round.seqNo]

/-- Snapshot record, 31 bytes (11.6). -/
def snapshotBytes (x : Snapshot) : List Byte :=
  be16 x.ia ++ be16 x.ib ++ be16 x.ic ++ be16 x.ir ++ be16 x.is ++ be16 x.v0 ++ signed32 x.p0 ++
    [byteOf (directionCode x.dir)] ++ be16 x.accPh ++ be16 x.accEf ++ be16 x.sefCount ++
    [byteOf (profileCode x.effective), byteOf (seqStateCode x.st), byteOf x.shot, byteOf x.sol] ++ be32 x.time.toNat

/-- A byte with bit n for IN n. -/
def inputBits (f : Nat → Bool) : Byte := byteOf ((List.range 8).map (fun n => flagBit (f n) n)).sum

/-- Status record, 33 bytes (11.6). -/
def statusRecord (s : State) : List Byte :=
  [byteOf (flagBit s.isRun 0), s.address, byteOf (profileCode s.prof.port), byteOf (profileCode s.prof.field),
   byteOf (profileCode s.prof.ownDemand), byteOf (profileCode s.prof.peer), byteOf (profileCode s.prof.target),
   byteOf (profileCode s.prof.effective), byteOf (relaxCode s.prof.relax), byteOf (seqStateCode s.sequencer.st),
   byteOf s.sequencer.shot, byteOf (causeCode s.sequencer.lastCause), byteOf (positionCode s.fin.position),
   inputBits s.inputSet, inputBits (fun n => (s.input n).isSome), byteOf (flagBit (s.meas.status == .fresh) 0),
   satByte s.meas.lossCount, byteOf (phaseCode s.hunt.phase), byteOf (flagBit s.blk.overflow 0),
   satByte s.blk.table.length, satByte s.blk.watches.length, satByte s.link.table.length, byteOf s.link.sol,
   byteOf (txCode s.link.tx), byteOf (flagBit (restraintHeld s) 0), byteOf (flagBit (downstreamLost s) 0),
   satByte s.cport.notices.length, byteOf (flagBit s.cport.overflow 0), 0] ++ be32 s.now.toNat

/-- The records of a table read, from a start index, and the number beyond the last one returned (R182). -/
def tableRead {α : Type} (bytes : α → List Byte) (first count : Nat) (l : List α) : List Byte :=
  ((l.drop first).take count).flatMap bytes ++ [satByte (l.length - (first + count))]

end Sys2Proof.Machine
end

