-- ==== Sys2Proof/Machine/Element.lean ====
section
/-! DEFINITION. ELEM, chapter 2: one step of the time-current elements on the cycle MEAS holds as its last. -/

namespace Sys2Proof.Machine

/-! ### The inverse-time arithmetic (R24 to R29) -/

/-- Full scale of an accumulator. -/
def aFull : Nat := 16777216

/-- R24: the multiple of pickup in units of 1/256, taken as 10240 above that. -/
def multiple (input pickup : Nat) : Nat := min (input * 256 / pickup) 10240

/-- R27: the breakpoints of q. -/
def curveQ : List Nat := [269, 282, 307, 384, 512, 768, 1280, 2560, 5120, 10240]

/-- R27: the operate times at TM 1.00, by curve code N 0, V 1, X 2, D 3. -/
def curveTimes : Nat → List Nat
  | 0 => [144000, 73000, 39000, 17000, 10000, 6300, 4300, 3000, 2300, 1800]
  | 1 => [270000, 135000, 67500, 27000, 13500, 6750, 3375, 1500, 711, 346]
  | 2 => [780000, 381000, 182000, 64000, 26700, 10000, 3330, 808, 200, 50]
  | _ => [10000, 10000, 10000, 10000, 10000, 10000, 10000, 10000, 10000, 10000]

/-- R28: the operate time at TM 1.00 between the breakpoints, rounded to the longer time. -/
def interpolate (q : Nat) : List (Nat × Nat) → Nat
  | (qa, ta) :: (qb, tb) :: rest =>
    if q ≤ qa then ta
    else if q ≤ qb then ta - (ta - tb) * (q - qa) / (qb - qa)
    else interpolate q ((qb, tb) :: rest)
  | [(_, t)] => t
  | [] => 0

def operateTime (curve q : Nat) : Nat := interpolate q (curveQ.zip (curveTimes curve))

/-- R29: the increment of a step in the operate band. -/
def increment (curve tm q : Nat) : Nat := max 1 (335544320 / max 20 (operateTime curve q * tm / 100))

/-- R25, R26, R29: the accumulator after a step at multiple `q`. -/
def stepAccumulator (curve tm resetTime q a : Nat) : Nat :=
  if q < 256 then if resetTime = 0 then 0 else a - 335544320 / resetTime
  else if q < 269 then a
  else min aFull (a + increment curve tm q)

/-! ### What a step reads (R20 to R23) -/

/-- R21: the mode of the step is FAST. -/
def fastMode (s : State) : Bool :=
  decide (s.sequencer.shot + 1 ≤ s.image.fastTrips s.prof.effective) && !restraintHeld s

/-- R22. -/
def phTm (s : State) : Nat := if fastMode s then s.image.fastTmPh s.prof.effective else s.image.delayedTmPh

def phMultiple (s : State) : Nat := multiple s.meas.last.m s.image.pickupPh
def efMultiple (s : State) : Nat := multiple s.meas.last.ir (s.image.pickupEf s.prof.effective)

def nextAccPh (s : State) : Nat :=
  stepAccumulator s.image.curvePh (phTm s) s.image.resetTimePh (phMultiple s) s.elem.accPh

def nextAccEf (s : State) : Nat :=
  stepAccumulator s.image.curveEf (s.image.tmEf s.prof.effective) s.image.resetTimeEf (efMultiple s) s.elem.accEf

/-! ### The high-set element (R31, R32) -/

def phhRuns (s : State) : Bool :=
  ((fastMode s && s.image.phhEnable s.prof.effective) || s.elem.waiver) && !restraintHeld s

def phhPicked (s : State) : Bool := phhRuns s && decide (s.image.highSet ≤ s.meas.last.m)

def nextPhhRun (s : State) : Nat := if phhPicked s then min (s.elem.phhRun + 1) 255 else 0

/-- R32: the delay in ms. -/
def phhDelay (s : State) : Nat :=
  if s.elem.waiver then 0 else if downstreamLost s then s.image.delayLost else s.image.delayHs

def phhOperates (s : State) : Bool := phhPicked s && decide ((phhDelay s + 19) / 20 < nextPhhRun s)

/-! ### The sensitive earth element (R34, R35) -/

def sefPicked (s : State) : Bool := decide (s.pickupSef ≤ s.meas.last.is) && (s.meas.last.dir == .forward)

/-- R35: the operate count N. -/
def sefCountLimit (s : State) : Nat :=
  (s.image.timeSef s.prof.effective + (if s.elem.deferral then s.image.huntDefer else 0) + 19) / 20

/-- R34. -/
def nextSefCount (s : State) : Nat :=
  if sefPicked s then
    if s.elem.sefCount < sefCountLimit s then s.elem.sefCount + 1 else s.elem.sefCount
  else s.elem.sefCount - 1

def sefOperates (s : State) : Bool := decide (sefCountLimit s ≤ nextSefCount s)

/-! ### The step (R20, R36 to R39) -/

/-- R39. -/
def pickupSummary (s : State) : Bool :=
  decide (256 ≤ phMultiple s) || decide (256 ≤ efMultiple s) || phhPicked s

/-- ELEM after the step: waiver and deferral lapse at its end (R33, R36). -/
def nextElem (s : State) : ElemState where
  accPh := nextAccPh s
  accEf := nextAccEf s
  phhRun := nextPhhRun s
  sefCount := nextSefCount s
  deferral := s.elem.deferral && (nextSefCount s != 0)
  waiver := s.elem.waiver && pickupSummary s
  sefOperated := sefOperates s
  pickedPh := decide (256 ≤ phMultiple s)
  pickedEf := decide (256 ≤ efMultiple s)
  pickedPhh := phhPicked s
  summary := pickupSummary s
  activity := pickupSummary s || sefPicked s
  sefPickup := sefPicked s

/-- R38: the cause of the one trip request of a step on this state, if an element operates. -/
def elemCause (s : State) : Option ProtCause :=
  if phhOperates s then some .phh
  else if nextAccPh s = aFull then some .ph
  else if nextAccEf s = aFull then some .ef
  else if sefOperates s && s.sefTrips then some .sef
  else none

/-- The trip request goes to SEQ, as an event of its own (R38). -/
def requestTrip : Option ProtCause → State → State
  | some c, s => handOver (.tripRequest c) s
  | none, s => s

/-- R37: an SEF operation with action ALARM that did not operate in the previous step. -/
def sefAlarms (s : State) : Bool := sefOperates s && !s.sefTrips && !s.elem.sefOperated

def alarmSef (before s : State) : State :=
  if sefAlarms before then queueOwn .sefAlarm (half before.meas.last.is) (half (sefCountLimit before)) s else s

/-- ELEM hands its indications to TRIPCO, PROF and HUNT (R39). -/
def handIndications (s : State) : State := huntStep (profRest (tripcoReview s))

/-- One element step (R20). SEF_ALARM is queued before what the indications make other blocks queue (log 6). -/
def elemStep (s : State) : State :=
  handIndications (alarmSef s (requestTrip (elemCause s) { s with elem := nextElem s }))

end Sys2Proof.Machine
end

