-- ==== Sys2Proof/Machine/Measure.lean ====
section
/-! DEFINITION. MEAS, chapter 1: sample frames, cycle assembly, the per-cycle arithmetic, FRESH and STALE, and
snapshots. -/

namespace Sys2Proof.Machine

/-! ### Arithmetic (R6 to R10) -/

/-- The integer square root, decided bit by bit from bit `k - 1` down. -/
def isqrtFrom (n : Nat) : Nat → Nat → Nat
  | 0, r => r
  | k + 1, r => if (r + 2 ^ k) * (r + 2 ^ k) ≤ n then isqrtFrom n k (r + 2 ^ k) else isqrtFrom n k r

/-- The largest integer whose square does not exceed `n`, for `n` below 2 to the 32. -/
def isqrt (n : Nat) : Nat := isqrtFrom n 16 0

/-- The magnitude of a series of samples (01, section 1.3). -/
def magnitude (l : List Int) : Nat := isqrt ((l.map (fun x => (x * x).toNat)).sum / 32)

/-- R7: a residual sum, clamped. -/
def clampResidual (x : Int) : Int := max (-32767) (min 32767 x)

def Sample.residual (x : Sample) : Int := clampResidual (x.ia + x.ib + x.ic)

/-- R8: v0 of one sample, truncated toward zero. -/
def Sample.v0 (x : Sample) : Int := (x.va + x.vb + x.vc).tdiv 3

/-- R9. -/
def residualPower (l : List Sample) : Int := ((l.map (fun (x : Sample) => x.v0 * x.is)).sum).tdiv 32

/-- R10. -/
def directionOf (v0 : Nat) (p0 : Int) (v0Min p0Min : Nat) : Direction :=
  if v0 < v0Min then .undetermined
  else if p0 ≤ -(p0Min : Int) then .forward
  else if (p0Min : Int) ≤ p0 then .reverse
  else .undetermined

/-- The results of a complete cycle (R6 to R10). -/
def cycleResult (v0Min p0Min : Nat) (l : List Sample) : CycleResult :=
  let ia := magnitude (l.map (·.ia))
  let ib := magnitude (l.map (·.ib))
  let ic := magnitude (l.map (·.ic))
  let v0 := magnitude (l.map Sample.v0)
  let p0 := residualPower l
  { ia := ia, ib := ib, ic := ic, m := max ia (max ib ic), ir := magnitude (l.map Sample.residual),
    is := magnitude (l.map (·.is)), v0 := v0, p0 := p0, dir := directionOf v0 p0 v0Min p0Min }

/-! ### Sample frames (R1, R2) -/

/-- A signed 16-bit channel value, −32768 being replaced by −32767 (R2). -/
def channel (hi lo : Byte) : Int := max (-32767) ((hi ++ lo : BitVec 16).toInt)

/-- A received frame: its position and sample, where it is 16 whole bytes, its check byte is good and its position
is in 0..31 (R1, R2). -/
def readSampleFrame (bytes : List Byte) (extraBits : Nat) : Option (Nat × Sample) :=
  match bytes with
  | [p, a1, a0, b1, b0, c1, c0, s1, s0, u1, u0, v1, v0, w1, w0, check] =>
    if extraBits = 0 ∧ check = crc8 0 [p, a1, a0, b1, b0, c1, c0, s1, s0, u1, u0, v1, v0, w1, w0] ∧ p.toNat < 32 then
      some (p.toNat, { ia := channel a1 a0, ib := channel b1 b0, ic := channel c1 c0, is := channel s1 s0,
                       va := channel u1 u0, vb := channel v1 v0, vc := channel w1 w0 })
    else none
  | _ => none

/-! ### FRESH and STALE (R12 to R14) -/

def failSnapshot (s : State) : State :=
  if s.meas.snapState = .pending then { s with meas := { s.meas with snapState := .fail } } else s

/-- The causes of STALE (R12). -/
inductive StaleCause where
  | lostCycles | noFrame
  deriving DecidableEq, Repr

def staleCauseCode : StaleCause → Nat
  | .lostCycles => 1
  | .noFrame => 2

/-- In RUN, MEAS asks BLK for the SELF record (R14). -/
def placeSelf (s : State) : State := if s.isRun then placeBlock (selfKey s) .lock none s else s

/-- In RUN, MEAS asks BLK to remove the SELF record (R13, R14). -/
def removeSelf (s : State) : State := if s.isRun then removeBlock (selfKey s) s else s

/-- The status goes from FRESH to STALE (R12); HEALTHY follows (R53). The notice carries this station's address
(log 34), and is queued before what the SELF record makes BLK and SEQ queue (log 6). -/
def becomeStale (c : StaleCause) (s : State) : State :=
  if s.meas.status = .fresh then
    failSnapshot (placeSelf (queueOwn .stale (half (staleCauseCode c)) (half s.meas.lossCount)
      (refreshHealthy
        { s with meas := { s.meas with status := .stale, staleSince := s.now, staleLoss := 0 } })))
  else s

/-- The status goes from STALE to FRESH at a completion (R13). The notice carries this station's address (log 34), and
its duration is taken on the 32-bit count (log 35); it is queued before what the removal makes SEQ and PROF queue (log 6). -/
def becomeFresh (s : State) : State :=
  if s.meas.status = .stale then
    removeSelf (queueOwn .fresh (half s.meas.staleLoss)
      (half (min (s.now - s.meas.staleSince).toNat 65535))
      (refreshHealthy { s with meas := { s.meas with status := .fresh } }))
  else s

/-! ### Lost cycles (R4) -/

/-- The counts of a lost cycle: the stale-loss count rises only while the status is STALE (R4). -/
def MeasState.countLoss (m : MeasState) : MeasState :=
  { m with
    assembly := .waiting, lossCount := min (m.lossCount + 1) 255,
    staleLoss := if m.status = .stale then min (m.staleLoss + 1) 65535 else m.staleLoss }

/-- A partial cycle is lost: the counts rise, HUNT and the snapshot mechanism are told (R4). -/
def loseCycle (s : State) : State := failSnapshot (huntLost { s with meas := s.meas.countLoss })

/-- A partial cycle ended by an out-of-order frame: the third in a row makes the status STALE (R4). -/
def loseCycleInOrder (s : State) : State :=
  let t := loseCycle s
  if 3 ≤ t.meas.lossCount then becomeStale .lostCycles t else t

/-! ### Snapshots (R15 to R17) -/

/-- The sequencer state and shot count a snapshot shows: before or after SEQ takes the trip request that ELEM
issued on the same cycle (R17; log 5). -/
def shownSequencer (cause : Option ProtCause) (s : State) : SequencerState :=
  match cause with
  | some c => if Config.snapshotSeesTrip s.freeCount then (seqTripRequest c s).sequencer else s.sequencer
  | none => s.sequencer

/-- An accumulator in units of 256, limited to 65,535 (R17). -/
def accField (a : Nat) : Nat := min (a / 256) 65535

/-- The record of R17. -/
def snapshotOf (q : SequencerState) (s : State) : Snapshot :=
  { ia := s.meas.last.ia, ib := s.meas.last.ib, ic := s.meas.last.ic, ir := s.meas.last.ir, is := s.meas.last.is,
    v0 := s.meas.last.v0, p0 := s.meas.last.p0, dir := s.meas.last.dir, accPh := accField s.elem.accPh,
    accEf := accField s.elem.accEf, sefCount := s.elem.sefCount, effective := s.prof.effective, st := q.st,
    shot := q.shot, sol := s.link.sol, time := s.meas.cycleTime }

/-- A pending snapshot is filled (R16, R17). -/
def fillSnapshot (cause : Option ProtCause) (s : State) : State :=
  if s.meas.snapState = .pending then
    advanceFree { s with
      meas := { s.meas with snapState := .valid, snapshot := some (snapshotOf (shownSequencer cause s) s) } }
  else s

/-! ### Completion (R11) -/

/-- The results are stored, with the cycle time; the consecutive-loss count returns to 0 (R11). -/
def storeCycle (l : List Sample) (s : State) : State :=
  { s with
    meas := { s.meas with
      assembly := .waiting, last := cycleResult s.v0Min s.p0Min l, cycleTime := s.now,
      cycleSerial := s.meas.cycleSerial + 1, lossCount := 0 } }

/-- In RUN the cycle goes to ELEM, then to HUNT (R11); the trip request ELEM issued is answered too. -/
def handCycle (s : State) : Option ProtCause × State :=
  if s.isRun then (elemCause s, huntCycle (elemStep s)) else (none, s)

/-- The completion of a cycle (R11). -/
def completeCycle (l : List Sample) (s : State) : State :=
  let handed := handCycle (becomeFresh (storeCycle l s))
  fillSnapshot handed.1 handed.2

/-! ### Cycle assembly (R3, R5) -/

/-- An accepted frame joins the partial cycle and restarts the frame-silence timer (R3, R5). -/
def takeSample (l : List Sample) (s : State) : State :=
  { s with meas := { s.meas with assembly := .assembling l, silenceAt := some (after s.now 10) } }

/-- A frame accepted at position 31 completes the cycle (R3, R5). -/
def takeLastSample (l : List Sample) (s : State) : State :=
  completeCycle l { s with meas := { s.meas with silenceAt := some (after s.now 10) } }

/-- A valid frame with position `p` meets cycle assembly (R3). -/
def assemble (p : Nat) (x : Sample) (s : State) : State :=
  match s.meas.assembly with
  | .waiting => if p = 0 then takeSample [x] s else s
  | .assembling l =>
    if p = l.length then if p = 31 then takeLastSample (l ++ [x]) s else takeSample (l ++ [x]) s
    else if p = 0 then takeSample [x] (loseCycleInOrder s)
    else loseCycleInOrder s

/-- R1 to R3. -/
def execSampleFrame (bytes : List Byte) (extraBits : Nat) : State → Host.Outcome State Fault Refusal :=
  awake (fun s => match readSampleFrame bytes extraBits with
    | some (p, x) => assemble p x s
    | none => s)

/-- The frame-silence timer expires: a partial cycle is lost, then the status becomes STALE with cause NO_FRAME
(R5). -/
def expireSilence (s : State) : State :=
  let stopped := { s with meas := { s.meas with silenceAt := none } }
  becomeStale .noFrame
    (match s.meas.assembly with
     | .waiting => stopped
     | .assembling _ => loseCycle stopped)

/-- R5; a stopped frame-silence timer does not expire. -/
def execFrameSilenceExpiry : State → Host.Outcome State Fault Refusal :=
  awake (fun s => match s.meas.silenceAt with
    | some t => expireSilence (s.arriveAt t)
    | none => s)

end Sys2Proof.Machine
end

