-- ==== Sys2Proof/Machine/Neighbours.lean ====
section
/-! DEFINITION. LINK, section 7.3: the neighbour table and its supervision. -/

namespace Sys2Proof.Machine

/-! ### Entries (R124) -/

/-- An entry at creation (R124). -/
def Neighbour.create (a : Byte) (relation : Relation) (pinned : Bool) (status : NbrStatus) (interval : Nat) :
    Neighbour where
  address := a
  relation := relation
  pinned := pinned
  status := status
  lastSol := none
  lastHeard := none
  missed := 0
  ownDemand := .ordinary
  effective := .ordinary
  st := none
  pos := .unknown
  measFresh := false
  phase := .idle
  interval := interval
  tripFail := none
  quietAt := none
  lostAt := none

def findNeighbour (a : Byte) (t : List Neighbour) : Option Neighbour := t.find? (fun e => e.address == a)

/-- The age of an entry; one never heard is older than any other (R124). -/
def Neighbour.age (now : Ms) (e : Neighbour) : Nat :=
  match e.lastHeard with
  | some t => (now - t).toNat
  | none => 4294967296

/-- The unpinned entry of greatest age, the earliest in the list where two are equal (R124). -/
def oldestUnpinned (now : Ms) (t : List Neighbour) : Option Neighbour :=
  (t.filter (fun e => !e.pinned)).foldl (fun best e => match best with
    | some b => if b.age now < e.age now then some e else some b
    | none => some e) none

/-- The table with room for one more entry: of 24 entries the oldest unpinned one is evicted (R124). -/
def makeRoom (now : Ms) (t : List Neighbour) : List Neighbour :=
  if t.length < 24 then t
  else match oldestUnpinned now t with
    | some e => t.filter (fun x => x.address != e.address)
    | none => t

/-- A new entry joins the end of the list (R124). At most five entries are pinned, so there is always room
(log 25). -/
def addNeighbour (now : Ms) (e : Neighbour) (t : List Neighbour) : List Neighbour :=
  if (makeRoom now t).length < 24 then makeRoom now t ++ [e] else t

/-- Change the entry of one station. -/
def onNeighbour (a : Byte) (f : Neighbour → Neighbour) (t : List Neighbour) : List Neighbour :=
  t.map (fun e => if e.address = a then f e else e)

/-! ### Pinning (R125) -/

/-- An entry already present becomes pinned and LOST; it is heard afresh from here on (R125, R126). -/
def Neighbour.pin (relation : Relation) (e : Neighbour) : Neighbour :=
  { e with pinned := true, relation := relation, status := .lost, quietAt := none, lostAt := none }

def pinOne (now : Ms) (interval : Nat) (t : List Neighbour) (c : Byte × Relation) : List Neighbour :=
  if (findNeighbour c.1 t).isSome then onNeighbour c.1 (Neighbour.pin c.2) t
  else addNeighbour now (Neighbour.create c.1 c.2 true .lost interval) t

/-- The configured neighbours, the upstream one first (R125). -/
def Image.configured (i : Image) : List (Byte × Relation) :=
  (if i.upstream = 0 then [] else [(i.upstream, Relation.up)]) ++ i.downstream.map (fun a => (a, Relation.down))

/-- The table after pinning; an entry of the station's own address is removed first (R125). -/
def pinAll (now : Ms) (i : Image) (t : List Neighbour) : List Neighbour :=
  i.configured.foldl (pinOne now i.beaconInterval) (t.filter (fun e => e.address != i.stationAddress))

/-! ### Supervision (R126) -/

/-- A PEER_STATUS notice for a pinned entry whose status changed (R126). -/
def queuePeerStatus (old : NbrStatus) (e : Neighbour) (s : State) : State :=
  if e.pinned ∧ old ≠ e.status then
    queueAbout .peerStatus e.address (pair (nbrStatusCode old) (nbrStatusCode e.status))
      (pair (relationCode e.relation) e.missed) s
  else s

/-- A change into or out of LOST of a pinned DOWN entry goes to TRIPCO (R126, R143). -/
def handLost (old : NbrStatus) (e : Neighbour) (s : State) : State :=
  if e.pinned && (e.relation == .down) && ((old == .lost) != (e.status == .lost)) then
    setLost e.address (e.status == .lost) s
  else s

/-- The entry `e` of a station takes the place of its old one, and what changed is handed on (R103, R126). -/
def changeStatus (old : NbrStatus) (e : Neighbour) (s : State) : State :=
  handLost old e (refreshPeerDemand (queuePeerStatus old e
    { s with link := { s.link with table := onNeighbour e.address (fun _ => e) s.link.table } }))

/-- The FRESH entry of a station whose quiet instant is set, with that instant. -/
def quietInstant (a : Byte) (s : State) : Option (Neighbour × Ms) :=
  (findNeighbour a s.link.table).bind (fun e =>
    if e.status = .fresh then e.quietAt.map (fun t => (e, t)) else none)

/-- The QUIET entry of a station whose lost instant is set, with that instant. -/
def lostInstant (a : Byte) (s : State) : Option (Neighbour × Ms) :=
  (findNeighbour a s.link.table).bind (fun e =>
    if e.status = .quiet then e.lostAt.map (fun t => (e, t)) else none)

/-- R126; nothing happens to an entry that is not FRESH. -/
def execNeighbourQuietExpiry (a : Byte) : State → Host.Outcome State Fault Refusal :=
  awake (fun s => match quietInstant a s with
    | some (e, t) => changeStatus .fresh { e with status := .quiet } (s.arriveAt t)
    | none => s)

/-- R126; nothing happens to an entry that is not QUIET. -/
def execNeighbourLostExpiry (a : Byte) : State → Host.Outcome State Fault Refusal :=
  awake (fun s => match lostInstant a s with
    | some (e, t) => changeStatus .quiet { e with status := .lost } (s.arriveAt t)
    | none => s)

end Sys2Proof.Machine
end

