-- ==== Sys2Proof/Machine/Settings.lean ====
section
/-! DEFINITION. The checks of START on the staging image, in the order of R174 and R99. -/

namespace Sys2Proof.Machine

def within (lo hi n : Nat) : Bool := decide (lo ≤ n) && decide (n ≤ hi)

/-- A reset time: 0, or 20..60000 ms (11.7). -/
def resetTimeOk (n : Nat) : Bool := (n == 0) || within 20 60000 n

/-- The `k`-th neighbour address of area S, upstream first (R174). -/
def Image.neighbourField (i : Image) (k : Nat) : Nat := i.s8 (3 + k)

/-- In 0..62, and if not 0 different from the station address and from every earlier neighbour field (R174). -/
def Image.neighbourOk (i : Image) (k : Nat) : Bool :=
  let a := i.neighbourField k
  decide (a ≤ 62) &&
    ((a == 0) || ((a != i.s8 0) && (List.range k).all (fun j => i.neighbourField j != a)))

/-- The fields of area S in field order, each with whether it lies in its range (11.7). -/
def Image.fieldsS (i : Image) : List Bool :=
  [within 1 62 (i.s8 0), true] ++ (List.range 5).map i.neighbourOk ++
  [within 0 1 i.followPeers, within 1 5 i.linkBaud, within 0 100 i.keyupTime, within 1 60 i.beaconInterval,
   within 10 32767 i.pickupPh, within 0 3 i.curvePh, within 5 200 i.delayedTmPh, resetTimeOk i.resetTimePh,
   within 10 32767 i.highSet, within 0 500 i.delayHs, within 0 500 i.delayLost, within 0 3 i.curveEf,
   resetTimeOk i.resetTimeEf, within 1 20000 i.v0Min, within 1 10000000 i.p0Min] ++
  [1, 2, 3, 4].map (fun n => within 200 180000 (i.deadTime n)) ++
  [within 1000 600000 i.reclaim, within 60 1000 i.tripFail, within 60 1000 i.closeFail,
   within 1000 120000 i.holdMax, within 100 1000 i.restraintHold, within 500 10000 i.huntDefer,
   within 60 7200 i.profileRelax] ++
  (List.range 8).map (fun n => within 0 1 (i.inputMode n)) ++
  [(i.sensePeriod == 50) || (i.sensePeriod == 200), within 20 500 i.discTime, within 0 15 i.attnMask]

/-- A field of a profile record that is 0 or 1. -/
def Image.flagOk (i : Image) (p : Profile) (off : Nat) : Bool := within 0 1 (i.f8 (profileBase p + off))

/-- The fields of one profile record in field order (11.8). -/
def Image.fieldsOf (i : Image) (p : Profile) : List Bool :=
  [within 0 4 (i.shotLimit p), within 0 5 (i.fastTrips p), i.flagOk p 2, within 5 200 (i.fastTmPh p),
   within 5 32767 (i.pickupEf p), within 5 200 (i.tmEf p), within 100 30000 (i.pickupSef p),
   within 100 60000 (i.timeSef p), i.flagOk p 11, i.flagOk p 12, i.flagOk p 13]

def Image.fieldsF (i : Image) : List Bool := i.fieldsOf .ordinary ++ i.fieldsOf .elevated ++ i.fieldsOf .extreme

/-- The order of the shot limits, by the index of the failing field (R99). -/
def Image.badShotLimit (i : Image) : Option Nat :=
  if i.shotLimit .ordinary < i.shotLimit .elevated then some 11
  else if i.shotLimit .elevated < i.shotLimit .extreme then some 22
  else none

/-- The area's last two bytes are the CRC-16 of the bytes before them (R174). -/
def areaCrcOk (l : List Byte) : Bool :=
  l.drop (l.length - 2) == halfBytes (crc16 0xFFFF#16 (l.take (l.length - 2)))

/-- The codes of the settings areas (11.1). -/
def areaSCode : Nat := 1
def areaFCode : Nat := 2

/-- The first field out of range, by its index. -/
def firstBad (l : List Bool) : Option Nat := l.findIdx? (fun ok => !ok)

/-- The first check of START that fails: the area, and the index of the field, 255 for a CRC (R174). -/
def Image.firstFailure (i : Image) : Option (Nat × Nat) :=
  if !areaCrcOk i.areaS then some (areaSCode, 255)
  else if !areaCrcOk i.areaF then some (areaFCode, 255)
  else match firstBad i.fieldsS with
    | some n => some (areaSCode, n)
    | none => match firstBad i.fieldsF with
      | some n => some (areaFCode, n)
      | none => i.badShotLimit.map (fun n => (areaFCode, n))

/-- The data bytes replace the bytes of an area from the offset onward (R173). -/
def overwrite (l : List Byte) (off : Nat) (data : List Byte) : List Byte :=
  l.take off ++ data ++ l.drop (off + data.length)

end Sys2Proof.Machine
end

