-- ==== Sys2Proof/Machine/Transmit.lean ====
section
/-! DEFINITION. LINK, section 7.4: the transmit slots, the transmitter and the beacon timer. -/

namespace Sys2Proof.Machine

/-! ### The slots (R127) -/

/-- A placement fills its slot or replaces what waits there. -/
def Slots.put : OwnedFrame → Slots → Slots
  | .breakerFail op, x => { x with breakerFail := some op }
  | .trip t, x => { x with trip := some t }
  | .restrain r, x => { x with restraint := some (.restrain r) }
  | .release, x => { x with restraint := some .release }
  | .state st, x => { x with state := some st }
  | .huntCall n, x => { x with huntCall := some n }
  | .huntReport r, x => { x with huntReport := some r }
  | .huntVerdict v, x => { x with huntVerdict := some v }

def Slots.occupied (x : Slots) : Bool := x != Slots.empty

def RestraintMsg.frame : RestraintMsg → OwnedFrame
  | .restrain r => .restrain r
  | .release => .release

/-- The occupied slot of highest priority, and the slots without it (R130). -/
def Slots.takeFirst (x : Slots) : Option (Placement × Slots) :=
  match x.breakerFail, x.trip, x.restraint, x.state, x.huntCall, x.huntReport, x.huntVerdict, x.beacon with
  | some op, _, _, _, _, _, _, _ => some (.owned (.breakerFail op), { x with breakerFail := none })
  | none, some t, _, _, _, _, _, _ => some (.owned (.trip t), { x with trip := none })
  | none, none, some r, _, _, _, _, _ => some (.owned r.frame, { x with restraint := none })
  | none, none, none, some st, _, _, _, _ => some (.owned (.state st), { x with state := none })
  | none, none, none, none, some n, _, _, _ => some (.owned (.huntCall n), { x with huntCall := none })
  | none, none, none, none, none, some r, _, _ => some (.owned (.huntReport r), { x with huntReport := none })
  | none, none, none, none, none, none, some v, _ => some (.owned (.huntVerdict v), { x with huntVerdict := none })
  | none, none, none, none, none, none, none, true => some (.beaconRequest, { x with beacon := false })
  | none, none, none, none, none, none, none, false => none

/-! ### The transmitter (R128 to R131) -/

/-- The transmitter enters a state, timed or not. -/
def txEnter (st : TxState) (timer : Option Ms) (s : State) : State :=
  { s with link := { s.link with tx := st, txTimer := timer } }

/-- DEFER: 3 ms of idle CD from here, or from when CD is next idle (R128). -/
def enterDefer (s : State) : State := txEnter .defer (if s.link.cd then none else some (after s.now 3)) s

/-- One draw of the backoff generator (R129). -/
def lfsrNext (r : Half) : Half := if r.getLsbD 0 then (r >>> 1) ^^^ 0xB400#16 else r >>> 1

/-- The BEACON payload, built when the frame is fixed (R130). -/
def beaconNow (s : State) : BeaconInfo :=
  { ownDemand := s.prof.ownDemand, effective := s.prof.effective, st := s.sequencer.st, pos := s.fin.position,
    measFresh := s.meas.status == .fresh, phase := s.hunt.phase, interval := s.image.beaconInterval }

def placementBody (p : Placement) (s : State) : FrameBody :=
  match p with
  | .owned f => .owned f
  | .beaconRequest => .beacon (beaconNow s)

/-- The frame is fixed (R130). -/
def fixFrame (p : Placement) (s : State) : FixedFrame :=
  { sol := s.link.sol, body := placementBody p s,
    bytes := frameBytes s.image.feederCode s.address s.link.freshStart s.link.sol (placementBody p s) }

/-- SENDING: the frame goes out on TXD (R131). -/
def enterSending (s : State) : State :=
  { s with link := { s.link with tx := .sending, txTimer := none, txd := s.link.sending.map (·.bytes) } }

/-- KEYUP: KEY rises, the receiver is set to HUNT, and the frame is taken from its slot and fixed; with KEYUP_TIME
0 the frame is sent at once (R118, R130; log 24). -/
def keyUp (p : Placement) (rest : Slots) (s : State) : State :=
  let fixed := { s with
    link := { s.link with
      key := true, rx := .hunt, slots := rest, sending := some (fixFrame p s),
      tx := .keyup, txTimer := some (after s.now s.image.keyupTime) } }
  if s.image.keyupTime = 0 then enterSending fixed else fixed

/-- The backoff wait is over: DEFER where CD is busy, else the attempt (R129). -/
def endBackoff (s : State) : State :=
  if s.link.cd then enterDefer s
  else match s.link.slots.takeFirst with
    | some (p, rest) => keyUp p rest s
    | none => txEnter .idle none s

/-- BACKOFF: a count is drawn; a draw of 0 reads CD at once (R129; log 24). -/
def enterBackoff (s : State) : State :=
  let drawn := { s with link := { s.link with lfsr := lfsrNext s.link.lfsr } }
  let k := drawn.link.lfsr.toNat % 8
  if k = 0 then endBackoff drawn else txEnter .backoff (some (after s.now (4 * k))) drawn

/-- R131: the sign-of-life counter advances, 63 going to 1. -/
def nextSol (n : Nat) : Nat := if 63 ≤ n then 1 else n + 1

/-- The last stop bit of a frame has been sent (R131). -/
def finishSending (s : State) : State :=
  { s with
    link := { s.link with
      tx := .keydown, txTimer := some (after s.now 2), txd := none, sending := none,
      lastSent := s.link.sending.map (·.sol), sol := nextSol s.link.sol, freshStart := false } }

/-- KEYDOWN is over: KEY falls, and the transmitter enters DEFER or IDLE (R131). -/
def keyDown (s : State) : State :=
  let lowered := { s with link := { s.link with key := false } }
  if s.link.slots.occupied then enterDefer lowered else txEnter .idle none lowered

/-! ### Placement (R127, R128, R132) -/

/-- A filled slot starts an idle transmitter (R128). -/
def startTransmitter (s : State) : State := if s.link.tx = .idle then enterDefer s else s

/-- A BEACON is placed: its slot is filled, and the beacon timer is set anew (R132). -/
def placeBeacon (s : State) : State :=
  startTransmitter { s with
    link := { s.link with
      slots := { s.link.slots with beacon := true },
      beaconAt := some (after s.now (s.image.beaconInterval * 1000)) } }

/-- A frame is placed with its payload (R127). -/
def putFrame (f : OwnedFrame) (s : State) : State :=
  startTransmitter { s with link := { s.link with slots := s.link.slots.put f } }

/-- LINK takes a placement; in CONFIG it is discarded (R127). -/
def takePlacement (p : Placement) (s : State) : State :=
  if s.isRun then
    match p with
    | .owned f => putFrame f s
    | .beaconRequest => placeBeacon s
  else s

/-! ### The commands -/

/-- R127. -/
def execFramePlacement (p : Placement) : State → Host.Outcome State Fault Refusal :=
  awake (fun s => takePlacement p (takeHandOver (.framePlacement p) s))

/-- CD becomes busy or idle; in DEFER the 3 ms count stops or begins again (R128). -/
def takeCarrier (busy : Bool) (s : State) : State :=
  let t := { s with link := { s.link with cd := busy } }
  if busy = s.link.cd then s else if s.link.tx = .defer then enterDefer t else t

/-- R128. -/
def execCarrierDetectChange (busy : Bool) : State → Host.Outcome State Fault Refusal := awake (takeCarrier busy)

/-- The transmitter timer expires in the state that set it; otherwise nothing happens. -/
def txExpiry (st : TxState) (f : State → State) (s : State) : State :=
  if s.link.tx = st then
    match s.link.txTimer with
    | some t => f (s.arriveAt t)
    | none => s
  else s

/-- R128. -/
def execDeferQuietExpiry : State → Host.Outcome State Fault Refusal := awake (txExpiry .defer enterBackoff)

/-- R129. -/
def execBackoffExpiry : State → Host.Outcome State Fault Refusal := awake (txExpiry .backoff endBackoff)

/-- R130. -/
def execKeyupExpiry : State → Host.Outcome State Fault Refusal := awake (txExpiry .keyup enterSending)

/-- R131; outside SENDING no frame is being sent. -/
def execSendComplete : State → Host.Outcome State Fault Refusal :=
  awake (fun s => if s.link.tx = .sending then finishSending s else s)

/-- R131. -/
def execKeydownExpiry : State → Host.Outcome State Fault Refusal := awake (txExpiry .keydown keyDown)

/-- R132; the beacon timer is stopped in CONFIG. -/
def execBeaconTimerExpiry : State → Host.Outcome State Fault Refusal :=
  awake (fun s => match s.link.beaconAt with
    | some t => placeBeacon (s.arriveAt t)
    | none => s)

end Sys2Proof.Machine
end

