-- ==== Sys2Proof/Machine/Reset.lean ====
section
/-! DEFINITION. What START and the resets make of every block (R175 to R178 and each block's reset table). -/

namespace Sys2Proof.Machine

/-! ### Shared steps -/

/-- The placement an event is, if it is one. -/
def placementOf : Instr → Option Placement
  | .framePlacement p => some p
  | _ => none

/-- LINK takes every placement outstanding, as part of the same command (log 8). -/
def takePlacements (s : State) : State :=
  (s.handovers.filterMap placementOf).foldl (fun t p => takePlacement p (takeHandOver (.framePlacement p) t)) s

/-- The placements outstanding at a reset are lost with the slots (R134; log 7). -/
def dropPlacements (s : State) : State :=
  { s with handovers := s.handovers.filter (fun e => (placementOf e).isNone) }

/-- BLK adds SELF if MEAS is STALE, then FIELD tag 2, then FIELD tag 5, each where its condition holds
(R88, R97). SEQ takes none of these changes: it is in CLOSED_REST or LOCKOUT, or takes its state in the next step of
the reset (R83, R178; log 32). -/
def placeStanding (s : State) : State :=
  let s1 := if s.meas.status = .stale then storeBlock (selfKey s) .lock none s else s
  let s2 := if s1.inputSet 2 then storeBlock (fieldKey s1 2) .lock none s1 else s1
  if s2.inputSet 5 then storeBlock (fieldKey s2 5) .lock none s2 else s2

/-! ### START (R175) -/

/-- Step 1: the staging image is locked, and the part is in RUN. -/
def lockSettings (s : State) : State :=
  refreshAttn { s with cport := { s.cport with part := .run, locked := some s.cport.staging } }

/-- Step 2: LINK loads the backoff generator and pins the configured neighbours (R133). -/
def startLink (s : State) : State :=
  { s with
    link := { s.link with lfsr := s.address.setWidth 16, table := pinAll s.now s.image s.link.table } }

/-- Step 3: TRIPCO creates its records (R136, R148). -/
def startTripco (s : State) : State :=
  { s with tripco := { TripcoState.reset with records := s.image.downstream.map Restraint.fresh } }

/-- Step 4: the STARTED notice. -/
def announceStart (s : State) : State :=
  queueOwn .started (half (positionCode s.fin.position)) (half (profileCode s.prof.effective)) s

/-- The demands recomputed, with the effective profile at the target and no relax (R110, R114). -/
def ProfState.follow (peer : Profile) (p : ProfState) : ProfState :=
  let q := p.demand p.port p.field peer
  { q with effective := q.target, relax := .none, relaxAt := none }

/-- Step 5: the effective profile becomes the target, and a BEACON is asked for (R110). -/
def startProfile (s : State) : State :=
  let t := { s with prof := s.prof.follow (peerDemand s) }
  askBeacon
    (if t.prof.effective = s.prof.effective then t else queueProfileChanged .followed s.prof.effective t)

/-- The part enters RUN (R175). -/
def enterRun (s : State) : State :=
  refreshHealthy (placeStanding (takePlacements (seqStart (startProfile
    (announceStart (startTripco (startLink (lockSettings s))))))))

/-! ### Power-on reset (R176) -/

/-- The sensing of a reset part: the levels on the inputs are not the part's to reset (log 12). -/
def SenseState.restart (staticAt : Ms) (x : SenseState) : SenseState :=
  { SenseState.reset with staticAt := staticAt, pins := x.pins }

/-- The state of R176. The commands still waiting, the levels on CD and on the inputs and the model's own counter are
no state of the part's (log 5, 12, 15, 19). -/
def powerOn (held : Bool) (s : State) : State :=
  { State.reset with
    resetHeld := held, fin := { FinState.reset with sense := s.fin.sense.restart 0 },
    link := { LinkState.reset with cd := s.link.cd }, pending := s.pending,
    freeCount := s.freeCount }

/-- R176; RESETn low holds the part. -/
def execPowerOnReset (cause : ResetCause) (s : State) : Host.Outcome State Fault Refusal :=
  .next (powerOn (cause == .resetnLow) s)

/-- RESETn returns high: the part begins in its initial state; with no reset held nothing happens (R176). -/
def execResetnRelease (s : State) : Host.Outcome State Fault Refusal :=
  .next (if s.resetHeld then powerOn false s else s)

/-! ### SOFT RESET in CONFIG (R177) -/

/-- As R176, but the count runs on, and the samples of its milliseconds with it, and the staging image and the
transaction are kept (R177, R41, R54). -/
def softResetConfig (s : State) : State :=
  { powerOn false s with
    now := s.now,
    meas := { MeasState.reset with staleSince := s.now },
    fin := { FinState.reset with
      nextPeriodAt := some s.now, sense := s.fin.sense.restart s.fin.sense.staticAt },
    cport := { s.cport with notices := [], overflow := false, attn := false } }

/-! ### SOFT RESET in RUN (R178) -/

/-- Step 1: LINK (R134). -/
def resetLink (s : State) : State :=
  dropPlacements { s with
    link := { s.link with
      slots := Slots.empty, tx := .idle, txTimer := none, sending := none, key := false, txd := none, rx := .hunt,
      table := pinAll s.now s.image [] } }

/-- The state SEQ takes from the kept position (R77). -/
def restingState (p : Position) : SeqState := if p = .closed then .closedRest else .lockout

/-- Step 2: the queue is emptied and begins with RESTARTED. -/
def resetQueue (s : State) : State :=
  queueOwn .restarted (half (seqStateCode (restingState s.fin.position))) (half (profileCode s.prof.ownDemand))
    { s with cport := { s.cport with notices := [], overflow := false, attn := false } }

/-- Step 3: ELEM, TRIPCO, HUNT and the snapshot mechanism (R40, R148, R167, R19). -/
def resetElements (s : State) : State :=
  { s with
    elem := ElemState.reset,
    tripco := { TripcoState.reset with records := s.tripco.records.map (fun r => Restraint.fresh r.address) },
    hunt := { HuntState.reset with ownSeq := s.hunt.ownSeq },
    meas := { s.meas with snapState := .none, snapshot := none } }

/-- Step 4: only TAG records are kept, and what stands is placed anew (R97). -/
def resetBlocks (s : State) : State :=
  placeStanding { s with
    blk := { s.blk with
      table := s.blk.table.filter (fun r => decide (r.key.source = .tag)), overflow := false } }

/-- Step 5: SEQ takes its state from the kept position and places its STATE frame; FIN ends the forcing
(R77, R54). -/
def resetSequencer (s : State) : State :=
  placeStateFrame (forceStatic
    { s with sequencer := SequencerState.reset.enter (restingState s.fin.position) none })

/-- Step 6: the effective profile becomes the own demand (R114). -/
def resetProfile (s : State) : State := askBeacon { s with prof := s.prof.follow .ordinary }

/-- SOFT RESET in RUN, step by step (R178). -/
def softResetRun (s : State) : State :=
  refreshHealthy (takePlacements (resetProfile (resetSequencer (resetBlocks (resetElements (resetQueue
    (resetLink s)))))))

end Sys2Proof.Machine
end

