-- ==== Sys2Proof/Machine/Watch.lean ====
section
/-! DEFINITION. BLK, sections 5.4 and 5.5: matching accepted frames against the booked watches. -/

namespace Sys2Proof.Machine

/-- R92: a substate of 255 is ANY. -/
def Watch.fits (source : Byte) (body : FrameBody) (w : Watch) : Bool :=
  ((w.station == 0) || (w.station == source)) && (w.kind == bodyKind body) &&
    ((w.substate == 255) || (w.substate.toNat == bodySubstate body))

/-- The key of the record that a PLACE_BLOCK action asks for (R94). -/
def watchBlockKey (source : Byte) (w : Watch) : BlockKey := { source := .watch, origin := source, tag := w.blockTag }

/-- The action is a PLACE_BLOCK whose record would not be stored (R94). -/
def actionFails (source : Byte) (w : Watch) (a : WatchAction) (s : State) : Bool :=
  (a == .placeBlock) && placementFails (watchBlockKey source w) s

/-- PLACE_BLOCK (R94). A stored effect byte that is neither HOLD nor LOCK names no effect (log 25). -/
def watchPlace (source : Byte) (w : Watch) (s : State) : State :=
  match blockEffectOfCode w.effect.toNat with
  | some e => placeBlock (watchBlockKey source w) e (durationOf w.duration) s
  | none => s

/-- INTERTRIP: a trip request to SEQ, taken at once or handed over (R95; log 5). Taken at once, it comes before action 2
and the later watches; handed over, it comes after all matching of the frame, behind their table changes. R95 leaves
that place open, and the orders in between are not modelled (log 37). -/
def watchIntertrip (s : State) : State :=
  if Config.intertripTakenAtOnce s.freeCount then advanceFree (seqTripRequest .intertrip s)
  else advanceFree (handOver (.tripRequest .intertrip) s)

/-- One action of a matching watch (R93 to R95). -/
def watchAct (source : Byte) (w : Watch) (a : WatchAction) (s : State) : State :=
  match a with
  | .none => s
  | .placeBlock => watchPlace source w s
  | .removeBlock => removeWatchTag w.blockTag s
  | .intertrip => watchIntertrip s

def Watch.sameKey (v w : Watch) : Bool :=
  (v.station == w.station) && (v.kind == w.kind) && (v.substate == w.substate)

/-- A ONCE watch that acted leaves the table (R93). -/
def retireWatch (w : Watch) (s : State) : State :=
  if w.mode = .once then
    { s with blk := { s.blk with watches := s.blk.watches.filter (fun v => !v.sameKey w) } }
  else s

/-- The WATCH_MATCH notice; `failed` says that a PLACE_BLOCK of this match stored nothing (R96). -/
def queueMatch (source : Byte) (body : FrameBody) (w : Watch) (failed : Bool) (s : State) : State :=
  queueTagged .watchMatch source (pair (kindCode (bodyKind body)) (bodySubstate body))
    (half (if failed then 1 else 0)) w.tagA w.tagB s

/-- A matching watch acts, step by step (R93). -/
def watchMatch (source : Byte) (body : FrameBody) (w : Watch) (s : State) : State :=
  let s1 := watchAct source w w.action1 s
  let s2 := watchAct source w w.action2 s1
  let failed := actionFails source w w.action1 s || actionFails source w w.action2 s1
  retireWatch w (queueMatch source body w failed s2)

/-- The matcher takes an accepted frame against the table as it stood (R92, R93). -/
def matchFrame (source : Byte) (body : FrameBody) (s : State) : State :=
  (s.blk.watches.filter (Watch.fits source body)).foldl (fun t w => watchMatch source body w t) s

/-- R93. -/
def execWatchFrameMatch (source : Byte) (body : FrameBody) : State → Host.Outcome State Fault Refusal :=
  awake (fun s => matchFrame source body (takeHandOver (.watchFrameMatch source body) s))

end Sys2Proof.Machine
end

