-- ==== Sys2Proof/Machine/Commands.lean ====
section
/-! DEFINITION. The nineteen host commands (R173 to R183 and the rules they cite): what each does, its resulting
code and its response payload. -/

namespace Sys2Proof.Machine

/-- What a command comes to: the part after it, its resulting code and payload. `early` is the part before the
effects that follow at other blocks as events of their own, which the status byte may show or not (R170). -/
structure Reply where
  early : State
  after : State
  result : Result
  payload : List Byte
  deriving DecidableEq, Repr

/-- A command whose effects are all its own. -/
def reply (r : Result) (s : State) : Reply := { early := s, after := s, result := r, payload := [] }

def replyWith (r : Result) (payload : List Byte) (s : State) : Reply :=
  { early := s, after := s, result := r, payload := payload }

/-- A command that is carried out, with effects that follow elsewhere. -/
def replyAfter (early after : State) : Reply := { early := early, after := after, result := .accepted, payload := [] }

/-! ### Settings, START and SOFT RESET -/

/-- FIN takes a change of the staged input modes (R44). -/
def changeModes (before after : Image) (l : List InputState) : List InputState :=
  l.mapIdx (fun n x => if sensedStatic before false n = sensedStatic after false n then x else x.changeMode)

/-- CPORT stores the image and sets ATTN anew (R173, R180). -/
def storeImage (i : Image) (s : State) : State := refreshAttn { s with cport := { s.cport with staging := i } }

/-- LINK and FIN read the staged values that the write changed (R41, R44, R115). -/
def readStaged (before : Image) (s : State) : State :=
  refreshWet { s with
    fin := { s.fin with inputs := changeModes before s.image s.fin.inputs },
    link := { s.link with
      rx := if effectiveBaud before = effectiveBaud s.image then s.link.rx else .hunt } }

/-- The image with the data written into the area of that code (R173). -/
def Image.write (area : Byte) (off : Nat) (data : List Byte) (i : Image) : Option Image :=
  if area.toNat = areaSCode ∧ off + data.length ≤ 81 then some { i with areaS := overwrite i.areaS off data }
  else if area.toNat = areaFCode ∧ off + data.length ≤ 44 then some { i with areaF := overwrite i.areaF off data }
  else none

/-- LOAD SETTINGS (R173); PROF follows a change of the follow-peers flag (R103). -/
def cmdLoadSettings (area : Byte) (off : Half) (data : List Byte) (s : State) : Reply :=
  if s.isRun then reply .refusedLocked s
  else if 1 ≤ data.length ∧ data.length ≤ 16 then
    match s.cport.staging.write area off.toNat data with
    | some i => replyAfter (storeImage i s) (refreshPeerDemand (readStaged s.cport.staging (storeImage i s)))
    | none => reply .refusedRange s
  else reply .refusedRange s

/-- START (R174, R175). -/
def cmdStart (s : State) : Reply :=
  if s.isRun then reply .refusedState s
  else match s.cport.staging.firstFailure with
    | some (area, index) => replyWith .refusedRange [byteOf area, byteOf index] s
    | none => reply .accepted (enterRun s)

/-- SOFT RESET (R177, R178). -/
def cmdSoftReset (s : State) : Reply :=
  if s.isRun then reply .accepted (softResetRun s) else reply .accepted (softResetConfig s)

/-! ### Profile -/

/-- PROF's own part of a raise by command: the profile and its notice, without the event at SEQ (R111, R170). -/
def selectEarly (after s : State) : State :=
  if s.isRun ∧ after.prof.effective ≠ s.prof.effective then
    queueProfileChanged .raised s.prof.effective { s with prof := after.prof }
  else after

/-- SELECT PROFILE (R100). -/
def cmdSelectProfile (profile : Byte) (s : State) : Reply :=
  match profileOfCode profile.toNat with
  | some p => replyAfter (selectEarly (setPortDemand p s) s) (setPortDemand p s)
  | none => reply .refusedRange s

/-! ### Blocks and watches -/

/-- TAG (R84). -/
def cmdTag (number duration : Half) (s : State) : Reply :=
  if s.isRun then
    { early := storeBlock (tagKey s number) .lock (durationOf duration) s,
      after := placeBlock (tagKey s number) .lock (durationOf duration) s,
      result := if placementFails (tagKey s number) s then .refusedFull else .accepted,
      payload := [] }
  else reply .refusedState s

/-- A record is removed by command (R85, R86). -/
def removeByCommand (k : BlockKey) (s : State) : Reply :=
  if hasKey k s.blk.table then
    replyAfter { s with blk := { s.blk with table := removeRecord k s.blk.table } } (removeBlock k s)
  else reply .notFound s

/-- UNTAG (R85). -/
def cmdUntag (number : Half) (s : State) : Reply :=
  if s.isRun then removeByCommand (tagKey s number) s else reply .refusedState s

/-- The sources UNBLOCK takes: TAG and WATCH (R86). -/
def unblockSource : Nat → Option BlockSource
  | 1 => some .tag
  | 3 => some .watch
  | _ => none

/-- UNBLOCK (R86). -/
def cmdUnblock (source origin : Byte) (number : Half) (s : State) : Reply :=
  if s.isRun then
    match unblockSource source.toNat with
    | some src =>
      if origin.isAddress then removeByCommand { source := src, origin := origin, tag := number } s
      else reply .refusedRange s
    | none => reply .refusedRange s
  else reply .refusedState s

/-- The overflow flag is cleared (R87). -/
def clearFlag (s : State) : State := { s with blk := { s.blk with overflow := false } }

/-- CLEAR OVERFLOW (R87). -/
def cmdClearOverflow (s : State) : Reply :=
  if s.isRun then
    if 16 ≤ s.blk.table.length then reply .refusedFull s
    else if s.blk.overflow then replyAfter (clearFlag s) (seqBlockChange (clearFlag s))
    else reply .accepted s
  else reply .refusedState s

/-- The substates allowed for a kind; 255 is ANY (R89). -/
def substateAllowed (k : FrameKind) (n : Nat) : Bool :=
  (n == 255) ||
    (match k with
     | .state => (announcedState n).isSome
     | .trip => within 1 7 n
     | _ => false)

/-- The watch a payload books, where kind, mode and actions name something (R89, R90). -/
def readWatch (w : WatchOperand) : Option Watch := do
  let kind ← kindOfCode w.kind.toNat
  let mode ← watchModeOfCode w.mode.toNat
  let action1 ← watchActionOfCode w.action1.toNat
  let action2 ← watchActionOfCode w.action2.toNat
  pure { station := w.station, kind := kind, substate := w.substate, mode := mode, action1 := action1,
         action2 := action2, blockTag := w.blockTag, effect := w.effect, duration := w.duration,
         tagA := w.tagA, tagB := w.tagB }

/-- The checks of R90, all of which answer REFUSED_RANGE; a kind that is no frame kind allows no substate
(log 23). -/
def watchBookable (a : Byte) (w : Watch) : Bool :=
  decide (w.station.toNat ≤ 62) && (w.station != a) && substateAllowed w.kind w.substate.toNat &&
    ((w.action1 != .placeBlock && w.action2 != .placeBlock) || (blockEffectOfCode w.effect.toNat).isSome)

/-- The watch table after a booking; none where 12 watches leave no room (R90). -/
def bookIn (w : Watch) (t : List Watch) : Option (List Watch) :=
  if t.any (fun v => v.sameKey w) then some (t.map (fun v => if v.sameKey w then w else v))
  else if t.length < 12 then some (t ++ [w])
  else none

/-- A bookable watch is booked (R90). -/
def bookWatch (w : Watch) (s : State) : Reply :=
  match bookIn w s.blk.watches with
  | some t => reply .accepted { s with blk := { s.blk with watches := t } }
  | none => reply .refusedFull s

/-- BOOK WATCH (R90). -/
def cmdBookWatch (w : WatchOperand) (s : State) : Reply :=
  if s.isRun then
    match readWatch w with
    | some v => if watchBookable s.address v then bookWatch v s else reply .refusedRange s
    | none => reply .refusedRange s
  else reply .refusedState s

/-- The watch of a key (R91). -/
def watchAt (station kind substate : Byte) (v : Watch) : Bool :=
  (v.station == station) && (kindCode v.kind == kind.toNat) && (v.substate == substate)

/-- UNBOOK WATCH (R91). -/
def cmdUnbookWatch (station kind substate : Byte) (s : State) : Reply :=
  if s.isRun then
    if s.blk.watches.any (watchAt station kind substate) then
      reply .accepted { s with
        blk := { s.blk with watches := s.blk.watches.filter (fun v => !watchAt station kind substate v) } }
    else reply .notFound s
  else reply .refusedState s

/-! ### Manual commands (R73 to R76) -/

/-- A command SEQ carries out; PROF's taking of it follows (R72). -/
def replySeq (s : State) : Reply := replyAfter s (profRest s)

/-- MANUAL OPEN according to the state (R74). -/
def manualOpen (s : State) : Reply :=
  match s.sequencer.st with
  | .closedRest | .reclaim | .closing => replySeq (takeManualTrip s)
  | .tripping => reply .accepted { s with sequencer := { s.sequencer with noReclose := true } }
  | .deadTime | .deadHold => replySeq (seqMove .opened none .manualOpen s)
  | .lockout | .opened => reply .accepted s
  | .failed | .dormant => reply .refusedState s

/-- MANUAL CLOSE: the state, TAG records and GAS_LOW in turn (R75). -/
def manualClose (s : State) : Reply :=
  match s.sequencer.st with
  | .lockout | .opened =>
    if s.blk.table.any (fun r => decide (r.key.source = .tag)) then reply .refusedTagged s
    else if s.inputSet 5 then reply .refusedGas s
    else
      let freed := removeSource .sef s
      replySeq (seqClosing { freed with sequencer := { freed.sequencer with shot := 0, manualClose := true } })
  | _ => reply .refusedState s

/-- R73: DORMANT and LOCAL come before the command's own rule. -/
def judgeManual (f : State → Reply) (s : State) : Reply :=
  if s.sequencer.st = .dormant then reply .refusedState s
  else if s.inputSet 6 then reply .refusedLocal s
  else f s

def cmdManualOpen : State → Reply := judgeManual manualOpen
def cmdManualClose : State → Reply := judgeManual manualClose

/-- RESET FAIL (R76). -/
def cmdResetFail (s : State) : Reply :=
  if s.sequencer.st = .failed then
    match s.fin.position with
    | .opened =>
      replySeq (seqMove .lockout none .resetFail { s with sequencer := { s.sequencer with shot := 0 } })
    | .closed =>
      replySeq (seqMove .closedRest none .resetFail
        { s with sequencer := { s.sequencer with shot := 0, manualClose := false } })
    | .unknown => reply .refusedState s
  else reply .refusedState s

/-! ### Hunting and snapshots -/

/-- START HUNT (R150). -/
def cmdStartHunt (s : State) : Reply :=
  if s.isRun ∧ s.hunt.phase = .idle ∧ s.huntEnable = true then
    replyAfter (callRoundBy (fun k => storeBlock k .hold none) s) (callRound s)
  else reply .refusedState s

/-- SNAPSHOT REQUEST (R15). -/
def cmdSnapshotRequest (s : State) : Reply :=
  if s.meas.snapState = .pending then reply .busy s
  else reply .accepted { s with meas := { s.meas with snapState := .pending, snapshot := none } }

/-- SNAPSHOT READ (R18). -/
def cmdSnapshotRead (s : State) : Reply :=
  replyWith .accepted
    (if s.meas.snapState = .valid then (s.meas.snapshot.map snapshotBytes).getD [] else []) s

/-! ### Notices, tables and status -/

/-- READ NOTICE (R181). -/
def cmdReadNotice (s : State) : Reply :=
  match s.cport.notices with
  | [] => replyWith .notFound [0] s
  | n :: rest =>
    replyWith .accepted (noticeBytes n ++ [byteOf rest.length])
      (refreshAttn { s with cport := { s.cport with notices := rest, overflow := false } })

/-- The payload of a table read: the tables are NEIGHBOUR 1, BLOCK 2, WATCH 3, HUNT 4 (R182; 11.1). -/
def tablePayload (table first count : Nat) (s : State) : Option (List Byte) :=
  match table with
  | 1 => some (tableRead neighbourBytes first count s.link.table)
  | 2 => some (tableRead blockBytes first count s.blk.table)
  | 3 => some (tableRead watchBytes first count s.blk.watches)
  | 4 => some (huntHeader s.hunt ++ tableRead huntReportBytes first count s.hunt.table)
  | _ => none

/-- READ TABLE (R182). -/
def cmdReadTable (table first count : Byte) (s : State) : Reply :=
  match tablePayload table.toNat first.toNat count.toNat s with
  | some l => if within 1 4 count.toNat then replyWith .accepted l s else reply .refusedRange s
  | none => reply .refusedRange s

/-- READ STATUS (R183). -/
def cmdReadStatus (s : State) : Reply := replyWith .accepted (statusRecord s) s

end Sys2Proof.Machine
end

