-- ==== Sys2Proof/Machine/Port.lean ====
section
/-! DEFINITION. CPORT, section 10.1: transactions, the judging of a complete command, and the response. -/

namespace Sys2Proof.Machine

/-! ### The response (R171, R172) -/

/-- The response bytes: status byte, result code, length, payload, CRC byte (R171). -/
def responseBytes (status : Byte) (r : Result) (payload : List Byte) : List Byte :=
  let body := [status, byteOf (resultCode r), byteOf payload.length] ++ payload
  body ++ [crc8 0xFF body]

/-- CPORT enters RESPONSE with a response; PDO carries 0xFF until the first byte is clocked (R169). -/
def enterResponse (status : Byte) (r : Result) (payload : List Byte) (s : State) : State :=
  { s with
    cport := { s.cport with
      trans := .response, resp := responseBytes status r payload, respPos := 0, pdo := some 0xFF } }

/-- The response of a command that was carried out. Where the effects that follow at other blocks change the
status byte, it shows them or not (R170; log 5): all of them or none, also where they fall at two blocks (log 40). -/
def respond (r : Reply) : State :=
  if statusByte r.early = statusByte r.after then enterResponse (statusByte r.after) r.result r.payload r.after
  else if Config.statusSeesFollowOn r.after.freeCount then
    advanceFree (enterResponse (statusByte r.after) r.result r.payload r.after)
  else advanceFree (enterResponse (statusByte r.early) r.result r.payload r.after)

/-! ### Judging a command (R170) -/

/-- The nineteen commands with their operands as the payload gives them (11.4). -/
inductive HostCommand where
  | loadSettings (area : Byte) (offset : Half) (data : List Byte)
  | start
  | softReset
  | selectProfile (profile : Byte)
  | tag (number duration : Half)
  | untag (number : Half)
  | unblock (source origin : Byte) (number : Half)
  | clearOverflow
  | bookWatch (w : WatchOperand)
  | unbookWatch (station kind substate : Byte)
  | manualOpen
  | manualClose
  | resetFail
  | startHunt
  | snapshotRequest
  | snapshotRead
  | readNotice
  | readTable (table first count : Byte)
  | readStatus
  deriving DecidableEq, Repr

/-- The command codes (11.4). -/
def commandCodes : List Nat :=
  [0x10, 0x11, 0x12, 0x20, 0x30, 0x31, 0x32, 0x33, 0x34, 0x35, 0x40, 0x41, 0x42, 0x50, 0x60, 0x61, 0x70, 0x71, 0x72]

/-- LOAD SETTINGS carries an area, an offset and 1..16 data bytes (R173). -/
def parseLoad : List Byte → Option HostCommand
  | area :: hi :: lo :: data =>
    if 1 ≤ data.length ∧ data.length ≤ 16 then some (.loadSettings area (hi ++ lo) data) else none
  | _ => none

/-- The thirteen bytes of a watch (11.6). -/
def parseWatch : List Byte → Option HostCommand
  | [station, kind, substate, mode, a1, a2, t1, t0, effect, d1, d0, u, v] =>
    some (.bookWatch
      { station := station, kind := kind, substate := substate, mode := mode, action1 := a1, action2 := a2,
        blockTag := t1 ++ t0, effect := effect, duration := d1 ++ d0, tagA := u, tagB := v })
  | _ => none

/-- A payload of no byte. -/
def parse0 (c : HostCommand) (l : List Byte) : Option HostCommand := if l = [] then some c else none

/-- A payload of one byte. -/
def parse1 (f : Byte → HostCommand) : List Byte → Option HostCommand
  | [a] => some (f a)
  | _ => none

/-- A payload of two bytes. -/
def parse2 (f : Byte → Byte → HostCommand) : List Byte → Option HostCommand
  | [a, b] => some (f a b)
  | _ => none

/-- A payload of three bytes. -/
def parse3 (f : Byte → Byte → Byte → HostCommand) : List Byte → Option HostCommand
  | [a, b, c] => some (f a b c)
  | _ => none

/-- A payload of four bytes. -/
def parse4 (f : Byte → Byte → Byte → Byte → HostCommand) : List Byte → Option HostCommand
  | [a, b, c, d] => some (f a b c d)
  | _ => none

/-- The command of a code and payload; none where the length is not that of the command (11.4). -/
def parseCommand (code : Nat) (l : List Byte) : Option HostCommand :=
  if code = 0x10 then parseLoad l
  else if code = 0x11 then parse0 .start l
  else if code = 0x12 then parse0 .softReset l
  else if code = 0x20 then parse1 .selectProfile l
  else if code = 0x30 then parse4 (fun a b c d => .tag (a ++ b) (c ++ d)) l
  else if code = 0x31 then parse2 (fun a b => .untag (a ++ b)) l
  else if code = 0x32 then parse4 (fun source origin a b => .unblock source origin (a ++ b)) l
  else if code = 0x33 then parse0 .clearOverflow l
  else if code = 0x34 then parseWatch l
  else if code = 0x35 then parse3 .unbookWatch l
  else if code = 0x40 then parse0 .manualOpen l
  else if code = 0x41 then parse0 .manualClose l
  else if code = 0x42 then parse0 .resetFail l
  else if code = 0x50 then parse0 .startHunt l
  else if code = 0x60 then parse0 .snapshotRequest l
  else if code = 0x61 then parse0 .snapshotRead l
  else if code = 0x70 then parse0 .readNotice l
  else if code = 0x71 then parse3 .readTable l
  else if code = 0x72 then parse0 .readStatus l
  else none

/-- What the first three tests of R170 make of a complete command. -/
inductive Judgement where
  | rejected (r : Result)
  | passed (c : HostCommand)
  deriving DecidableEq, Repr

/-- The first three tests of R170, in order: CRC, code, length. -/
def judge (code length : Byte) (payload : List Byte) (crc : Byte) : Judgement :=
  if crc ≠ crc8 0xFF ([code, length] ++ payload) then .rejected .crcError
  else if commandCodes.contains code.toNat then
    match parseCommand code.toNat payload with
    | some c => if payload.length = length.toNat then .passed c else .rejected .refusedRange
    | none => .rejected .refusedRange
  else .rejected .unknownCommand

/-- A command that passed the tests is executed as its own rule gives (R170). -/
def runCommand : HostCommand → State → Reply
  | .loadSettings area off data => cmdLoadSettings area off data
  | .start => cmdStart
  | .softReset => cmdSoftReset
  | .selectProfile p => cmdSelectProfile p
  | .tag n d => cmdTag n d
  | .untag n => cmdUntag n
  | .unblock source origin n => cmdUnblock source origin n
  | .clearOverflow => cmdClearOverflow
  | .bookWatch w => cmdBookWatch w
  | .unbookWatch station kind substate => cmdUnbookWatch station kind substate
  | .manualOpen => cmdManualOpen
  | .manualClose => cmdManualClose
  | .resetFail => cmdResetFail
  | .startHunt => cmdStartHunt
  | .snapshotRequest => cmdSnapshotRequest
  | .snapshotRead => cmdSnapshotRead
  | .readNotice => cmdReadNotice
  | .readTable table first count => cmdReadTable table first count
  | .readStatus => cmdReadStatus

/-- A complete command is judged, executed and answered (R169, R170). -/
def answer (j : Judgement) (s : State) : State :=
  match j with
  | .rejected r => respond (reply r s)
  | .passed c => respond (runCommand c s)

/-! ### Bytes on the port (R169, R171) -/

/-- The receive buffer is replaced. -/
def setBuffer (l : List Byte) (s : State) : State := { s with cport := { s.cport with rxBuf := l } }

/-- The receive buffer after a byte in COMMAND: a length above 24 leads to DISCARD, and the CRC byte completes the
command (R169). -/
def takeBuffer (l : List Byte) (s : State) : State :=
  match l with
  | code :: length :: rest =>
    if 24 < length.toNat then { s with cport := { s.cport with rxBuf := l, trans := .discard } }
    else if rest.length = length.toNat + 1 then
      answer (judge code length (rest.take length.toNat) (rest.getD length.toNat 0)) (setBuffer l s)
    else setBuffer l s
  | _ => setBuffer l s

/-- In RESPONSE the next response byte was driven while this one was clocked in; after the CRC byte PDO carries
0xFF (R171; log 10). -/
def driveNext (s : State) : State :=
  { s with
    cport := { s.cport with pdo := some (s.cport.resp.getD s.cport.respPos 0xFF), respPos := s.cport.respPos + 1 } }

/-- A byte completed on PDI (R169, R171). -/
def takePortByte (b : Byte) (s : State) : State :=
  match s.cport.trans with
  | .command => takeBuffer (s.cport.rxBuf ++ [b]) s
  | .response => driveNext s
  | .discard | .deselected => s

/-- A fall of PSEL (R169). -/
def beginTransaction (s : State) : State :=
  { s with
    cport := { s.cport with trans := .command, rxBuf := [], resp := [], respPos := 0, pdo := some 0xFF } }

/-- A rise of PSEL (R169). -/
def endTransaction (s : State) : State :=
  { s with
    cport := { s.cport with trans := .deselected, rxBuf := [], resp := [], respPos := 0, pdo := none } }

/-! ### The commands -/

/-- A host command of the table: a complete command that passed the first tests of R170 (log 9). -/
def hostCommand (cmd : State → Reply) : State → Host.Outcome State Fault Refusal :=
  awake (fun s => respond (cmd s))

def execLoadSettings (area : Byte) (off : Half) (data : List Byte) : State → Host.Outcome State Fault Refusal :=
  hostCommand (cmdLoadSettings area off data)

def execStart : State → Host.Outcome State Fault Refusal := hostCommand cmdStart

def execSoftReset : State → Host.Outcome State Fault Refusal := hostCommand cmdSoftReset

def execSelectProfile (p : Byte) : State → Host.Outcome State Fault Refusal := hostCommand (cmdSelectProfile p)

def execTag (n d : Half) : State → Host.Outcome State Fault Refusal := hostCommand (cmdTag n d)

def execUntag (n : Half) : State → Host.Outcome State Fault Refusal := hostCommand (cmdUntag n)

def execUnblock (source origin : Byte) (n : Half) : State → Host.Outcome State Fault Refusal :=
  hostCommand (cmdUnblock source origin n)

def execClearOverflow : State → Host.Outcome State Fault Refusal := hostCommand cmdClearOverflow

def execBookWatch (w : WatchOperand) : State → Host.Outcome State Fault Refusal := hostCommand (cmdBookWatch w)

def execUnbookWatch (station kind substate : Byte) : State → Host.Outcome State Fault Refusal :=
  hostCommand (cmdUnbookWatch station kind substate)

def execManualOpen : State → Host.Outcome State Fault Refusal := hostCommand cmdManualOpen

def execManualClose : State → Host.Outcome State Fault Refusal := hostCommand cmdManualClose

def execResetFail : State → Host.Outcome State Fault Refusal := hostCommand cmdResetFail

def execStartHunt : State → Host.Outcome State Fault Refusal := hostCommand cmdStartHunt

def execSnapshotRequest : State → Host.Outcome State Fault Refusal := hostCommand cmdSnapshotRequest

def execSnapshotRead : State → Host.Outcome State Fault Refusal := hostCommand cmdSnapshotRead

def execReadNotice : State → Host.Outcome State Fault Refusal := hostCommand cmdReadNotice

def execReadTable (table first count : Byte) : State → Host.Outcome State Fault Refusal :=
  hostCommand (cmdReadTable table first count)

def execReadStatus : State → Host.Outcome State Fault Refusal := hostCommand cmdReadStatus

/-- R170: a complete command that fails one of the first three tests changes no state but the response; one that
passes them is not rejected. -/
def execCommandRejected (code length : Byte) (payload : List Byte) (crc : Byte) :
    State → Host.Outcome State Fault Refusal :=
  awake (fun s => match judge code length payload crc with
    | .rejected r => answer (.rejected r) s
    | .passed _ => s)

/-- R169. -/
def execTransactionBegin : State → Host.Outcome State Fault Refusal := awake beginTransaction

/-- R169. -/
def execTransactionEnd : State → Host.Outcome State Fault Refusal := awake endTransaction

/-- R169. -/
def execCommandByteTaken (b : Byte) : State → Host.Outcome State Fault Refusal := awake (takePortByte b)

end Sys2Proof.Machine
end

