-- ==== Sys2Proof/Machine/Receive.lean ====
section
/-! DEFINITION. LINK, section 7.2: the receiver, the checks of a frame, and its acceptance. -/

namespace Sys2Proof.Machine

/-! ### The receiver (R118) -/

/-- One byte, with its stop bit, taken in each receive state: the new state, and the frame it completed. -/
def RxState.take (b : Byte) (stopBit : Bool) : RxState → RxState × Option (List Byte)
  | .hunt => (if stopBit && (b == 0x7E) then .sync1 else .hunt, none)
  | .sync1 => (if stopBit && (b == 0x7E) then .sync2 else .hunt, none)
  | .sync2 =>
    (if !stopBit then .hunt
     else if b = 0x7E then .sync2
     else if 6 ≤ b.toNat ∧ b.toNat ≤ 16 then .body b.toNat [b]
     else .hunt, none)
  | .body n l =>
    if !stopBit then (.hunt, none)
    else if n ≤ l.length + 1 then (.hunt, some (l ++ [b]))
    else (.body n (l ++ [b]), none)

/-- The receiver takes a byte; a frame it completes goes to the checks (R118). -/
def takeRxByte (b : Byte) (stopBit : Bool) (s : State) : State :=
  let r := s.link.rx.take b stopBit
  let t := { s with link := { s.link with rx := r.1 } }
  match r.2 with
  | some l => handOver (.linkFrameReceived l) t
  | none => t

/-- R118: while KEY is high the receiver ignores RXD. -/
def execRxdByteCompleted (b : Byte) (stopBit : Bool) : State → Host.Outcome State Fault Refusal :=
  awake (fun s => if s.link.key then s else takeRxByte b stopBit s)

/-- A frame in reception is abandoned; in HUNT there is none (R118). -/
def abandonReception (s : State) : State := { s with link := { s.link with rx := .hunt } }

/-- R118. -/
def execReceiveGapTimeout : State → Host.Outcome State Fault Refusal := awake abandonReception

/-! ### Acceptance (R121 to R123) -/

/-- R121: the sign-of-life values that lie strictly between two. -/
def solGap (last new : Nat) : Nat := (new + 62 - last) % 63

/-- R121: the frame is a duplicate of the last one accepted from its source. -/
def isDuplicate (f : RawFrame) (s : State) : Bool :=
  !f.freshStart && ((findNeighbour f.source s.link.table).bind (·.lastSol) == some f.sol.toNat)

/-- R121: the missed count after an accepted frame. -/
def missedAfter (fresh : Bool) (sol : Nat) (e : Neighbour) : Nat :=
  match e.lastSol with
  | some last => if fresh then e.missed else min (e.missed + solGap last sol) 255
  | none => e.missed

/-- What the kinds write into the entry (R122). -/
def Neighbour.note (body : FrameBody) (e : Neighbour) : Neighbour :=
  match body with
  | .beacon b =>
    { e with
      ownDemand := b.ownDemand, effective := b.effective, st := some b.st, pos := b.pos, measFresh := b.measFresh,
      phase := b.phase, interval := b.interval }
  | .owned (.state x) => { e with st := some x.st, pos := x.pos }
  | .owned (.trip t) => { e with tripFail := some (t.fail10 * 10) }
  | .owned _ => e

/-- The entry after an accepted frame (R122), with the supervision instants of R126. -/
def Neighbour.hear (now : Ms) (fresh : Bool) (sol : Nat) (body : FrameBody) (e : Neighbour) : Neighbour :=
  let noted := e.note body
  { noted with
    status := .fresh, lastHeard := some now, lastSol := some sol, missed := missedAfter fresh sol e,
    quietAt := some (after now ((2 * noted.interval + 1) * 1000)),
    lostAt := some (after now ((4 * noted.interval + 1) * 1000)) }

/-- The events of R123 at TRIPCO and HUNT, by kind; a BEACON goes to no block. -/
def frameEvent (source : Byte) : FrameBody → Option Instr
  | .owned (.restrain r) => some (.restrainReceived source r)
  | .owned .release => some (.releaseReceived source)
  | .owned (.trip t) => some (.tripFrameReceived source t)
  | .owned (.breakerFail op) => some (.breakerFailReceived source op)
  | .owned (.state x) => some (.stateFrameReceived source x)
  | .owned (.huntCall n) => some (.huntCallReceived source n)
  | .owned (.huntReport r) => some (.huntReportReceived source r)
  | .owned (.huntVerdict round) => some (.huntVerdictReceived source round)
  | .beacon _ => none

/-- In RUN an accepted frame goes to TRIPCO or HUNT, and then to the watch matcher (R123). -/
def dispatchFrame (source : Byte) (body : FrameBody) (s : State) : State :=
  if s.isRun then
    handOver (.watchFrameMatch source body)
      (match frameEvent source body with
       | some e => handOver e s
       | none => s)
  else s

/-- A source with no entry is given one (R122, R124). -/
def ensureNeighbour (a : Byte) (s : State) : State :=
  if (findNeighbour a s.link.table).isSome then s
  else { s with
    link := { s.link with
      table := addNeighbour s.now (Neighbour.create a .other false .fresh s.beaconInterval) s.link.table } }

/-- A frame that passed all checks (R122, R123; log 33). -/
def acceptFrame (f : RawFrame) (body : FrameBody) (s : State) : State :=
  let t := ensureNeighbour f.source s
  match findNeighbour f.source t.link.table with
  | some e =>
    dispatchFrame f.source body
      (changeStatus e.status (e.hear s.now f.freshStart f.sol.toNat body) t)
  | none => t

/-! ### The checks (R119, R120) -/

/-- R120: an echo of the last frame sent, or an address clash. -/
def takeOwnAddress (f : RawFrame) (s : State) : State :=
  if s.link.lastSent = some f.sol.toNat then s
  else queueOwn .addressClash (half f.kindCode) (half f.sol.toNat) s

/-- Checks 4 to 6 (R119). -/
def takeForeign (f : RawFrame) (s : State) : State :=
  match f.body with
  | some body =>
    if 1 ≤ f.sol.toNat ∧ f.sol.toNat ≤ 63 ∧ isDuplicate f s = false then acceptFrame f body s else s
  | none => s

/-- Checks 2 and 3 (R119). -/
def checkFrame (f : RawFrame) (s : State) : State :=
  if f.crcGood s.image.feederCode && f.source.isAddress then
    if f.source = s.address then takeOwnAddress f s else takeForeign f s
  else s

/-- A collected frame meets the checks (R119). -/
def receiveFrame (bytes : List Byte) (s : State) : State :=
  match splitFrame bytes with
  | some f => checkFrame f s
  | none => s

/-- R119. -/
def execLinkFrameReceived (bytes : List Byte) : State → Host.Outcome State Fault Refusal :=
  awake (fun s => receiveFrame bytes (takeHandOver (.linkFrameReceived bytes) s))

end Sys2Proof.Machine
end

