-- ==== Sys2Proof/Machine/Dispatch.lean ====
section
/-! DEFINITION. One arm per command: the meaning of each row of the opcode table. -/

namespace Sys2Proof.Machine

/-- The effect of a command on everything but the queue of commands. -/
def exec (i : Instr) (s : State) : Host.Outcome State Fault Refusal :=
  match i with
  | .sampleFrame bytes extraBits => Sys2Proof.Machine.execSampleFrame bytes extraBits s
  | .frameSilenceExpiry => Sys2Proof.Machine.execFrameSilenceExpiry s
  | .staticSample levels => Sys2Proof.Machine.execStaticSample levels s
  | .sensePeriodStart => Sys2Proof.Machine.execSensePeriodStart s
  | .cyclicSample levels => Sys2Proof.Machine.execCyclicSample levels s
  | .discrepancyTimeout => Sys2Proof.Machine.execDiscrepancyTimeout s
  | .tripRequest cause => Sys2Proof.Machine.execTripRequest cause s
  | .tripFailExpiry => Sys2Proof.Machine.execTripFailExpiry s
  | .deadTimeExpiry => Sys2Proof.Machine.execDeadTimeExpiry s
  | .holdMaxExpiry => Sys2Proof.Machine.execHoldMaxExpiry s
  | .closeFailExpiry => Sys2Proof.Machine.execCloseFailExpiry s
  | .reclaimExpiry => Sys2Proof.Machine.execReclaimExpiry s
  | .loadSettings area offset data => Sys2Proof.Machine.execLoadSettings area offset data s
  | .start => Sys2Proof.Machine.execStart s
  | .softReset => Sys2Proof.Machine.execSoftReset s
  | .selectProfile profile => Sys2Proof.Machine.execSelectProfile profile s
  | .tag number duration => Sys2Proof.Machine.execTag number duration s
  | .untag number => Sys2Proof.Machine.execUntag number s
  | .unblock source origin number => Sys2Proof.Machine.execUnblock source origin number s
  | .clearOverflow => Sys2Proof.Machine.execClearOverflow s
  | .bookWatch w => Sys2Proof.Machine.execBookWatch w s
  | .unbookWatch station kind substate => Sys2Proof.Machine.execUnbookWatch station kind substate s
  | .manualOpen => Sys2Proof.Machine.execManualOpen s
  | .manualClose => Sys2Proof.Machine.execManualClose s
  | .resetFail => Sys2Proof.Machine.execResetFail s
  | .startHunt => Sys2Proof.Machine.execStartHunt s
  | .snapshotRequest => Sys2Proof.Machine.execSnapshotRequest s
  | .snapshotRead => Sys2Proof.Machine.execSnapshotRead s
  | .readNotice => Sys2Proof.Machine.execReadNotice s
  | .readTable table first count => Sys2Proof.Machine.execReadTable table first count s
  | .readStatus => Sys2Proof.Machine.execReadStatus s
  | .commandRejected code length payload crc => Sys2Proof.Machine.execCommandRejected code length payload crc s
  | .transactionBegin => Sys2Proof.Machine.execTransactionBegin s
  | .transactionEnd => Sys2Proof.Machine.execTransactionEnd s
  | .powerOnReset cause => Sys2Proof.Machine.execPowerOnReset cause s
  | .blockRecordExpiry key => Sys2Proof.Machine.execBlockRecordExpiry key s
  | .watchFrameMatch source body => Sys2Proof.Machine.execWatchFrameMatch source body s
  | .relaxTimerExpiry => Sys2Proof.Machine.execRelaxTimerExpiry s
  | .linkFrameReceived bytes => Sys2Proof.Machine.execLinkFrameReceived bytes s
  | .receiveGapTimeout => Sys2Proof.Machine.execReceiveGapTimeout s
  | .neighbourQuietExpiry address => Sys2Proof.Machine.execNeighbourQuietExpiry address s
  | .neighbourLostExpiry address => Sys2Proof.Machine.execNeighbourLostExpiry address s
  | .framePlacement p => Sys2Proof.Machine.execFramePlacement p s
  | .carrierDetectChange busy => Sys2Proof.Machine.execCarrierDetectChange busy s
  | .deferQuietExpiry => Sys2Proof.Machine.execDeferQuietExpiry s
  | .backoffExpiry => Sys2Proof.Machine.execBackoffExpiry s
  | .keyupExpiry => Sys2Proof.Machine.execKeyupExpiry s
  | .sendComplete => Sys2Proof.Machine.execSendComplete s
  | .keydownExpiry => Sys2Proof.Machine.execKeydownExpiry s
  | .beaconTimerExpiry => Sys2Proof.Machine.execBeaconTimerExpiry s
  | .restrainReceived source r => Sys2Proof.Machine.execRestrainReceived source r s
  | .releaseReceived source => Sys2Proof.Machine.execReleaseReceived source s
  | .stateFrameReceived source x => Sys2Proof.Machine.execStateFrameReceived source x s
  | .tripFrameReceived source t => Sys2Proof.Machine.execTripFrameReceived source t s
  | .breakerFailReceived source op => Sys2Proof.Machine.execBreakerFailReceived source op s
  | .restraintExpiry address => Sys2Proof.Machine.execRestraintExpiry address s
  | .refreshTimerExpiry => Sys2Proof.Machine.execRefreshTimerExpiry s
  | .huntCallReceived source seqNo => Sys2Proof.Machine.execHuntCallReceived source seqNo s
  | .huntReportReceived source r => Sys2Proof.Machine.execHuntReportReceived source r s
  | .huntVerdictReceived source round => Sys2Proof.Machine.execHuntVerdictReceived source round s
  | .roundDeadlineExpiry => Sys2Proof.Machine.execRoundDeadlineExpiry s
  | .cooldownExpiry => Sys2Proof.Machine.execCooldownExpiry s
  | .rxdByteCompleted byte stopBit => Sys2Proof.Machine.execRxdByteCompleted byte stopBit s
  | .commandByteTaken byte => Sys2Proof.Machine.execCommandByteTaken byte s
  | .resetnRelease => Sys2Proof.Machine.execResetnRelease s

end Sys2Proof.Machine
end

