-- ==== Sys2Proof/Machine/Timers.lean ====
section
/-! DEFINITION. What the part does when no command waits: the oldest hand-over, else the first expiry that is due,
else a millisecond passes (log 1, 2). -/

namespace Sys2Proof.Machine

/-- An event that occurs when its timer is due. -/
def whenDue (s : State) (timer : Option Ms) (e : Instr) : Option Instr := if due s.now timer then some e else none

/-- The expiry of the state timer belongs to the state that set it (R56). -/
def seqExpiryEvent (s : State) : Option Instr :=
  match s.sequencer.st with
  | .tripping => whenDue s s.sequencer.timer .tripFailExpiry
  | .deadTime => whenDue s s.sequencer.timer .deadTimeExpiry
  | .deadHold => whenDue s s.sequencer.timer .holdMaxExpiry
  | .closing => whenDue s s.sequencer.timer .closeFailExpiry
  | .reclaim => whenDue s s.sequencer.timer .reclaimExpiry
  | .dormant | .closedRest | .lockout | .opened | .failed => none

/-- The end of a timed transmitter state; the end of a send comes with the last stop bit, not with the count
(R128 to R131). -/
def txExpiryEvent (s : State) : Option Instr :=
  match s.link.tx with
  | .defer => whenDue s s.link.txTimer .deferQuietExpiry
  | .backoff => whenDue s s.link.txTimer .backoffExpiry
  | .keyup => whenDue s s.link.txTimer .keyupExpiry
  | .keydown => whenDue s s.link.txTimer .keydownExpiry
  | .idle | .sending => none

/-- The first block record whose expiry is due (R82). -/
def blockExpiryEvent (s : State) : Option Instr :=
  (s.blk.table.find? (fun r => due s.now r.expiry)).map (fun r => .blockRecordExpiry r.key)

/-- The first FRESH entry whose quiet instant, or QUIET entry whose lost instant, is due (R126). -/
def neighbourExpiryEvent (s : State) : Option Instr :=
  s.link.table.findSome? (fun e => match e.status with
    | .fresh => whenDue s e.quietAt (.neighbourQuietExpiry e.address)
    | .quiet => whenDue s e.lostAt (.neighbourLostExpiry e.address)
    | .lost => none)

/-- The first held restraint record whose expiry is due (R142). -/
def restraintExpiryEvent (s : State) : Option Instr :=
  (s.tripco.records.find? (fun r => r.held && due s.now r.expiry)).map (fun r => .restraintExpiry r.address)

/-- The expiries that are due, in the model's order (log 2). -/
def dueEvent (s : State) : Option Instr :=
  [whenDue s s.meas.silenceAt .frameSilenceExpiry, whenDue s s.fin.nextPeriodAt .sensePeriodStart,
   whenDue s (some s.fin.sense.staticAt) (.staticSample s.fin.sense.pins),
   whenDue s s.fin.sense.pulseEndAt (.cyclicSample s.fin.sense.pins), whenDue s s.fin.discAt .discrepancyTimeout,
   seqExpiryEvent s, blockExpiryEvent s, whenDue s s.prof.relaxAt .relaxTimerExpiry, neighbourExpiryEvent s, txExpiryEvent s,
   whenDue s s.link.beaconAt .beaconTimerExpiry, restraintExpiryEvent s,
   whenDue s s.tripco.refreshAt .refreshTimerExpiry, whenDue s s.hunt.deadlineAt .roundDeadlineExpiry,
   whenDue s s.hunt.cooldownAt .cooldownExpiry].findSome? id

/-- The event the part takes by itself: none while RESETn is held low (log 19). -/
def ownEvent (s : State) : Option Instr :=
  if s.resetHeld then none
  else match s.handovers with
    | e :: _ => some e
    | [] => dueEvent s

/-- A millisecond passes on the free-running count (00_scope.md, Time); a held reset holds the count too. -/
def tick (s : State) : State := if s.resetHeld then s else { s with now := s.now + 1 }

end Sys2Proof.Machine
end

