-- ==== Sys2Proof/Machine/Step.lean ====
section
/-! DEFINITION. One step of the part: the command at the front of the queue, else an event of its own, else a
millisecond. -/

namespace Sys2Proof.Machine

/-- The queue of commands replaced. -/
def State.withPending (l : List Instr) (s : State) : State := { s with pending := l }

/-- One step (log 2). -/
def step (s : State) : Host.Outcome State Fault Refusal :=
  match s.pending with
  | c :: rest => exec c (s.withPending rest)
  | [] =>
    match ownEvent s with
    | some e => exec e s
    | none => .next (tick s)

/-- The command a word spells, if it spells one, put at the front of the queue. -/
def State.withFetchWord (s : State) (nbits w : Nat) : State :=
  match decodeTableWord nbits w with
  | some c => { s with pending := c :: s.pending }
  | none => s

end Sys2Proof.Machine
end

