-- ==== Sys2Proof/Safety.lean ====
section
/-! DEFINITION. What stays true of the part at every step: one invariant for each block, from the spec's own
"at all times", "never", "exactly while" and "at most". -/

namespace Sys2Proof.Safety

open Sys2Proof Sys2Proof.Machine

/-- A property that every step keeps. -/
def Kept (inv : State → Prop) : Prop := ∀ s t : State, inv s → step s = .next t → inv t

/-- The states of SEQ that are timed (R56). -/
def timedState : SeqState → Bool
  | .tripping | .deadTime | .deadHold | .closing | .reclaim => true
  | .dormant | .closedRest | .lockout | .opened | .failed => false

/-- SEQ: the lines follow the state (R55), the timer runs exactly in the timed states (R56), DORMANT is CONFIG
(R57), and between shots the count lies between 1 and the shot limit (R66). -/
structure SequencerInv (s : State) : Prop where
  tripLine : s.sequencer.tripLine = true ↔ s.sequencer.st = .tripping
  closeLine : s.sequencer.closeLine = true ↔ s.sequencer.st = .closing
  timer : s.sequencer.timer.isSome = timedState s.sequencer.st
  dormant : s.isRun = false ↔ s.sequencer.st = .dormant
  shot : s.sequencer.shot ≤ 4
  trip : s.sequencer.st = .tripping → s.sequencer.noReclose = false → 1 ≤ s.sequencer.shot
  between : s.sequencer.st = .deadTime ∨ s.sequencer.st = .deadHold →
    1 ≤ s.sequencer.shot ∧ s.sequencer.shot ≤ s.shotLimit

/-- BLK: at most 16 records, no two with one key (R79). -/
structure BlockInv (s : State) : Prop where
  room : s.blk.table.length ≤ 16
  keys : (s.blk.table.map (·.key)).Nodup

/-- BLK: at most 12 booked watches, no two with one station, kind and substate (R89). -/
structure WatchInv (s : State) : Prop where
  room : s.blk.watches.length ≤ 12
  keys : (s.blk.watches.map (fun w => (w.station, w.kind, w.substate))).Nodup

/-- The larger of two profiles (R101, R104). -/
abbrev IsLarger (m p q : Profile) : Prop :=
  profileCode p ≤ profileCode m ∧ profileCode q ≤ profileCode m ∧ (m = p ∨ m = q)

/-- The peer demand: with the follow-peers flag 1 the largest own demand announced in an entry that is not LOST, Ordinary
where there is none; else Ordinary (R102). -/
abbrev IsPeerDemand (d : Profile) (s : State) : Prop :=
  (s.image.followPeers = 1 →
    (∀ e ∈ s.link.table, e.status ≠ .lost → profileCode e.ownDemand ≤ profileCode d) ∧
    (d = .ordinary ∨ ∃ e ∈ s.link.table, e.status ≠ .lost ∧ d = e.ownDemand)) ∧
  (s.image.followPeers ≠ 1 → d = .ordinary)

/-- PROF: the demands combine as R101 to R104 give, and the effective profile is never below the target (R105). -/
structure ProfileInv (s : State) : Prop where
  ownDemand : IsLarger s.prof.ownDemand s.prof.port s.prof.field
  copy : s.prof.field = s.fin.fieldDemand
  peer : IsPeerDemand s.prof.peer s
  target : IsLarger s.prof.target s.prof.ownDemand s.prof.peer
  effective : profileCode s.prof.target ≤ profileCode s.prof.effective

/-- A notice is queued whose category the mask enables (R180). -/
abbrev EnabledQueued (mask : Nat) (l : List Notice) : Prop := ∃ n ∈ l, mask.testBit (noticeCategory n.kind) = true

/-- CPORT: at most 64 notices (R179), ATTN exactly with an enabled notice queued (R180). -/
structure NoticeInv (s : State) : Prop where
  room : s.cport.notices.length ≤ 64
  attn : s.cport.attn = true ↔ EnabledQueued s.image.attnMask s.cport.notices

/-- CPORT: in RUN the locked settings are the staging image (R175), whose areas keep their sizes. -/
structure SettingsInv (s : State) : Prop where
  locked : s.cport.locked = if s.isRun then some s.cport.staging else none
  areaS : s.cport.staging.areaS.length = 81
  areaF : s.cport.staging.areaF.length = 44

/-- FIN: HEALTHY exactly in RUN, FRESH and not FAILED (R53). -/
def HealthyInv (s : State) : Prop :=
  s.fin.healthy = true ↔ s.isRun = true ∧ s.meas.status = .fresh ∧ s.sequencer.st ≠ .failed

/-- The transmitter states in which KEY is high (R130, R131). -/
def keyedState : TxState → Bool
  | .keyup | .sending | .keydown => true
  | .idle | .defer | .backoff => false

/-- LINK: the sign-of-life counter lies in 1..63 (R131), KEY is high exactly while the part transmits, and in CONFIG
it does not (R133). -/
structure TransmitInv (s : State) : Prop where
  sol : 1 ≤ s.link.sol ∧ s.link.sol ≤ 63
  key : s.link.key = keyedState s.link.tx
  txd : s.link.txd.isSome = true → s.link.tx = .sending
  quiet : s.isRun = false →
    s.link.tx = .idle ∧ s.link.slots = Slots.empty ∧ s.link.beaconAt = none

/-- LINK: at most 24 neighbour entries, at most one for each station (R124). -/
structure NeighbourInv (s : State) : Prop where
  room : s.link.table.length ≤ 24
  addresses : (s.link.table.map (·.address)).Nodup

/-- HUNT: at most 16 reports, at most one for each station (R152), and the timers of the phases (R152, R163,
R166). -/
structure HuntInv (s : State) : Prop where
  room : s.hunt.table.length ≤ 16
  stations : (s.hunt.table.map (·.station)).Nodup
  arm : s.hunt.arm ≤ 5
  deadline : s.hunt.deadlineAt.isSome = true ↔ s.hunt.phase = .capture ∨ s.hunt.phase = .collect
  cooldown : s.hunt.cooldownAt.isSome = true ↔ s.hunt.phase = .cooldown

/-- The number of samples a partial cycle holds (R3). -/
def assembledCount : Assembly → Nat
  | .waiting => 0
  | .assembling l => l.length

/-- MEAS and ELEM: a partial cycle is shorter than a cycle (R3), the counts saturate (R4, R31), the accumulators
stay within full scale (R29), and a snapshot record is held exactly in VALID (01, section 1.6). -/
structure MeasureInv (s : State) : Prop where
  partialCycle : assembledCount s.meas.assembly ≤ 31
  losses : s.meas.lossCount ≤ 255 ∧ s.meas.staleLoss ≤ 65535
  snapshot : s.meas.snapshot.isSome = true ↔ s.meas.snapState = .valid
  accumulators : s.elem.accPh ≤ 16777216 ∧ s.elem.accEf ≤ 16777216
  run : s.elem.phhRun ≤ 255

end Sys2Proof.Safety
end

