-- ==== Sys2Proof/Certificates/Slice0/Obligations.lean ====
section
/-! DEFINITION. The statements for the provers. Each says what a command, or a rule's arithmetic, does, for every
state and every operand that meets its hypotheses. -/

namespace Sys2Proof.Claims

open Sys2Proof Sys2Proof.Machine

/-! ### The words of the statements -/

/-- The blocks that hold state of their own. -/
inductive Block where
  | meas | elem | fin | sequencer | blk | prof | link | tripco | hunt
  deriving DecidableEq, Repr

/-- The state of one block is the same in both. -/
def sameBlock (s t : State) : Block → Prop
  | .meas => t.meas = s.meas
  | .elem => t.elem = s.elem
  | .fin => t.fin = s.fin
  | .sequencer => t.sequencer = s.sequencer
  | .blk => t.blk = s.blk
  | .prof => t.prof = s.prof
  | .link => t.link = s.link
  | .tripco => t.tripco = s.tripco
  | .hunt => t.hunt = s.hunt

/-- The settings, the part-wide state, the reset and the commands waiting are the same. -/
def sameSettings (s t : State) : Prop :=
  t.cport.part = s.cport.part ∧ t.cport.staging = s.cport.staging ∧ t.cport.locked = s.cport.locked ∧
    t.resetHeld = s.resetHeld ∧ t.pending = s.pending

/-- The transaction on the command port is the same. -/
def sameTransaction (s t : State) : Prop :=
  t.cport.trans = s.cport.trans ∧ t.cport.rxBuf = s.cport.rxBuf ∧ t.cport.resp = s.cport.resp ∧
    t.cport.respPos = s.cport.respPos ∧ t.cport.pdo = s.cport.pdo

/-- The blocks named, the settings and the count are the same: the frame of a host command. -/
def Frame (bs : List Block) (s t : State) : Prop :=
  (∀ b ∈ bs, sameBlock s t b) ∧ sameSettings s t ∧ t.now = s.now

/-- The frame of an event that is no host command: the transaction is the same too. -/
def EventFrame (bs : List Block) (s t : State) : Prop := Frame bs s t ∧ sameTransaction s t

/-- A notice with user tag bytes 0, stamped with the count of `s`. -/
def note (k : NoticeKind) (station : Byte) (d1 d2 : Half) (s : State) : Notice :=
  { kind := k, time := s.now, station := station, detail1 := d1, detail2 := d2, tagA := 0, tagB := 0 }

/-- CPORT after the notices `ns` were queued at `s`, one after the other, and nothing else happened to it. -/
def Queued (ns : List Notice) (s t : State) : Prop :=
  t.cport = ns.foldl (fun c n => c.queue s.image.attnMask n) s.cport

/-- The notice queue, its overflow flag and ATTN are what the notices `ns`, queued at `s` one after the other, make of
them. -/
def Noticed (ns : List Notice) (s t : State) : Prop :=
  t.cport.notices = (ns.foldl (fun c n => c.queue s.image.attnMask n) s.cport).notices ∧
    t.cport.overflow = (ns.foldl (fun c n => c.queue s.image.attnMask n) s.cport).overflow ∧
    t.cport.attn = (ns.foldl (fun c n => c.queue s.image.attnMask n) s.cport).attn

/-- Frames placed with LINK. -/
def placements (fs : List OwnedFrame) : List Instr := fs.map (fun f => .framePlacement (.owned f))

/-- The command was answered: CPORT is in RESPONSE with that result and payload, none of it clocked out yet. The status
byte is that of the part as it now is but for ATTN and the overflow of the notices, bits 6 and 5, which may show the
part before effects at other blocks (R170, R172). -/
def Answered (r : Result) (payload : List Byte) (t : State) : Prop :=
  t.cport.trans = .response ∧ t.cport.respPos = 0 ∧ t.cport.pdo = some 0xFF ∧
    ∃ status : Byte, t.cport.resp = responseBytes status r payload ∧
      ∀ n : Nat, n ≠ 5 → n ≠ 6 → status.getLsbD n = (statusByte t).getLsbD n

/-- The command was answered, with the status byte of the part as it now is (R172). -/
def AnsweredNow (r : Result) (payload : List Byte) (t : State) : Prop :=
  t.cport.trans = .response ∧ t.cport.respPos = 0 ∧ t.cport.pdo = some 0xFF ∧
    t.cport.resp = responseBytes (statusByte t) r payload

/-- The command whose own effects end at `early`, and whose effects at other blocks end at `w`, is answered: the status
byte is the one of `w`, and where the two differ it may be the one of `early` (R170, R172). -/
def AnsweredAs (r : Result) (payload : List Byte) (early w t : State) : Prop :=
  (statusByte early = statusByte w → t = enterResponse (statusByte w) r payload w) ∧
  (statusByte early ≠ statusByte w → ∃ status : Byte, (status = statusByte early ∨ status = statusByte w) ∧
    t = enterResponse status r payload { w with freeCount := w.freeCount + 1 })

/-- A command that does nothing but answer: the whole of its effect, with the status byte of the part as it is. -/
def OnlyAnswers (c : Instr) (r : Result) (payload : List Byte) (s : State) : Prop :=
  exec c s = .next (enterResponse (statusByte s) r payload s)

/-- SEQ in a state, with the lines and the timer that belong to it (R55, R56). -/
def SeqIs (st : SeqState) (timer : Option Ms) (t : State) : Prop :=
  t.sequencer.st = st ∧ t.sequencer.timer = timer ∧
    t.sequencer.tripLine = decide (st = .tripping) ∧ t.sequencer.closeLine = decide (st = .closing)

/-- SEQ's counts, flags and last cause are the same. -/
def sameCounts (s t : State) : Prop :=
  t.sequencer.shot = s.sequencer.shot ∧ t.sequencer.manualClose = s.sequencer.manualClose ∧
    t.sequencer.noReclose = s.sequencer.noReclose ∧ t.sequencer.lastCause = s.sequencer.lastCause

/-- The STATE frame of a state of SEQ. -/
def stateFrame (st : SeqState) (shot : Nat) (s : State) : OwnedFrame :=
  .state { st := st, pos := s.fin.position, shot := shot }

/-- The SEQ_STATE notice of a transition. -/
def stateNote (st : SeqState) (r : Reason) (s : State) : Notice :=
  note .seqState s.address (half (seqStateCode st)) (half (reasonCode r)) s

/-- TRIPCO has no episode in progress and none to begin. -/
def noEpisode (s : State) : Prop := s.tripco.restraining = false ∧ s.elem.summary = false

/-- PROF has no relax waiting for rest. -/
def noRelaxDue (s : State) : Prop := s.prof.relax ≠ .due

/-- What FIN senses is the same: levels, position, discrepancy, demand and sense periods. -/
def sameContacts (s t : State) : Prop :=
  (∀ n : Nat, t.input n = s.input n) ∧ t.fin.position = s.fin.position ∧ t.fin.discrepancy = s.fin.discrepancy ∧
    t.fin.discAt = s.fin.discAt ∧ t.fin.fieldDemand = s.fin.fieldDemand ∧
    t.fin.nextPeriodAt = s.fin.nextPeriodAt ∧ t.fin.sense = s.fin.sense

/-- At rest (R107). -/
def Rests (s : State) : Prop :=
  (s.sequencer.st = .closedRest ∨ s.sequencer.st = .lockout ∨ s.sequencer.st = .opened ∨
    s.sequencer.st = .failed) ∧ s.elem.activity = false ∧ s.hunt.phase = .idle

/-- The flags of a PROFILE_CHANGED notice: which of port, field and peer demand equal the effective profile
(R111). -/
def changeFlags (port field peer effective : Profile) : Nat :=
  (if port = effective then 1 else 0) + (if field = effective then 2 else 0) + (if peer = effective then 4 else 0)

/-- The PROFILE_CHANGED notice: kind RAISED 1, RELAXED 2, FOLLOWED 3 (R111; 11.5). -/
def profileNote (kind : Nat) (before after : Profile) (port field peer : Profile) (s : State) : Notice :=
  note .profileChanged s.address (pair (profileCode before) (profileCode after))
    (pair kind (changeFlags port field peer after)) s

/-- PROF at an event of R107: a relax that waits for rest completes where the station is at rest (R109, R111, R113). -/
def RestTaken (s t : State) : Prop :=
  (¬ (s.prof.relax = .due ∧ Rests s) → t = s) ∧
  (s.prof.relax = .due → Rests s → t = { s with
    prof := { s.prof with effective := s.prof.target, relax := .none, relaxAt := none },
    cport := s.cport.queue s.image.attnMask
      (profileNote 2 s.prof.effective s.prof.target s.prof.port s.prof.field s.prof.peer s),
    handovers := s.handovers ++ [.framePlacement .beaconRequest] })

/-- An input is sensed STATIC: its mode is any code but CYCLIC's, or it is BKR_A or BKR_B while these are forced (R41,
R44). -/
def SensedStatic (s : State) (n : Nat) : Prop := s.image.inputMode n ≠ 1 ∨ (s.fin.forced = true ∧ n < 2)

/-- The wetting output is high: an input is sensed STATIC, or the pulse of a sense period lasts (R41). -/
def WetHigh (s : State) : Prop := (∃ n : Nat, n < 8 ∧ SensedStatic s n) ∨ s.fin.sense.pulseEndAt ≠ none

/-- FIN takes the state `st` of SEQ: BKR_A and BKR_B are forced STATIC in TRIPPING and CLOSING only, one of them whose own
mode is CYCLIC keeps its level and loses the samples of the mode it leaves, and HEALTHY is set anew; the levels, the
position and the rest of what FIN senses stay (R44, R53, R72). -/
def FinFollows (st : SeqState) (s p : State) : Prop :=
  p.fin.forced = decide (st = .tripping ∨ st = .closing) ∧
  p.fin.healthy = decide (s.isRun = true ∧ s.meas.status = .fresh ∧ st ≠ .failed) ∧
  (p.fin.forced = s.fin.forced → p.fin.inputs = s.fin.inputs ∧ p.fin.wet = s.fin.wet) ∧
  (p.fin.forced ≠ s.fin.forced → (p.fin.wet = true ↔ WetHigh p) ∧
    ∀ (n : Nat) (x : InputState), x = s.fin.inputs.getD n InputState.reset →
      p.fin.inputs.getD n InputState.reset =
        if n < 2 ∧ s.image.inputMode n = 1 then { confirmed := x.confirmed, run := 0, prev := none, pend := none }
        else x) ∧
  sameContacts s p

/-- SEQ enters `st`, its counts and flags as they are in `s`: it queues the notices `ns` and places the frames `fs`, FIN
takes the state, and TRIPCO looks whether an episode begins, goes on or ends (R55, R56, R70, R72, R144, R146). -/
def Transition (st : SeqState) (timer : Option Ms) (ns : List Notice) (fs : List OwnedFrame) (s v : State) : Prop :=
  ∃ p : State, SeqIs st timer p ∧ sameCounts s p ∧ Queued ns s p ∧ p.handovers = s.handovers ++ placements fs ∧
    FinFollows st s p ∧ EventFrame [.meas, .elem, .blk, .prof, .link, .tripco, .hunt] s p ∧ v = tripcoReview p

/-- An event takes SEQ to `st`: the transition, and then PROF, whose relax may have waited for it (R109). -/
def MovesTo (st : SeqState) (timer : Option Ms) (ns : List Notice) (fs : List OwnedFrame) (s t : State) : Prop :=
  SeqIs st timer t ∧ sameCounts s t ∧ sameContacts s t ∧ t.blk = s.blk ∧ t.tripco.records = s.tripco.records ∧
    ∃ v : State, Transition st timer ns fs s v ∧ RestTaken v t

/-- A command takes SEQ to `st` and is answered ACCEPTED; what PROF makes of it is an effect at another block (R170). -/
def CommandMoves (st : SeqState) (timer : Option Ms) (ns : List Notice) (fs : List OwnedFrame) (s t : State) : Prop :=
  SeqIs st timer t ∧ sameCounts s t ∧ sameContacts s t ∧ t.blk = s.blk ∧ t.tripco.records = s.tripco.records ∧
    ∃ v w : State, Transition st timer ns fs s v ∧ RestTaken v w ∧ AnsweredAs .accepted [] v w t

/-- A protective trip with this cause ends in lockout (R59 step 3, R60). -/
def finalTrip (c : ProtCause) (s : State) : Prop :=
  4 ≤ s.sequencer.shot ∨ c = .intertrip ∨ s.sequencer.manualClose = true ∨
    ((c = .sef ∨ c = .huntOwner) ∧ s.sefLock = true)

/-- The trip takes the SEF lock (R60, third case). -/
def lockedTrip (c : ProtCause) (s : State) : Prop := (c = .sef ∨ c = .huntOwner) ∧ s.sefLock = true

/-- The block table has a record of effect LOCK, or the overflow flag stands for one (R64, R80). -/
def tableLocks (s : State) : Prop := (∃ r ∈ s.blk.table, r.effect = .lock) ∨ s.blk.overflow = true

/-- A state in which SEQ takes a trip request (R58). -/
def takesRequest (s : State) : Prop :=
  s.sequencer.st = .closedRest ∨ s.sequencer.st = .reclaim ∨ s.sequencer.st = .closing

/-- The TRIP frame of a trip (R71; 11.3). -/
def tripFrame (c : Cause) (shot : Nat) (s : State) : OwnedFrame :=
  .trip { cause := c, shot := shot, fail10 := (s.image.tripFail + 9) / 10 }

/-- The TRIP notice of a trip (R71). -/
def tripNote (c : Cause) (shot : Nat) (s : State) : Notice :=
  note .trip s.address (half (causeCode c)) (half shot) s

/-- SEQ has entered TRIPPING for a trip, and nothing else has happened yet (steps 1 to 5 of R59). -/
def tripEntered (c : Cause) (shot : Nat) (final : Bool) (s : State) : State :=
  { s with
    sequencer := { s.sequencer with
      st := .tripping, timer := some (after s.now s.image.tripFail), tripLine := true, closeLine := false,
      lastCause := c, shot := shot, noReclose := final } }

/-- SEQ and the blocks its transitions reach are the same, and nothing was placed. -/
def sameSequence (s t : State) : Prop :=
  t.sequencer = s.sequencer ∧ t.fin = s.fin ∧ t.prof = s.prof ∧ t.tripco = s.tripco ∧ t.handovers = s.handovers

/-- The table without the record of a key. -/
def without (k : BlockKey) (t : List BlockRecord) : List BlockRecord := t.filter (fun r => decide (r.key ≠ k))

/-- SEQ goes on to CLOSING, and at once to RECLAIM where the breaker is closed already (R61, R64, R65, R67). -/
def Recloses (s t : State) : Prop :=
  (s.fin.position ≠ .closed → MovesTo .closing (some (after s.now s.image.closeFail)) [] [] s t) ∧
  (s.fin.position = .closed → ∃ a : State, Transition .closing (some (after s.now s.image.closeFail)) [] [] s a ∧
    MovesTo .reclaim (some (after s.now s.image.reclaim)) [stateNote .reclaim .closeDone s]
      [stateFrame .reclaim s.sequencer.shot s] a t)

/-- SEQ takes a block table that has changed, in DEAD_HOLD and in no other state: a LOCK leads to LOCKOUT, an empty table
to CLOSING (R65, R80, R83). -/
def ChangeTaken (s t : State) : Prop :=
  (s.sequencer.st ≠ .deadHold → t = s) ∧
  (s.sequencer.st = .deadHold →
    (tableLocks s → MovesTo .lockout none [stateNote .lockout .blockLock s]
      [stateFrame .lockout s.sequencer.shot s] s t) ∧
    (¬ tableLocks s → s.blk.table ≠ [] → t = s) ∧
    (¬ tableLocks s → s.blk.table = [] → Recloses s t))

/-- The placement of a record of that key finds a full table (R80). -/
def noRoom (k : BlockKey) (s : State) : Prop := hasKey k s.blk.table = false ∧ 16 ≤ s.blk.table.length

/-- BLK takes a placement request: the record is refreshed in place, joins the list, or is not stored, which sets the
overflow flag and queues a BLOCK_OVERFLOW notice (R79, R80). -/
def Stored (k : BlockKey) (e : BlockEffect) (expiry : Option Ms) (s u : State) : Prop :=
  (hasKey k s.blk.table = true → u = { s with
    blk := { s.blk with
      table := s.blk.table.map (fun r => if r.key = k then { r with effect := e, expiry := expiry } else r) } }) ∧
  (hasKey k s.blk.table = false → s.blk.table.length < 16 → u = { s with
    blk := { s.blk with
      table := s.blk.table ++ [{ key := k, effect := e, setTime := s.now, expiry := expiry }] } }) ∧
  (noRoom k s → u = { s with
    blk := { s.blk with overflow := true },
    cport := s.cport.queue s.image.attnMask
      (note .blockOverflow s.address (pair (blockSourceCode k.source) k.origin.toNat) k.tag s) })

/-- SEQ takes what a placement request changed, as `u` shows; with no room and the overflow flag already set, that is
nothing (R80, R83). -/
def StoreTaken (k : BlockKey) (s u t : State) : Prop :=
  (noRoom k s → s.blk.overflow = true → t = u) ∧ (¬ noRoom k s ∨ s.blk.overflow = false → ChangeTaken u t)

/-- BLK takes a placement request, and SEQ the change (R79, R80, R83). -/
def PutsRecord (k : BlockKey) (e : BlockEffect) (expiry : Option Ms) (s t : State) : Prop :=
  ∃ u : State, Stored k e expiry s u ∧ StoreTaken k s u t

/-- BLK takes a removal request for one key: with no such record nothing happens, else the record is gone and SEQ takes
the change (R81, R83). -/
def DropsRecord (k : BlockKey) (s t : State) : Prop :=
  (hasKey k s.blk.table = false → t = s) ∧
  (hasKey k s.blk.table = true → ChangeTaken { s with blk := { s.blk with table := without k s.blk.table } } t)

/-- A removal by command: the record is gone, SEQ takes the change, and the command is answered ACCEPTED (R81, R83,
R170). -/
def Removes (c : Instr) (k : BlockKey) (s : State) : Prop :=
  ∃ t u w : State, exec c s = .next t ∧ u = { s with blk := { s.blk with table := without k s.blk.table } } ∧
    ChangeTaken u w ∧ AnsweredAs .accepted [] u w t

/-- A protective trip begins: SEQ has entered TRIPPING, and a SEF trip that SEF_LOCK locks has its record (steps 1 to 5
of R59, R60). -/
def TripBegins (c : ProtCause) (shot : Nat) (s p : State) : Prop :=
  ∃ final : Bool, (final = true ↔ finalTrip c s) ∧
    (lockedTrip c s → PutsRecord { source := .sef, origin := s.address, tag := 3 } .lock none
      (tripEntered (protCause c) shot final s) p) ∧
    (¬ lockedTrip c s → p = tripEntered (protCause c) shot final s)

/-- One step for each element of a list, in order, each from the state that the one before left. -/
def Chain {α : Type} (step : α → State → State → Prop) : List α → State → State → Prop
  | [], s, t => t = s
  | a :: l, s, t => ∃ u : State, step a s u ∧ Chain step l u t

/-- MEAS goes from FRESH to STALE: the notice with the cause and the loss count, HEALTHY low, the SELF record in RUN, a
pending snapshot failed (R12, R14, R16, R53). -/
def BecomesStale (cause : Nat) (s t : State) : Prop :=
  (s.meas.status = .stale → t = s) ∧
  (s.meas.status = .fresh → ∃ u v : State,
    u = { s with
      meas := { s.meas with status := .stale, staleSince := s.now, staleLoss := 0 },
      fin := { s.fin with healthy := false },
      cport := s.cport.queue s.image.attnMask
        (note .stale s.address (half cause) (half s.meas.lossCount) s) } ∧
    (s.isRun = true → PutsRecord { source := .self, origin := s.address, tag := 1 } .lock none u v) ∧
    (s.isRun = false → v = u) ∧
    t = { v with
      meas := { v.meas with snapState := if v.meas.snapState = .pending then .fail else v.meas.snapState } })

/-- MEAS goes from STALE to FRESH: the notice with the stale-loss count and the time it lasted, HEALTHY set anew, the
SELF record removed in RUN (R13, R14, R53). -/
def BecomesFresh (s t : State) : Prop :=
  (s.meas.status = .fresh → t = s) ∧
  (s.meas.status = .stale → ∃ u : State,
    u = { s with
      meas := { s.meas with status := .fresh },
      fin := { s.fin with healthy := decide (s.isRun = true ∧ s.sequencer.st ≠ .failed) },
      cport := s.cport.queue s.image.attnMask
        (note .fresh s.address (half s.meas.staleLoss) (half (min (s.now - s.meas.staleSince).toNat 65535)) s) } ∧
    (s.isRun = true → DropsRecord { source := .self, origin := s.address, tag := 1 } u t) ∧
    (s.isRun = false → t = u))

/-- A partial cycle is lost: the counts rise, HUNT is told, a pending snapshot fails (R4, R16). -/
def LosesCycle (s t : State) : Prop :=
  ∃ u : State,
    u = { s with
      meas := { s.meas with
        assembly := .waiting, lossCount := min (s.meas.lossCount + 1) 255,
        staleLoss := if s.meas.status = .stale then min (s.meas.staleLoss + 1) 65535 else s.meas.staleLoss } } ∧
    t = { huntLost u with
      meas := { u.meas with snapState := if u.meas.snapState = .pending then .fail else u.meas.snapState } }

/-- The snapshot record of R17, filled from the last cycle, the blocks, and SEQ as `q` shows it. -/
def snapshotRecord (q : SequencerState) (s : State) : Snapshot where
  ia := s.meas.last.ia
  ib := s.meas.last.ib
  ic := s.meas.last.ic
  ir := s.meas.last.ir
  is := s.meas.last.is
  v0 := s.meas.last.v0
  p0 := s.meas.last.p0
  dir := s.meas.last.dir
  accPh := min (s.elem.accPh / 256) 65535
  accEf := min (s.elem.accEf / 256) 65535
  sefCount := s.elem.sefCount
  effective := s.prof.effective
  st := q.st
  shot := q.shot
  sol := s.link.sol
  time := s.meas.cycleTime

/-- The watch `v` has the fields of a BOOK WATCH payload (11.6). -/
def Books (w : WatchOperand) (v : Watch) : Prop :=
  v.station = w.station ∧ kindCode v.kind = w.kind.toNat ∧ v.substate = w.substate ∧
    watchModeCode v.mode = w.mode.toNat ∧ watchActionCode v.action1 = w.action1.toNat ∧
    watchActionCode v.action2 = w.action2.toNat ∧ v.blockTag = w.blockTag ∧ v.effect = w.effect ∧
    v.duration = w.duration ∧ v.tagA = w.tagA ∧ v.tagB = w.tagB

/-- The substate of a BOOK WATCH payload is allowed for its kind: ANY, a state of a STATE frame, a cause of a TRIP
(R89). -/
def substateFits (w : WatchOperand) : Prop :=
  w.substate.toNat = 255 ∨
    (w.kind.toNat = 5 ∧ (w.substate.toNat = 1 ∨ (6 ≤ w.substate.toNat ∧ w.substate.toNat ≤ 9))) ∨
    (w.kind.toNat = 2 ∧ 1 ≤ w.substate.toNat ∧ w.substate.toNat ≤ 7)

/-- The checks of R90 that a payload passes, its kind, mode and actions being some `v`'s. -/
def passesBooking (w : WatchOperand) (s : State) : Prop :=
  w.station.toNat ≤ 62 ∧ w.station ≠ s.address ∧ substateFits w ∧
    (w.action1.toNat = 1 ∨ w.action2.toNat = 1 → w.effect.toNat = 1 ∨ w.effect.toNat = 2)

/-- The same station, kind and substate (R89). -/
def sameWatchKey (v w : Watch) : Prop := v.station = w.station ∧ v.kind = w.kind ∧ v.substate = w.substate

/-- The WATCH_MATCH notice of a match (R96). -/
def matchNote (source : Byte) (body : FrameBody) (w : Watch) (failed : Bool) (s : State) : Notice :=
  { kind := .watchMatch, time := s.now, station := source,
    detail1 := pair (kindCode (bodyKind body)) (bodySubstate body), detail2 := half (if failed then 1 else 0),
    tagA := w.tagA, tagB := w.tagB }

/-- A watch of mode ONCE is gone after it acted; one of mode STANDING stays (R93). -/
def Retired (w : Watch) (s t : State) : Prop :=
  (w.mode = .standing → t.blk.watches = s.blk.watches) ∧
  (w.mode = .once → ∀ v : Watch, v ∈ t.blk.watches ↔ v ∈ s.blk.watches ∧ ¬ sameWatchKey v w)

/-- An action of a matching watch on a frame of `source` (R94, R95): a placement with the watch's tag, effect and
duration, the removal of the WATCH records of its tag one by one, or a trip request, which is handed over or has the
effect of TRIP_REQUEST at once. -/
def ActionDone (source : Byte) (w : Watch) : WatchAction → State → State → Prop
  | .none, s, t => t = s
  | .placeBlock, s, t =>
    (∀ e : BlockEffect, blockEffectCode e = w.effect.toNat →
      PutsRecord { source := .watch, origin := source, tag := w.blockTag } e
        (if w.duration = 0 then none else some (after s.now (w.duration.toNat * 1000))) s t) ∧
    (w.effect.toNat ≠ 1 → w.effect.toNat ≠ 2 → t = s)
  | .removeBlock, s, t =>
    Chain DropsRecord
      ((s.blk.table.filter
        (fun r => decide (r.key.source = .watch) && decide (r.key.tag = w.blockTag))).map (·.key)) s t
  | .intertrip, s, t =>
    t = { s with handovers := s.handovers ++ [.tripRequest .intertrip], freeCount := s.freeCount + 1 } ∨
    ∃ u : State,
      exec (.tripRequest .intertrip) { s with handovers := .tripRequest .intertrip :: s.handovers } = .next u ∧
      t = { u with freeCount := s.freeCount + 1 }

/-- A PLACE_BLOCK finds a new key and a full table (R94). -/
def blockLost (source : Byte) (w : Watch) (a : WatchAction) (s : State) : Prop :=
  a = .placeBlock ∧ hasKey { source := .watch, origin := source, tag := w.blockTag } s.blk.table = false ∧
    16 ≤ s.blk.table.length

/-- A matching watch acts: its two actions in order, the WATCH_MATCH notice, and a watch of mode ONCE is gone (R93,
R96). -/
def WatchActs (source : Byte) (body : FrameBody) (w : Watch) (s t : State) : Prop :=
  ∃ (a b : State) (failed : Bool), ActionDone source w w.action1 s a ∧ ActionDone source w w.action2 a b ∧
    (failed = true ↔ blockLost source w w.action1 s ∨ blockLost source w w.action2 a) ∧
    t = { b with
      cport := b.cport.queue b.image.attnMask (matchNote source body w failed b),
      blk := { b.blk with
        watches := if w.mode = .once then
            b.blk.watches.filter (fun v => !(decide (v.station = w.station) && decide (v.kind = w.kind) &&
              decide (v.substate = w.substate)))
          else b.blk.watches } }

/-- A raise of the effective profile from `before` is handed on: in DEAD_TIME or DEAD_HOLD a shot above the new limit
locks SEQ out, whose notice and PROF's stand in either order; in every other case only PROF's notice is queued (R66, R70,
R111). -/
def RaiseHanded (before : Profile) (s t : State) : Prop :=
  ∀ (changed locked : Notice) (frame : OwnedFrame),
    changed = profileNote 1 before s.prof.effective s.prof.port s.prof.field s.prof.peer s →
    locked = stateNote .lockout .profileRaise s → frame = stateFrame .lockout s.sequencer.shot s →
    (s.sequencer.st = .deadTime ∨ s.sequencer.st = .deadHold →
      s.image.shotLimit s.prof.effective < s.sequencer.shot →
      Transition .lockout none [locked, changed] [frame] s t ∨ Transition .lockout none [changed, locked] [frame] s t) ∧
    ((s.sequencer.st ≠ .deadTime ∧ s.sequencer.st ≠ .deadHold) ∨
        s.sequencer.shot ≤ s.image.shotLimit s.prof.effective →
      t = { s with cport := s.cport.queue s.image.attnMask changed, freeCount := s.freeCount + 1 })

/-- PROF holding new demands, and no more (R101 to R104). -/
def demandsHeld (port field own peer target : Profile) (s : State) : State :=
  { s with prof := { s.prof with port := port, field := field, ownDemand := own, peer := peer, target := target } }

/-- The whole of what PROF makes of new demands: own demand and target, and what a change of target makes of the effective
profile, of the relax, of SEQ, of the notices and of the BEACON, in RUN and in CONFIG (R100 to R106, R110, R111, R113). -/
def DemandsTaken (port field peer : Profile) (s t : State) : Prop :=
  ∀ (own target : Profile) (u : State), Safety.IsLarger own port field → Safety.IsLarger target own peer →
    u = demandsHeld port field own peer target s →
    (s.isRun = true → ∃ v : State,
      (target = s.prof.target → v = u) ∧
      (target ≠ s.prof.target → profileCode s.prof.effective < profileCode target →
        RaiseHanded s.prof.effective
          { u with prof := { u.prof with effective := target, relax := .none, relaxAt := none } } v) ∧
      (target ≠ s.prof.target → target = s.prof.effective →
        v = { u with prof := { u.prof with relax := .none, relaxAt := none } }) ∧
      (target ≠ s.prof.target → profileCode target < profileCode s.prof.effective →
        v = { u with
          prof := { u.prof with
            relax := .timing, relaxAt := some (after s.now (s.image.profileRelax * 1000)) } }) ∧
      (own = s.prof.ownDemand → v.prof.effective = s.prof.effective → t = v) ∧
      (own ≠ s.prof.ownDemand ∨ v.prof.effective ≠ s.prof.effective →
        t = { v with handovers := v.handovers ++ [.framePlacement .beaconRequest] })) ∧
    (s.isRun = false →
      (target = s.prof.target ∨ target = s.prof.effective → t = u) ∧
      (target ≠ s.prof.target → target ≠ s.prof.effective → t = { u with
        prof := { u.prof with effective := target },
        cport := s.cport.queue s.image.attnMask (profileNote 3 s.prof.effective target port field peer s) }))

/-- ELEM takes one step: its new state, the trip request of its one cause, the SEF_ALARM notice (R20, R37, R38); then
its indications go to TRIPCO, PROF and HUNT (R39). -/
def ElementSteps (s t : State) : Prop :=
  ∃ u v : State,
    u = { s with
      elem := nextElem s,
      handovers := s.handovers ++ (elemCause s).toList.map Instr.tripRequest,
      cport := if sefAlarms s = true then
          s.cport.queue s.image.attnMask (note .sefAlarm s.address (half s.meas.last.is) (half (sefCountLimit s)) s)
        else s.cport } ∧
    RestTaken (tripcoReview u) v ∧ t = huntStep v

/-- What the confirmed pair (BKR_A, BKR_B) makes of the position: a consistent pair sets it, a change going to SEQ and
to HUNT as one event; an inconsistent pair begins a discrepancy (R46, R47). -/
def PositionDerived (a b : Option Bool) (s t : State) : Prop :=
  (∀ p : Position,
    (a = some true ∧ b = some false ∧ p = .closed) ∨ (a = some false ∧ b = some true ∧ p = .opened) →
    ∃ u : State, u = { s with fin := { s.fin with position := p, discrepancy := false, discAt := none } } ∧
      (s.fin.position = p → t = u) ∧ (s.fin.position ≠ p → t = huntPosition (seqPosition u))) ∧
  (∀ level : Bool, a = some level → b = some level →
    (s.fin.discrepancy = true → t = s) ∧
    (s.fin.discrepancy = false → t = { s with
      fin := { s.fin with
        discrepancy := true,
        discAt := some (after s.now
          (if s.isRun = true then s.image.discTime else max 20 (min 500 s.image.discTime))) } })) ∧
  (a = none ∨ b = none → t = s)

/-- The field demand that the key contacts encode (R48). -/
def KeyGives (k1 k0 : Option Bool) (d : Profile) : Prop :=
  (k1 = some false → k0 = some false → d = .ordinary) ∧ (k1 = some false → k0 = some true → d = .elevated) ∧
  (k1 = some true → k0 ≠ none → d = .extreme) ∧ (k1 = none ∨ k0 = none → d = .ordinary)

/-- What the confirmed key contacts make of the field demand; a demand that changed goes to PROF (R48, R101). -/
def DemandDerived (k1 k0 : Option Bool) (s t : State) : Prop :=
  ∀ d : Profile, KeyGives k1 k0 d →
    (d = s.fin.fieldDemand → t = s) ∧
    (d ≠ s.fin.fieldDemand → ∃ u : State, u = { s with fin := { s.fin with fieldDemand := d } } ∧
      DemandsTaken s.prof.port d s.prof.peer u t)

/-- The FIELD record of an input (R49, R50). -/
def fieldRecord (n : Nat) (s : State) : BlockKey := { source := .field, origin := s.address, tag := half n }

/-- One of IN2..IN7 is handed on where it was confirmed anew: the INPUT_CHANGE notice, and in RUN the FIELD record of
NONRECLOSE and of GAS_LOW (R45, R49, R50, R52). That the notice is queued before what the record makes BLK, SEQ and PROF
queue is the model's (R179; log 6). -/
def InputHanded (n : Nat) (before now_ : Option Bool) (s t : State) : Prop :=
  (now_ = before → t = s) ∧
  (∀ level : Bool, now_ = some level → now_ ≠ before → ∃ u : State,
    u = { s with
      cport := s.cport.queue s.image.attnMask (note .inputChange s.address (half n)
        (half ((if before = none then 16 else 0) + (if level = true then 1 else 0))) s) } ∧
    (s.isRun = true → n = 2 ∨ n = 5 →
      (level = true → PutsRecord (fieldRecord n s) .lock none u t) ∧
      (level = false → before = none → t = u) ∧
      (level = false → before ≠ none → DropsRecord (fieldRecord n s) u t)) ∧
    (s.isRun = false ∨ (n ≠ 2 ∧ n ≠ 5) → t = u))

/-- The samples of one instant: the inputs sensed STATIC are sampled where `static` holds, those sensed CYCLIC where
`cyclic` does, all of them together; then the position and the demand are derived once, and the inputs are handed on
(R41 to R43, R45). -/
def SamplesTaken (static cyclic : Bool) (levels : Byte) (along : Option (SampleRow × Ms)) (s t : State) : Prop :=
  ∃ (u v w : State) (l : List InputState) (wet : Bool),
    u = { s with
      fin := { s.fin with
        inputs := l, wet := wet,
        sense := { pulseEndAt := if cyclic = true then none else s.fin.sense.pulseEndAt,
                   staticAt := if static = true then after s.now 1 else s.fin.sense.staticAt,
                   pins := levels, along := along } } } ∧
    (wet = true ↔ WetHigh u) ∧
    l.length = 8 ∧
    (∀ n : Nat, n < 8 → ∀ x : InputState, x = s.fin.inputs.getD n InputState.reset →
      (SensedStatic s n → l.getD n InputState.reset =
        if static = true then x.sampleStatic (levels.getLsbD n) else x) ∧
      (¬ SensedStatic s n → l.getD n InputState.reset =
        if cyclic = true then x.sampleCyclic (levels.getLsbD n) else x)) ∧
    (u.input 0 ≠ s.input 0 ∨ u.input 1 ≠ s.input 1 → PositionDerived (u.input 0) (u.input 1) u v) ∧
    (u.input 0 = s.input 0 → u.input 1 = s.input 1 → v = u) ∧
    (u.input 3 ≠ s.input 3 ∨ u.input 4 ≠ s.input 4 → DemandDerived (u.input 4) (u.input 3) v w) ∧
    (u.input 3 = s.input 3 → u.input 4 = s.input 4 → w = v) ∧
    Chain (fun (n : Nat) => InputHanded n (s.input n) (u.input n)) [2, 3, 4, 5, 6, 7] w t ∧
    (∀ n : Nat, n < 8 → t.input n = u.input n)

/-- The frame passes checks 2 and 3 of R119. -/
def goodFrame (f : RawFrame) (s : State) : Prop :=
  f.crcGood s.image.feederCode = true ∧ 1 ≤ f.source.toNat ∧ f.source.toNat ≤ 62

/-- The frame is a duplicate (R121). -/
def duplicates (f : RawFrame) (s : State) : Prop :=
  f.freshStart = false ∧ ∃ e : Neighbour, findNeighbour f.source s.link.table = some e ∧ e.lastSol = some f.sol.toNat

/-- What an accepted frame makes of the entry `e` of its source, with the missed count `missed` (R122, R126). -/
def Heard (f : RawFrame) (body : FrameBody) (missed : Nat) (now : Ms) (e e' : Neighbour) : Prop :=
  e'.address = e.address ∧ e'.relation = e.relation ∧ e'.pinned = e.pinned ∧
  e'.status = .fresh ∧ e'.lastHeard = some now ∧ e'.lastSol = some f.sol.toNat ∧ e'.missed = missed ∧
  e'.quietAt = some (after now ((2 * e'.interval + 1) * 1000)) ∧
  e'.lostAt = some (after now ((4 * e'.interval + 1) * 1000)) ∧
  (∀ b : BeaconInfo, body = .beacon b →
    e'.ownDemand = b.ownDemand ∧ e'.effective = b.effective ∧ e'.st = some b.st ∧ e'.pos = b.pos ∧
      e'.measFresh = b.measFresh ∧ e'.phase = b.phase ∧ e'.interval = b.interval ∧ e'.tripFail = e.tripFail) ∧
  ((∀ b : BeaconInfo, body ≠ .beacon b) →
    e'.ownDemand = e.ownDemand ∧ e'.effective = e.effective ∧ e'.measFresh = e.measFresh ∧ e'.phase = e.phase ∧
      e'.interval = e.interval) ∧
  (∀ x : StateInfo, body = .owned (.state x) → e'.st = some x.st ∧ e'.pos = x.pos) ∧
  (∀ x : TripInfo, body = .owned (.trip x) → e'.tripFail = some (x.fail10 * 10)) ∧
  ((∀ b : BeaconInfo, body ≠ .beacon b) → (∀ x : StateInfo, body ≠ .owned (.state x)) →
    e'.st = e.st ∧ e'.pos = e.pos) ∧
  ((∀ x : TripInfo, body ≠ .owned (.trip x)) → e'.tripFail = e.tripFail)

/-- The events of an accepted frame: in RUN, by kind at TRIPCO or HUNT, then at the watch matcher (R123). -/
def frameEvents (source : Byte) (body : FrameBody) (s : State) : List Instr :=
  if s.isRun then
    (match body with
     | .owned (.restrain r) => [.restrainReceived source r]
     | .owned .release => [.releaseReceived source]
     | .owned (.trip t) => [.tripFrameReceived source t]
     | .owned (.breakerFail op) => [.breakerFailReceived source op]
     | .owned (.state x) => [.stateFrameReceived source x]
     | .owned (.huntCall n) => [.huntCallReceived source n]
     | .owned (.huntReport r) => [.huntReportReceived source r]
     | .owned (.huntVerdict round) => [.huntVerdictReceived source round]
     | .beacon _ => []) ++ [.watchFrameMatch source body]
  else []

/-- All the bytes of a transmission taken by the receiver, and the frames it completed. -/
def receiveAll : List Byte → RxState → RxState × List (List Byte)
  | [], x => (x, [])
  | b :: l, x => ((receiveAll l (x.take b true).1).1, (x.take b true).2.toList ++ (receiveAll l (x.take b true).1).2)

/-- How long an entry has not been heard; one never heard longer than any other (R124). -/
def silence (now : Ms) (e : Neighbour) : Nat :=
  match e.lastHeard with
  | some t => (now - t).toNat
  | none => 4294967296

/-- The transmitter after a slot was filled: an idle one enters DEFER (R128). -/
def wakened (x : LinkState) (now : Ms) : LinkState :=
  if x.tx = .idle then { x with tx := .defer, txTimer := if x.cd then none else some (after now 3) } else x

/-- The frame `p` was taken from its slot and fixed, KEY is high, and the frame is sent after KEYUP_TIME (R130,
R118). -/
def KeyedUp (p : Placement) (rest : Slots) (s t : State) : Prop :=
  t.link.key = true ∧ t.link.rx = .hunt ∧ t.link.slots = rest ∧
  (∃ f : FixedFrame, t.link.sending = some f ∧ f.sol = s.link.sol ∧
    (∀ o : OwnedFrame, p = .owned o → f.body = .owned o) ∧
    (p = .beaconRequest → f.body = .beacon
      { ownDemand := s.prof.ownDemand, effective := s.prof.effective, st := s.sequencer.st, pos := s.fin.position,
        measFresh := decide (s.meas.status = .fresh), phase := s.hunt.phase,
        interval := s.image.beaconInterval }) ∧
    f.bytes = frameBytes s.image.feederCode s.address s.link.freshStart s.link.sol f.body ∧
    (s.image.keyupTime = 0 → t.link.tx = .sending ∧ t.link.txTimer = none ∧ t.link.txd = some f.bytes) ∧
    (s.image.keyupTime ≠ 0 →
      t.link.tx = .keyup ∧ t.link.txTimer = some (after s.now s.image.keyupTime) ∧ t.link.txd = s.link.txd))

/-- What the transmitter keeps while it works on an attempt. -/
def sameStation (s t : State) : Prop :=
  t.link.sol = s.link.sol ∧ t.link.freshStart = s.link.freshStart ∧ t.link.lastSent = s.link.lastSent ∧
    t.link.cd = s.link.cd ∧ t.link.beaconAt = s.link.beaconAt ∧ t.link.table = s.link.table

/-- What LINK keeps of its sends and of the line: sign-of-life, fresh-start flag, last sent, the frame being sent, KEY and
TXD, the level on CD and the receiver. -/
def sameSends (s t : State) : Prop :=
  t.link.sol = s.link.sol ∧ t.link.freshStart = s.link.freshStart ∧ t.link.lastSent = s.link.lastSent ∧
    t.link.sending = s.link.sending ∧ t.link.key = s.link.key ∧ t.link.txd = s.link.txd ∧
    t.link.cd = s.link.cd ∧ t.link.rx = s.link.rx

/-- The frame of an event of LINK that touches no other block. -/
def LinkFrame (s t : State) : Prop :=
  EventFrame [.meas, .elem, .fin, .sequencer, .blk, .prof, .tripco, .hunt] s t ∧ t.cport = s.cport ∧
    t.handovers = s.handovers

/-- The source is a pinned entry of relation DOWN (R137). -/
def downstreamOf (a : Byte) (s : State) : Prop :=
  ∃ e ∈ s.link.table, e.address = a ∧ e.pinned = true ∧ e.relation = .down

/-- A round opened with an empty hunt table and cleared accumulators; the last completed cycle is excluded (R152). -/
def RoundOpened (round : Round) (s t : State) : Prop :=
  t.hunt.round = some round ∧ t.hunt.capture = Capture.zero ∧ t.hunt.heardOwner = none ∧
  t.hunt.verdict = .none ∧ t.hunt.crossed = 0 ∧ t.hunt.ignored = 0 ∧ t.hunt.arm = 0 ∧
  t.hunt.excluded = (if s.meas.cycleSerial = 0 then none else some s.meas.cycleSerial) ∧
  t.hunt.deadlineAt = some (after s.now 600) ∧ t.hunt.cooldownAt = s.hunt.cooldownAt ∧
  (hasKey { source := .hunt, origin := round.caller, tag := half round.seqNo.toNat } t.blk.table = true ∨
    t.blk.overflow = true) ∧
  (s.fin.position ≠ .opened → t.hunt.phase = .capture ∧ t.hunt.table = [] ∧ t.hunt.ownReport = none) ∧
  (s.fin.position = .opened → t.hunt.phase = .collect ∧
    t.hunt.ownReport = some { mag := 0, dir := .undetermined, isOpen := true, incomplete := false } ∧
    t.hunt.table = [{ station := s.address, relation := .own, mag := 0, dir := .undetermined, isOpen := true,
                      incomplete := false, round := round, crossed := false }])

/-- Outside HUNT, the opening of a round is this: BLK takes the HUNT record, as `u` shows, SEQ takes the change, and the
frames are placed (R152, R154). -/
def RoundTaken (round : Round) (fs : List OwnedFrame) (s u t : State) : Prop :=
  ∃ (h : HuntState) (v : State), h.phase = s.hunt.phase ∧
    Stored { source := .hunt, origin := round.caller, tag := half round.seqNo.toNat } .hold none
      { s with hunt := h } u ∧
    StoreTaken { source := .hunt, origin := round.caller, tag := half round.seqNo.toNat } { s with hunt := h } u v ∧
    t = { v with hunt := t.hunt, handovers := v.handovers ++ placements fs }

/-- The HUNT_REPORT of a station that is open, with magnitude 0 (R157, R159). -/
def openReportFrame (round : Round) : OwnedFrame :=
  .huntReport { round := round, mag := 0, dir := .undetermined, isOpen := true, incomplete := false }

/-- What a station that opens a round places beside its call: its report, where the breaker is open (R152 step 9). -/
def openReports (round : Round) (s : State) : List OwnedFrame :=
  if s.fin.position = .opened then [openReportFrame round] else []

/-- A report joins the hunt table: it takes the place of its station's report, else it joins the end of the list, in a full
table after the oldest report of relation OTHER has left (R160). -/
def Inserted (entry : HuntReport) (l l' : List HuntReport) : Prop :=
  ((∃ x ∈ l, x.station = entry.station) → l' = l.map (fun x => if x.station = entry.station then entry else x)) ∧
  ((∀ x ∈ l, x.station ≠ entry.station) → l.length < 16 → l' = l ++ [entry]) ∧
  (∀ (before after_ : List HuntReport) (x : HuntReport), l = before ++ x :: after_ → l.length = 16 →
    (∀ y ∈ l, y.station ≠ entry.station) → x.relation = .other → (∀ y ∈ before, y.relation ≠ .other) →
    l' = before ++ after_ ++ [entry])

/-- A capture of the round ends: the own report is held, placed and joins the table, and COLLECT begins (R159). -/
def CaptureEnds (round : Round) (c : Capture) (r : OwnReport) (s t : State) : Prop :=
  (∃ l : List HuntReport,
    Inserted { station := s.address, relation := .own, mag := r.mag, dir := r.dir, isOpen := r.isOpen,
               incomplete := r.incomplete, round := round, crossed := false } s.hunt.table l ∧
    t.hunt = { s.hunt with capture := c, ownReport := some r, phase := .collect, table := l }) ∧
  t.handovers = s.handovers ++ placements
    [.huntReport { round := round, mag := r.mag, dir := r.dir, isOpen := r.isOpen, incomplete := r.incomplete }] ∧
  t.cport = s.cport ∧ EventFrame [.meas, .elem, .fin, .sequencer, .blk, .prof, .link, .tripco] s t

/-- The report of a configured downstream neighbour sees the fault (R162). -/
def neighbourSees (s : State) (a : Byte) : Prop :=
  ∃ r : HuntReport, s.hunt.table.find? (fun r => r.station == a) = some r ∧ r.dir = .forward ∧ s.pickupSef ≤ r.mag

/-- A configured downstream neighbour is missing: no report, and no entry that shows it open (R162). -/
def neighbourMissing (s : State) (a : Byte) : Prop :=
  s.hunt.table.find? (fun r => r.station == a) = none ∧
    ∀ e ∈ s.link.table, e.address = a → e.pos ≠ .opened ∧ ∀ x : SeqState, e.st = some x →
      x ≠ .lockout ∧ x ≠ .opened ∧ x ≠ .failed ∧ x ≠ .deadTime ∧ x ≠ .deadHold

/-- The verdict of a round whose own report is `r` (R162). -/
def VerdictIs (r : OwnReport) (v : Verdict) (s : State) : Prop :=
  (¬ (r.dir = .forward ∧ s.pickupSef ≤ r.mag) → v = .notInvolved) ∧
  (r.dir = .forward → s.pickupSef ≤ r.mag →
    ((∃ a ∈ s.image.downstream, neighbourSees s a) → v = .notOwner) ∧
    ((∀ a ∈ s.image.downstream, ¬ neighbourSees s a) →
      ((∃ a ∈ s.image.downstream, neighbourMissing s a) → v = .uncertain) ∧
      ((∀ a ∈ s.image.downstream, ¬ neighbourMissing s a) → v = .owner)))

/-- Every block is the same. -/
def allBlocks : List Block := [.meas, .elem, .fin, .sequencer, .blk, .prof, .link, .tripco, .hunt]

/-- The image with the data in the area of that code from the offset on; the areas are S 1, of 81 bytes, and F 2, of
44 (R173; 11.7, 11.8). -/
def Written (area : Byte) (off : Nat) (data : List Byte) (i j : Image) : Prop :=
  (area.toNat = 1 ∧ off + data.length ≤ 81 ∧
    j = { i with areaS := i.areaS.take off ++ data ++ i.areaS.drop (off + data.length) }) ∨
  (area.toNat = 2 ∧ off + data.length ≤ 44 ∧
    j = { i with areaF := i.areaF.take off ++ data ++ i.areaF.drop (off + data.length) })

/-- The number in `size` bytes of an area from an offset on, most significant byte first (R185). -/
def fieldAt (l : List Byte) (off size : Nat) : Nat :=
  (List.range size).foldl (fun n k => n * 256 + (l.getD (off + k) 0).toNat) 0

/-- The bytes have that length, and each field, given by its offset, its size and its value, stands there, most
significant byte first (11). -/
def Reads (l : List Byte) (length : Nat) (fields : List (Nat × Nat × Nat)) : Prop :=
  l.length = length ∧ ∀ f ∈ fields, fieldAt l f.1 f.2.1 = f.2.2 % 256 ^ f.2.1

/-- A hand-over is a placement with LINK. -/
def isPlacement : Instr → Bool
  | .framePlacement _ => true
  | _ => false

/-- A flag as the bit of that number. -/
def bitIf (p : Prop) [Decidable p] (n : Nat) : Nat := if p then 2 ^ n else 0

/-- The bits of bytes, each byte most significant bit first. -/
def bitsOf (l : List Byte) : List Bool := l.flatMap (fun b => (List.range 8).map (fun k => b.getLsbD (7 - k)))

/-- The register of an unreflected CRC after a series of bits: it shifts left, and takes the polynomial where the bit
that leaves it differs from the bit that comes (R2, R117, R170). -/
def crcByBits {w : Nat} (poly : BitVec w) : List Bool → BitVec w → BitVec w
  | [], r => r
  | b :: l, r => crcByBits poly l (if r.msb = b then r <<< 1 else (r <<< 1) ^^^ poly)

/-- The codes of 11.1: each name has its place in the row of its quantity, counted from 0, or from 1 where the row begins
there. -/
def CodesOfRecords : Prop :=
  [.ordinary, .elevated, .extreme].map profileCode = List.range 3 ∧
  [.dormant, .closedRest, .tripping, .deadTime, .deadHold, .closing, .reclaim, .lockout, .opened, .failed].map
    seqStateCode = List.range 10 ∧
  [.unknown, .closed, .opened].map positionCode = List.range 3 ∧
  [.none, .ph, .phh, .ef, .sef, .huntOwner, .intertrip, .manual].map causeCode = List.range 8 ∧
  [.undetermined, .forward, .reverse].map directionCode = List.range 3 ∧
  [.idle, .capture, .collect, .cooldown].map phaseCode = List.range 4 ∧
  [.none, .owner, .notOwner, .uncertain, .notInvolved].map verdictCode = List.range 5 ∧
  [.other, .up, .down, .own].map relationCode = List.range 4 ∧
  [.fresh, .quiet, .lost].map nbrStatusCode = List.range 3 ∧
  [.tag, .field, .watch, .sef, .hunt, .self].map blockSourceCode = List.range' 1 6 ∧
  [.hold, .lock].map blockEffectCode = List.range' 1 2 ∧
  [.once, .standing].map watchModeCode = List.range' 1 2 ∧
  [.none, .placeBlock, .removeBlock, .intertrip].map watchActionCode = List.range 4 ∧
  [.trip, .close].map failedOpCode = List.range' 1 2 ∧
  [.none, .timing, .due].map relaxCode = List.range 3 ∧
  [.idle, .defer, .backoff, .keyup, .sending, .keydown].map txCode = List.range 6 ∧
  [.none, .pending, .valid, .fail].map snapCode = List.range 4

/-- The codes of a notice: its kind, its category, and the reason of a SEQ_STATE (11.1, 11.5). -/
def CodesOfNotices : Prop :=
  [.trip, .seqState, .externalOpen, .breakerFail, .sefAlarm, .profileChanged, .huntVerdict, .watchMatch,
    .blockOverflow, .peerStatus, .addressClash, .stale, .fresh, .breakerDiscrepancy, .inputChange, .started,
    .restarted].map noticeCode = List.range' 1 17 ∧
  [.trip, .seqState, .externalOpen, .breakerFail, .sefAlarm].map noticeCategory = [0, 0, 0, 0, 0] ∧
  [.profileChanged, .huntVerdict, .watchMatch].map noticeCategory = [1, 1, 1] ∧
  [.peerStatus, .addressClash].map noticeCategory = [2, 2] ∧
  [.blockOverflow, .stale, .fresh, .breakerDiscrepancy, .inputChange, .started, .restarted].map noticeCategory =
    [3, 3, 3, 3, 3, 3, 3] ∧
  [.start, .reclaimDone, .resetFail, .closeDone, .externalClose, .noReclose, .shotLimit, .blockLock, .holdTimeout,
    .profileRaise, .externalOpen, .manualOpen, .tripFail, .closeFail].map reasonCode = List.range' 1 14

/-- The neighbour entry of 11.6, its absent quantities as R184 says; last heard, while absent, is 0 (log 38). -/
def NeighbourLaidOut (e : Neighbour) : Prop :=
  Reads (neighbourBytes e) 18
    [(0, 1, e.address.toNat), (1, 1, relationCode e.relation),
     (2, 1, bitIf (e.pinned = true) 0 + bitIf (e.lastHeard ≠ none) 1 + bitIf (e.measFresh = true) 2),
     (3, 1, nbrStatusCode e.status), (4, 1, e.lastSol.getD 0), (5, 4, (e.lastHeard.getD 0).toNat),
     (9, 1, min e.missed 255), (10, 1, profileCode e.ownDemand), (11, 1, profileCode e.effective),
     (12, 1, (e.st.map seqStateCode).getD 255), (13, 1, positionCode e.pos), (14, 1, phaseCode e.phase),
     (15, 1, e.interval), (16, 2, e.tripFail.getD 0)]

/-- The block record of 11.6. -/
def BlockLaidOut (r : BlockRecord) : Prop :=
  Reads (blockBytes r) 14
    [(0, 1, blockSourceCode r.key.source), (1, 1, r.key.origin.toNat), (2, 2, r.key.tag.toNat),
     (4, 1, blockEffectCode r.effect), (5, 1, bitIf (r.expiry ≠ none) 0), (6, 4, r.setTime.toNat),
     (10, 4, (r.expiry.getD 0).toNat)]

/-- The watch of 11.6. -/
def WatchLaidOut (w : Watch) : Prop :=
  Reads (watchBytes w) 13
    [(0, 1, w.station.toNat), (1, 1, kindCode w.kind), (2, 1, w.substate.toNat), (3, 1, watchModeCode w.mode),
     (4, 1, watchActionCode w.action1), (5, 1, watchActionCode w.action2), (6, 2, w.blockTag.toNat),
     (8, 1, w.effect.toNat), (9, 2, w.duration.toNat), (11, 1, w.tagA.toNat), (12, 1, w.tagB.toNat)]

/-- The hunt header and the hunt report of 11.6; the sequence, while no round is recorded, is 0 (log 36). -/
def HuntLaidOut (h : HuntState) (r : HuntReport) : Prop :=
  Reads (huntHeader h) 7
    [(0, 1, phaseCode h.phase), (1, 1, ((h.round.map (fun x : Round => x.caller)).getD 0).toNat),
     (2, 1, ((h.round.map (fun x : Round => x.seqNo)).getD 0).toNat), (3, 1, verdictCode h.verdict),
     (4, 1, (h.heardOwner.getD 0).toNat), (5, 1, min h.crossed 255), (6, 1, min h.ignored 255)] ∧
  Reads (huntReportBytes r) 8
    [(0, 1, r.station.toNat), (1, 1, relationCode r.relation), (2, 2, r.mag), (4, 1, directionCode r.dir),
     (5, 1, bitIf (r.isOpen = true) 0 + bitIf (r.incomplete = true) 1 + bitIf (r.crossed = true) 7),
     (6, 1, r.round.caller.toNat), (7, 1, r.round.seqNo.toNat)]

/-- The notice record of 11.5. -/
def NoticeLaidOut (n : Notice) : Prop :=
  Reads (noticeBytes n) 13
    [(0, 1, noticeCode n.kind), (1, 1, noticeCategory n.kind), (2, 4, n.time.toNat), (6, 1, n.station.toNat),
     (7, 2, n.detail1.toNat), (9, 2, n.detail2.toNat), (11, 1, n.tagA.toNat), (12, 1, n.tagB.toNat)]

/-- The snapshot record of 11.6. -/
def SnapshotLaidOut (x : Snapshot) : Prop :=
  Reads (snapshotBytes x) 31
    [(0, 2, x.ia), (2, 2, x.ib), (4, 2, x.ic), (6, 2, x.ir), (8, 2, x.is), (10, 2, x.v0),
     (12, 4, (x.p0 % 4294967296).toNat), (16, 1, directionCode x.dir), (17, 2, x.accPh), (19, 2, x.accEf),
     (21, 2, x.sefCount), (23, 1, profileCode x.effective), (24, 1, seqStateCode x.st), (25, 1, x.shot),
     (26, 1, x.sol), (27, 4, x.time.toNat)]

/-- The status record of 11.6 (R183). -/
def StatusLaidOut (s : State) : Prop :=
  Reads (statusRecord s) 33
    [(0, 1, bitIf (s.isRun = true) 0), (1, 1, s.address.toNat), (2, 1, profileCode s.prof.port),
     (3, 1, profileCode s.prof.field), (4, 1, profileCode s.prof.ownDemand), (5, 1, profileCode s.prof.peer),
     (6, 1, profileCode s.prof.target), (7, 1, profileCode s.prof.effective), (8, 1, relaxCode s.prof.relax),
     (9, 1, seqStateCode s.sequencer.st), (10, 1, s.sequencer.shot), (11, 1, causeCode s.sequencer.lastCause),
     (12, 1, positionCode s.fin.position), (15, 1, bitIf (s.meas.status = .fresh) 0),
     (16, 1, min s.meas.lossCount 255), (17, 1, phaseCode s.hunt.phase), (18, 1, bitIf (s.blk.overflow = true) 0),
     (19, 1, min s.blk.table.length 255), (20, 1, min s.blk.watches.length 255),
     (21, 1, min s.link.table.length 255), (22, 1, s.link.sol), (23, 1, txCode s.link.tx),
     (24, 1, bitIf (∃ r ∈ s.tripco.records, r.held = true) 0),
     (25, 1, bitIf (∃ r ∈ s.tripco.records, r.lost = true) 0), (26, 1, min s.cport.notices.length 255),
     (27, 1, bitIf (s.cport.overflow = true) 0), (28, 1, 0), (29, 4, s.now.toNat)] ∧
  ∀ n : Nat, n < 8 →
    (((statusRecord s).getD 13 0).getLsbD n = true ↔ s.input n = some true) ∧
    (((statusRecord s).getD 14 0).getLsbD n = true ↔ s.input n ≠ none)

/-- The payload of 11.3 of each kind of frame. -/
def PayloadsLaidOut : Prop :=
  (∀ op : FailedOp, Reads (bodyPayload (.owned (.breakerFail op))) 1 [(0, 1, failedOpCode op)]) ∧
  (∀ x : TripInfo, Reads (bodyPayload (.owned (.trip x))) 3
    [(0, 1, causeCode x.cause), (1, 1, x.shot), (2, 1, x.fail10)]) ∧
  (∀ x : RestrainInfo, Reads (bodyPayload (.owned (.restrain x))) 2
    [(0, 1, bitIf (x.ph = true) 0 + bitIf (x.ef = true) 1 + bitIf (x.phh = true) 2), (1, 1, x.tripNo)]) ∧
  bodyPayload (.owned .release) = [] ∧
  (∀ x : StateInfo, Reads (bodyPayload (.owned (.state x))) 3
    [(0, 1, seqStateCode x.st), (1, 1, positionCode x.pos), (2, 1, x.shot)]) ∧
  (∀ n : Byte, bodyPayload (.owned (.huntCall n)) = [n]) ∧
  (∀ x : ReportInfo, Reads (bodyPayload (.owned (.huntReport x))) 6
    [(0, 1, x.round.caller.toNat), (1, 1, x.round.seqNo.toNat), (2, 2, x.mag), (4, 1, directionCode x.dir),
     (5, 1, bitIf (x.isOpen = true) 0 + bitIf (x.incomplete = true) 1)]) ∧
  (∀ x : Round, Reads (bodyPayload (.owned (.huntVerdict x))) 3
    [(0, 1, x.caller.toNat), (1, 1, x.seqNo.toNat), (2, 1, 1)]) ∧
  (∀ x : BeaconInfo, Reads (bodyPayload (.beacon x)) 7
    [(0, 1, profileCode x.ownDemand), (1, 1, profileCode x.effective), (2, 1, seqStateCode x.st),
     (3, 1, positionCode x.pos), (4, 1, bitIf (x.measFresh = true) 0), (5, 1, phaseCode x.phase),
     (6, 1, x.interval)])

/-- Area S: each field in index order, its offset, its size, and the least and the largest value of its range
(11.7). -/
def layoutS : List (Nat × Nat × Nat × Nat) :=
  [(0, 1, 1, 62), (1, 2, 0, 65535), (3, 1, 0, 62), (4, 1, 0, 62), (5, 1, 0, 62), (6, 1, 0, 62), (7, 1, 0, 62),
   (8, 1, 0, 1), (9, 1, 1, 5), (10, 1, 0, 100), (11, 1, 1, 60), (12, 2, 10, 32767), (14, 1, 0, 3), (15, 1, 5, 200),
   (16, 2, 0, 60000), (18, 2, 10, 32767), (20, 2, 0, 500), (22, 2, 0, 500), (24, 1, 0, 3), (25, 2, 0, 60000),
   (27, 2, 1, 20000), (29, 4, 1, 10000000), (33, 4, 200, 180000), (37, 4, 200, 180000), (41, 4, 200, 180000),
   (45, 4, 200, 180000), (49, 4, 1000, 600000), (53, 2, 60, 1000), (55, 2, 60, 1000), (57, 4, 1000, 120000),
   (61, 2, 100, 1000), (63, 2, 500, 10000), (65, 2, 60, 7200), (67, 1, 0, 1), (68, 1, 0, 1), (69, 1, 0, 1),
   (70, 1, 0, 1), (71, 1, 0, 1), (72, 1, 0, 1), (73, 1, 0, 1), (74, 1, 0, 1), (75, 1, 50, 200), (76, 2, 20, 500),
   (78, 1, 0, 15)]

/-- A profile record of area F, in the same form, its offsets counted from the start of the record (11.8). -/
def layoutF : List (Nat × Nat × Nat × Nat) :=
  [(0, 1, 0, 4), (1, 1, 0, 5), (2, 1, 0, 1), (3, 1, 5, 200), (4, 2, 5, 32767), (6, 1, 5, 200), (7, 2, 100, 30000),
   (9, 2, 100, 60000), (11, 1, 0, 1), (12, 1, 0, 1), (13, 1, 0, 1)]

/-- A value of area S that lies within the limits of its field and yet is not allowed: a reset time below 20 that is
not 0 (indices 14 and 19), a sense period that is neither 50 nor 200 (41), a neighbour address that is the station's
own or that of an earlier neighbour field (2..6) (11.7, R174). -/
def gapS (l : List Byte) (n v : Nat) : Prop :=
  ((n = 14 ∨ n = 19) ∧ v ≠ 0 ∧ v < 20) ∨ (n = 41 ∧ v ≠ 50 ∧ v ≠ 200) ∨
  (2 ≤ n ∧ n ≤ 6 ∧ v ≠ 0 ∧ (v = fieldAt l 0 1 ∨ ∃ m : Nat, m < n - 2 ∧ v = fieldAt l (3 + m) 1))

/-- The field of index `n` of area S is out of its range. -/
def outS (l : List Byte) (n : Nat) : Prop :=
  ∃ off size lo hi : Nat, layoutS[n]? = some (off, size, lo, hi) ∧
    (fieldAt l off size < lo ∨ hi < fieldAt l off size ∨ gapS l n (fieldAt l off size))

/-- The field of index `n` of area F is out of its range: 0..10 Ordinary, 11..21 Elevated, 22..32 Extreme. -/
def outF (l : List Byte) (n : Nat) : Prop :=
  ∃ off size lo hi : Nat, n < 33 ∧ layoutF[n % 11]? = some (off, size, lo, hi) ∧
    (fieldAt l (14 * (n / 11) + off) size < lo ∨ hi < fieldAt l (14 * (n / 11) + off) size)

/-- The field of index `n` is the first one that is out of its range. -/
def firstOut (out : Nat → Prop) (n : Nat) : Prop := out n ∧ ∀ m : Nat, m < n → ¬ out m

/-- The last two bytes of an area are the CRC of the bytes before them, computed from 0xFFFF (R174). -/
def crcMatches (l : List Byte) : Prop :=
  l.drop (l.length - 2) = halfBytes (crc16 0xFFFF#16 (l.take (l.length - 2)))

/-- An entry at the moment it is pinned, with no entry present before (R124, R125). -/
def pinnedEntry (i : Image) (a : Byte) (rel : Relation) : Neighbour where
  address := a
  relation := rel
  pinned := true
  status := .lost
  lastSol := none
  lastHeard := none
  missed := 0
  ownDemand := .ordinary
  effective := .ordinary
  st := none
  pos := .unknown
  measFresh := false
  phase := .idle
  interval := i.beaconInterval
  tripFail := none
  quietAt := none
  lostAt := none

/-- LINK pins one configured neighbour: the entry present becomes pinned and LOST with its other fields kept, else a new
one joins the end of the list, in a full table in place of the longest silent unpinned entry (R124, R125). -/
def PinsOne (i : Image) (c : Byte × Relation) (s t : State) : Prop :=
  ∃ l : List Neighbour, t = { s with link := { s.link with table := l } } ∧
    ((∃ e ∈ s.link.table, e.address = c.1) → l = s.link.table.map (fun e =>
      if e.address = c.1 then
        { e with pinned := true, relation := c.2, status := .lost, quietAt := none, lostAt := none }
      else e)) ∧
    ((∀ e ∈ s.link.table, e.address ≠ c.1) →
      (s.link.table.length < 24 → l = s.link.table ++ [pinnedEntry i c.1 c.2]) ∧
      (∀ (old : Neighbour) (before after_ : List Neighbour), s.link.table.length = 24 →
        (s.link.table.map (·.address)).Nodup → s.link.table = before ++ old :: after_ → old.pinned = false →
        (∀ y ∈ before, y.pinned = false → silence s.now y < silence s.now old) →
        (∀ y ∈ after_, y.pinned = false → silence s.now y ≤ silence s.now old) →
        l = before ++ after_ ++ [pinnedEntry i c.1 c.2]))

/-- From the table `l`, LINK pins the upstream neighbour of the image, if it has one, and then each downstream one in the
order of area S (R125). -/
def AllPinned (i : Image) (l : List Neighbour) (s t : State) : Prop :=
  ∃ v : State,
    Chain (PinsOne i)
      ((if i.upstream = 0 then [] else [(i.upstream, .up)]) ++ i.downstream.map (fun a => (a, .down)))
      { s with link := { s.link with table := l } } v ∧
    t.link.table = v.link.table

/-- The records that stand at START and at a SOFT RESET in RUN: SELF if MEAS is STALE, FIELD tag 2 and FIELD tag 5 where
their inputs are high (R88, R97). -/
def standingKeys (s : State) : List BlockKey :=
  (if s.meas.status = .stale then [{ source := .self, origin := s.address, tag := 1 }] else []) ++
    (if s.inputSet 2 = true then [fieldRecord 2 s] else []) ++
    (if s.inputSet 5 = true then [fieldRecord 5 s] else [])

/-- From the records `b` and the queue that the notices `ns` make of that of `u`, BLK places the standing records one by
one, as `t` shows; SEQ is at rest and takes none of these changes (R83, R88, R97). -/
def StandingPlaced (b : BlkState) (ns : List Notice) (u t : State) : Prop :=
  ∃ v w : State, Noticed ns u v ∧ v.blk = b ∧ v.image = t.image ∧ v.now = t.now ∧ v.sequencer = t.sequencer ∧
    Chain (fun k => PutsRecord k .lock none) (standingKeys t) v w ∧ t.blk = w.blk ∧ Noticed [] w t

/-- The blocks read each setting from its place in the two layouts (11.7, 11.8). -/
def SettingsReadAt (i : Image) : Prop :=
  i.stationAddress.toNat = fieldAt i.areaS 0 1 ∧ i.upstream.toNat = fieldAt i.areaS 3 1 ∧
  i.downstream.map BitVec.toNat = ([4, 5, 6, 7].map (fun off => fieldAt i.areaS off 1)).filter (fun n => n != 0) ∧
  [i.feederCode.toNat, i.followPeers, i.linkBaud, i.keyupTime, i.beaconInterval, i.pickupPh, i.curvePh, i.delayedTmPh,
    i.resetTimePh, i.highSet, i.delayHs, i.delayLost, i.curveEf, i.resetTimeEf, i.v0Min, i.p0Min, i.deadTime 1,
    i.deadTime 2, i.deadTime 3, i.deadTime 4, i.reclaim, i.tripFail, i.closeFail, i.holdMax, i.restraintHold,
    i.huntDefer, i.profileRelax] =
    ([(1, 2), (8, 1), (9, 1), (10, 1), (11, 1), (12, 2), (14, 1), (15, 1), (16, 2), (18, 2), (20, 2), (22, 2), (24, 1),
      (25, 2), (27, 2), (29, 4), (33, 4), (37, 4), (41, 4), (45, 4), (49, 4), (53, 2), (55, 2), (57, 4), (61, 2),
      (63, 2), (65, 2)].map (fun (f : Nat × Nat) => fieldAt i.areaS f.1 f.2)) ∧
  (∀ n : Nat, n < 8 → i.inputMode n = fieldAt i.areaS (67 + n) 1) ∧
  [i.sensePeriod, i.discTime, i.attnMask] =
    ([(75, 1), (76, 2), (78, 1)].map (fun (f : Nat × Nat) => fieldAt i.areaS f.1 f.2)) ∧
  ∀ (p : Profile) (at_ : Nat → Nat → Nat),
    (∀ off size : Nat, at_ off size = fieldAt i.areaF (14 * profileCode p + off) size) →
    [i.shotLimit p, i.fastTrips p, i.fastTmPh p, i.pickupEf p, i.tmEf p, i.pickupSef p, i.timeSef p] =
      [at_ 0 1, at_ 1 1, at_ 3 1, at_ 4 2, at_ 6 1, at_ 7 2, at_ 9 2] ∧
    (i.phhEnable p = true ↔ at_ 2 1 = 1) ∧ (i.sefTrips p = true ↔ at_ 11 1 = 1) ∧
    (i.sefLock p = true ↔ at_ 12 1 = 1) ∧ (i.huntEnable p = true ↔ at_ 13 1 = 1)

/-- The image passes every check of START (R174, R99). -/
def passesStart (i : Image) : Prop :=
  crcMatches i.areaS ∧ crcMatches i.areaF ∧ (∀ n : Nat, ¬ outS i.areaS n) ∧ (∀ n : Nat, ¬ outF i.areaF n) ∧
    fieldAt i.areaF 14 1 ≤ fieldAt i.areaF 0 1 ∧ fieldAt i.areaF 28 1 ≤ fieldAt i.areaF 14 1

/-- The bit rate of a staged image, as the code of LINK_BAUD: a staged code outside 1..5 is taken as 9600, code 4
(R115). -/
def stagedBaud (i : Image) : Nat :=
  if 1 ≤ fieldAt i.areaS 9 1 ∧ fieldAt i.areaS 9 1 ≤ 5 then fieldAt i.areaS 9 1 else 4

/-- The payload lengths of the nineteen commands (11.4). -/
def lengthFits (code n : Nat) : Prop :=
  (code = 0x10 ∧ 4 ≤ n ∧ n ≤ 19) ∨
  (code ∈ [0x11, 0x12, 0x33, 0x40, 0x41, 0x42, 0x50, 0x60, 0x61, 0x70, 0x72] ∧ n = 0) ∨
  (code = 0x20 ∧ n = 1) ∨ (code = 0x31 ∧ n = 2) ∨ (code ∈ [0x35, 0x71] ∧ n = 3) ∨
  (code ∈ [0x30, 0x32] ∧ n = 4) ∨ (code = 0x34 ∧ n = 13)

/-- The code and payload of a host command (11.4). -/
def commandBytes : Instr → Option (Byte × List Byte)
  | .loadSettings area off data => some (0x10, [area] ++ halfBytes off ++ data)
  | .start => some (0x11, [])
  | .softReset => some (0x12, [])
  | .selectProfile p => some (0x20, [p])
  | .tag n d => some (0x30, halfBytes n ++ halfBytes d)
  | .untag n => some (0x31, halfBytes n)
  | .unblock source origin n => some (0x32, [source, origin] ++ halfBytes n)
  | .clearOverflow => some (0x33, [])
  | .bookWatch w => some (0x34, [w.station, w.kind, w.substate, w.mode, w.action1, w.action2] ++
      halfBytes w.blockTag ++ [w.effect] ++ halfBytes w.duration ++ [w.tagA, w.tagB])
  | .unbookWatch station kind substate => some (0x35, [station, kind, substate])
  | .manualOpen => some (0x40, [])
  | .manualClose => some (0x41, [])
  | .resetFail => some (0x42, [])
  | .startHunt => some (0x50, [])
  | .snapshotRequest => some (0x60, [])
  | .snapshotRead => some (0x61, [])
  | .readNotice => some (0x70, [])
  | .readTable table first count => some (0x71, [table, first, count])
  | .readStatus => some (0x72, [])
  | .sampleFrame _ _ | .frameSilenceExpiry | .staticSample _ | .sensePeriodStart | .cyclicSample _
  | .discrepancyTimeout | .tripRequest _ | .tripFailExpiry | .deadTimeExpiry | .holdMaxExpiry | .closeFailExpiry
  | .reclaimExpiry | .commandRejected _ _ _ _ | .transactionBegin | .transactionEnd | .powerOnReset _
  | .blockRecordExpiry _ | .watchFrameMatch _ _ | .relaxTimerExpiry | .linkFrameReceived _ | .receiveGapTimeout
  | .neighbourQuietExpiry _ | .neighbourLostExpiry _ | .framePlacement _ | .carrierDetectChange _ | .deferQuietExpiry
  | .backoffExpiry | .keyupExpiry | .sendComplete | .keydownExpiry | .beaconTimerExpiry | .restrainReceived _ _
  | .releaseReceived _ | .stateFrameReceived _ _ | .tripFrameReceived _ _ | .breakerFailReceived _ _
  | .restraintExpiry _ | .refreshTimerExpiry | .huntCallReceived _ _ | .huntReportReceived _ _
  | .huntVerdictReceived _ _ | .roundDeadlineExpiry | .cooldownExpiry | .rxdByteCompleted _ _ | .commandByteTaken _
  | .resetnRelease => none

end Sys2Proof.Claims

open Sys2Proof Sys2Proof.Machine Sys2Proof.Claims

/-! ### Steps -/

namespace Sys2Proof.Claims

/-- A timer runs, and the count has reached its instant: the instant lies less than half the range of the count back
(00_scope, Time; log 4). -/
def DueNow (s : State) (timer : Option Ms) : Prop :=
  ∃ at_ : Ms, timer = some at_ ∧ (s.now - at_).toNat < 2147483648

/-- The event of a timer of the part that has run out, or of samples whose instant has come (00_scope, Time). -/
def Expires (s : State) (e : Instr) : Prop :=
  (e = .frameSilenceExpiry ∧ DueNow s s.meas.silenceAt) ∨
  (e = .sensePeriodStart ∧ DueNow s s.fin.nextPeriodAt) ∨
  (e = .staticSample s.fin.sense.pins ∧ DueNow s (some s.fin.sense.staticAt)) ∨
  (e = .cyclicSample s.fin.sense.pins ∧ DueNow s s.fin.sense.pulseEndAt) ∨
  (e = .discrepancyTimeout ∧ DueNow s s.fin.discAt) ∨
  (((s.sequencer.st = .tripping ∧ e = .tripFailExpiry) ∨ (s.sequencer.st = .deadTime ∧ e = .deadTimeExpiry) ∨
      (s.sequencer.st = .deadHold ∧ e = .holdMaxExpiry) ∨ (s.sequencer.st = .closing ∧ e = .closeFailExpiry) ∨
      (s.sequencer.st = .reclaim ∧ e = .reclaimExpiry)) ∧ DueNow s s.sequencer.timer) ∨
  (∃ r ∈ s.blk.table, e = .blockRecordExpiry r.key ∧ DueNow s r.expiry) ∨
  (e = .relaxTimerExpiry ∧ DueNow s s.prof.relaxAt) ∨
  (∃ n ∈ s.link.table, (n.status = .fresh ∧ e = .neighbourQuietExpiry n.address ∧ DueNow s n.quietAt) ∨
    (n.status = .quiet ∧ e = .neighbourLostExpiry n.address ∧ DueNow s n.lostAt)) ∨
  (((s.link.tx = .defer ∧ e = .deferQuietExpiry) ∨ (s.link.tx = .backoff ∧ e = .backoffExpiry) ∨
      (s.link.tx = .keyup ∧ e = .keyupExpiry) ∨ (s.link.tx = .keydown ∧ e = .keydownExpiry)) ∧
    DueNow s s.link.txTimer) ∨
  (e = .beaconTimerExpiry ∧ DueNow s s.link.beaconAt) ∨
  (∃ r ∈ s.tripco.records, r.held = true ∧ e = .restraintExpiry r.address ∧ DueNow s r.expiry) ∨
  (e = .refreshTimerExpiry ∧ DueNow s s.tripco.refreshAt) ∨
  (e = .roundDeadlineExpiry ∧ DueNow s s.hunt.deadlineAt) ∨
  (e = .cooldownExpiry ∧ DueNow s s.hunt.cooldownAt)

end Sys2Proof.Claims

/-- A step runs the command at the front of the queue on the rest of the queue; with no command waiting it takes an
event of the part's own: the oldest one that a block has issued and no block has taken yet, or with none outstanding that
of a timer that has run out; a millisecond passes only with none outstanding and no timer run out. The queue, what happens
on an empty one, and that a held part stands still, its count too, are the model's.
The model's choices here: log 1, 2, 4, 18, 19. -/
def Obligations.StepRunsTheCommandInFront : Prop :=
  ∀ s : State,
    (∀ (c : Instr) (rest : List Instr), s.pending = c :: rest → step s = exec c { s with pending := rest }) ∧
    (s.pending = [] → ∀ e : Instr, ownEvent s = some e → step s = exec e s) ∧
    (s.pending = [] → ownEvent s = none → s.resetHeld = false → step s = .next { s with now := s.now + 1 }) ∧
    (s.pending = [] → s.resetHeld = true → step s = .next s) ∧
    (s.pending = [] → s.resetHeld = false →
      (∀ (e : Instr) (rest : List Instr), s.handovers = e :: rest → step s = exec e s) ∧
      (s.handovers = [] → (∃ e : Instr, Expires s e) → ∃ e : Instr, Expires s e ∧ step s = exec e s) ∧
      (s.handovers = [] → (∀ e : Instr, ¬ Expires s e) → step s = .next { s with now := s.now + 1 }))

/-- No command stops the part, and none touches the queue behind it.
The model's choices here: log 3, 9, 19, 25, 27. -/
def Obligations.EveryCommandAnswersANextState : Prop :=
  ∀ (c : Instr) (s : State), ∃ t : State, exec c s = .next t ∧ t.pending = s.pending

/-- While RESETn is held low only a power-on reset and the release act (R176); an expiry whose timer is stopped, or
whose state is another one, does nothing (R41, R56, R128 to R131). The timers here: frame silence, sense period,
discrepancy, the sequencer's, relax, the transmitter's four, beacon, refresh, round deadline, cooldown. Those of block
records, neighbour entries and restraint records have statements of their own.
The model's choices here: log 3, 19. -/
def Obligations.HeldResetAndStoppedTimersDoNothing : Prop :=
  ∀ s : State,
    (s.resetHeld = true → ∀ c : Instr, (∀ k, c ≠ .powerOnReset k) → c ≠ .resetnRelease → exec c s = .next s) ∧
    (s.meas.silenceAt = none → exec .frameSilenceExpiry s = .next s) ∧
    (s.fin.nextPeriodAt = none → exec .sensePeriodStart s = .next s) ∧
    (s.fin.discAt = none → exec .discrepancyTimeout s = .next s) ∧
    (s.sequencer.timer = none → exec .tripFailExpiry s = .next s ∧ exec .deadTimeExpiry s = .next s ∧
      exec .holdMaxExpiry s = .next s ∧ exec .closeFailExpiry s = .next s ∧ exec .reclaimExpiry s = .next s) ∧
    (s.sequencer.st ≠ .tripping → exec .tripFailExpiry s = .next s) ∧
    (s.sequencer.st ≠ .deadTime → exec .deadTimeExpiry s = .next s) ∧
    (s.sequencer.st ≠ .deadHold → exec .holdMaxExpiry s = .next s) ∧
    (s.sequencer.st ≠ .closing → exec .closeFailExpiry s = .next s) ∧
    (s.sequencer.st ≠ .reclaim → exec .reclaimExpiry s = .next s) ∧
    (s.prof.relaxAt = none → exec .relaxTimerExpiry s = .next s) ∧
    (s.link.txTimer = none → exec .deferQuietExpiry s = .next s ∧ exec .backoffExpiry s = .next s ∧
      exec .keyupExpiry s = .next s ∧ exec .keydownExpiry s = .next s) ∧
    (s.link.tx ≠ .defer → exec .deferQuietExpiry s = .next s) ∧
    (s.link.tx ≠ .backoff → exec .backoffExpiry s = .next s) ∧
    (s.link.tx ≠ .keyup → exec .keyupExpiry s = .next s) ∧
    (s.link.tx ≠ .keydown → exec .keydownExpiry s = .next s) ∧
    (s.link.beaconAt = none → exec .beaconTimerExpiry s = .next s) ∧
    (s.tripco.refreshAt = none → exec .refreshTimerExpiry s = .next s) ∧
    (s.hunt.deadlineAt = none → exec .roundDeadlineExpiry s = .next s) ∧
    (s.hunt.cooldownAt = none → exec .cooldownExpiry s = .next s)

/-! ### MEAS (chapter 1) -/

/-- R1, R2: a received frame is 16 whole bytes with a good check byte and a position in 0..31, and its channels are
signed 16-bit values with −32768 replaced by −32767; any other frame changes nothing. -/
def Obligations.SampleFramesAreCheckedAndRead : Prop :=
  (∀ (bytes : List Byte) (extraBits : Nat) (s : State),
    ¬ (bytes.length = 16 ∧ extraBits = 0 ∧ bytes.getD 15 0 = crc8 0 (bytes.take 15) ∧ (bytes.getD 0 0).toNat < 32) →
      exec (.sampleFrame bytes extraBits) s = .next s) ∧
  (∀ bytes : List Byte,
    bytes.length = 16 → bytes.getD 15 0 = crc8 0 (bytes.take 15) → (bytes.getD 0 0).toNat < 32 →
      ∃ x : Sample, readSampleFrame bytes 0 = some ((bytes.getD 0 0).toNat, x) ∧
        x.ia = channel (bytes.getD 1 0) (bytes.getD 2 0) ∧ x.ib = channel (bytes.getD 3 0) (bytes.getD 4 0) ∧
        x.ic = channel (bytes.getD 5 0) (bytes.getD 6 0) ∧ x.is = channel (bytes.getD 7 0) (bytes.getD 8 0) ∧
        x.va = channel (bytes.getD 9 0) (bytes.getD 10 0) ∧ x.vb = channel (bytes.getD 11 0) (bytes.getD 12 0) ∧
        x.vc = channel (bytes.getD 13 0) (bytes.getD 14 0)) ∧
  (∀ hi lo : Byte, channel hi lo =
    if (hi ++ lo : BitVec 16).toInt = -32768 then -32767 else (hi ++ lo : BitVec 16).toInt)

/-- R3, R5: a frame at the position expected is accepted, and the frame-silence timer runs for 10 ms from it; in
WAITING a frame at another position is skipped. -/
def Obligations.AcceptedSamplesJoinTheCycle : Prop :=
  ∀ (s : State) (bytes : List Byte) (p : Nat) (x : Sample), s.resetHeld = false →
    readSampleFrame bytes 0 = some (p, x) →
      (s.meas.assembly = .waiting → p = 0 →
        exec (.sampleFrame bytes 0) s = .next { s with
          meas := { s.meas with assembly := .assembling [x], silenceAt := some (after s.now 10) } }) ∧
      (s.meas.assembly = .waiting → p ≠ 0 → exec (.sampleFrame bytes 0) s = .next s) ∧
      (∀ l : List Sample, s.meas.assembly = .assembling l → p = l.length → p < 31 →
        exec (.sampleFrame bytes 0) s = .next { s with
          meas := { s.meas with assembly := .assembling (l ++ [x]), silenceAt := some (after s.now 10) } })

/-- R3, R4, R5, R12, R14: a frame out of order loses the partial cycle: the counts rise, HUNT is told, a pending
snapshot fails, the third loss in a row makes the status STALE with its notice and in RUN the SELF record, the results
stay, and ELEM does not step; so do ten milliseconds without an accepted frame, which make the status STALE at once. That
the STALE notice stands before what BLK and SEQ queue is the model's.
The model's choices here: log 1, 3, 6, 30, 34. -/
def Obligations.PartialCyclesAreLost : Prop :=
  (∀ (s : State) (bytes : List Byte) (p : Nat) (x : Sample) (l : List Sample), s.resetHeld = false →
     readSampleFrame bytes 0 = some (p, x) → s.meas.assembly = .assembling l → p ≠ l.length →
       ∃ t : State, exec (.sampleFrame bytes 0) s = .next t ∧
         t.meas.assembly = (if p = 0 then .assembling [x] else .waiting) ∧
         t.meas.silenceAt = (if p = 0 then some (after s.now 10) else s.meas.silenceAt) ∧
         t.meas.lossCount = min (s.meas.lossCount + 1) 255 ∧
         (s.meas.snapState = .pending → t.meas.snapState = .fail) ∧
         (s.meas.snapState ≠ .pending → t.meas.snapState = s.meas.snapState) ∧
         t.meas.snapshot = s.meas.snapshot ∧
         (s.meas.status = .fresh → 3 ≤ s.meas.lossCount + 1 →
           t.meas.status = .stale ∧ t.meas.staleSince = s.now ∧ t.meas.staleLoss = 0) ∧
         (s.meas.status = .fresh → s.meas.lossCount + 1 < 3 → t.meas.status = .fresh) ∧
         (s.meas.status = .stale →
           t.meas.status = .stale ∧ t.meas.staleSince = s.meas.staleSince ∧
             t.meas.staleLoss = min (s.meas.staleLoss + 1) 65535) ∧
         t.meas.last = s.meas.last ∧ t.meas.cycleTime = s.meas.cycleTime ∧
         (∃ u v : State, LosesCycle s u ∧ (3 ≤ u.meas.lossCount → BecomesStale 1 u v) ∧
           (u.meas.lossCount < 3 → v = u) ∧
           t = if p = 0 then { v with
               meas := { v.meas with assembly := .assembling [x], silenceAt := some (after s.now 10) } }
             else v) ∧
         (s.isRun = true → s.meas.status = .fresh → 3 ≤ s.meas.lossCount + 1 →
           hasKey (selfKey s) t.blk.table = true ∨ t.blk.overflow = true) ∧
         EventFrame [.elem, .link] s t) ∧
  (∀ (s : State) (at_ : Ms), s.resetHeld = false → s.meas.silenceAt = some at_ →
     ∃ t : State, exec .frameSilenceExpiry s = .next t ∧
       t.meas.assembly = .waiting ∧ t.meas.silenceAt = none ∧ t.meas.status = .stale ∧
       t.meas.lossCount = (if s.meas.assembly = .waiting then s.meas.lossCount else min (s.meas.lossCount + 1) 255) ∧
       (s.meas.status = .fresh → t.meas.staleSince = (s.arriveAt at_).now ∧ t.meas.staleLoss = 0 ∧
         t.meas.snapState = (if s.meas.snapState = .pending then .fail else s.meas.snapState) ∧
         (s.isRun = true → hasKey (selfKey s) t.blk.table = true ∨ t.blk.overflow = true)) ∧
       (s.meas.status = .stale → t.meas.staleSince = s.meas.staleSince) ∧
       (∃ u v : State, u = { s.arriveAt at_ with meas := { s.meas with silenceAt := none } } ∧
         (s.meas.assembly = .waiting → v = u) ∧ (s.meas.assembly ≠ .waiting → LosesCycle u v) ∧
         BecomesStale 2 v t) ∧
       t.meas.last = s.meas.last ∧ EventFrame [.elem, .link] (s.arriveAt at_) t)

/-- R11, R13, R16, R17, R20, R37 to R39: position 31 completes the cycle: the results and the cycle time are stored, the
losses return to 0, the status becomes FRESH with its notice and the SELF record goes; in RUN, and only there, ELEM takes
one step on the results, TRIPCO, PROF and HUNT take its indications, and HUNT takes the cycle; a pending snapshot is
filled. The steps below say it in this order, each from the state the one before left.
That FRESH stands before what the removal of the SELF record makes SEQ and PROF queue, and SEF_ALARM before what the
indications make other blocks queue, is the model's (log 6).
The model's choices here: log 1, 5, 6, 17, 30, 34, 35. -/
def Obligations.PositionThirtyOneCompletesTheCycle : Prop :=
  ∀ (s : State) (bytes : List Byte) (x : Sample) (l : List Sample), s.resetHeld = false →
    readSampleFrame bytes 0 = some (31, x) → s.meas.assembly = .assembling l → l.length = 31 →
      ∃ t u v w : State, exec (.sampleFrame bytes 0) s = .next t ∧
        u = { s with
          meas := { s.meas with
            assembly := .waiting, silenceAt := some (after s.now 10),
            last := cycleResult s.v0Min s.p0Min (l ++ [x]), cycleTime := s.now,
            cycleSerial := s.meas.cycleSerial + 1, lossCount := 0 } } ∧
        BecomesFresh u v ∧
        (s.isRun = false → w = v) ∧
        (s.isRun = true → ∃ y : State, ElementSteps v y ∧ w = huntCycle y) ∧
        (s.meas.snapState ≠ .pending → t = w) ∧
        (s.meas.snapState = .pending → ∃ q : SequencerState,
          t = { w with
            meas := { w.meas with snapState := .valid, snapshot := some (snapshotRecord q w) },
            freeCount := w.freeCount + 1 } ∧
          (q = w.sequencer ∨ ∃ (c : ProtCause) (z : State), s.isRun = true ∧ elemCause v = some c ∧
            exec (.tripRequest c) { w with handovers := .tripRequest c :: w.handovers } = .next z ∧
            q = z.sequencer)) ∧
        v.sequencer.shot = s.sequencer.shot ∧ v.elem = s.elem ∧ v.tripco.records = s.tripco.records ∧
        v.image = s.image ∧ (noRelaxDue s ∨ s.sequencer.st ≠ .deadHold → v.prof = s.prof) ∧
        (s.isRun = true → t.elem = nextElem v) ∧
        t.meas.last = cycleResult s.v0Min s.p0Min (l ++ [x]) ∧ t.meas.cycleTime = s.now ∧
        t.meas.lossCount = 0 ∧ t.meas.status = .fresh ∧ t.meas.assembly = .waiting ∧
        t.meas.silenceAt = some (after s.now 10) ∧
        t.meas.snapState = (if s.meas.snapState = .pending then .valid else s.meas.snapState) ∧
        (s.meas.snapState ≠ .pending → t.meas.snapshot = s.meas.snapshot) ∧
        (s.isRun = false → t.elem = s.elem ∧ t.hunt = s.hunt ∧ t.handovers = s.handovers) ∧
        EventFrame [.link] s t

/-- R6 to R10: the arithmetic of a cycle, for 32 samples in −32767..+32767. -/
def Obligations.CycleArithmetic : Prop :=
  (∀ l : List Int, l.length = 32 → (∀ x ∈ l, -32767 ≤ x ∧ x ≤ 32767) →
    magnitude l ≤ 32767 ∧ magnitude l * magnitude l ≤ (l.map (fun x => (x * x).toNat)).sum / 32 ∧
      (l.map (fun x => (x * x).toNat)).sum / 32 < (magnitude l + 1) * (magnitude l + 1)) ∧
  (∀ (v0Min p0Min : Nat) (l : List Sample),
    let r := cycleResult v0Min p0Min l
    r.ia = magnitude (l.map (·.ia)) ∧ r.ib = magnitude (l.map (·.ib)) ∧ r.ic = magnitude (l.map (·.ic)) ∧
      r.m = max r.ia (max r.ib r.ic) ∧
      r.ir = magnitude (l.map (fun (x : Sample) => max (-32767) (min 32767 (x.ia + x.ib + x.ic)))) ∧
      r.is = magnitude (l.map (·.is)) ∧
      r.v0 = magnitude (l.map (fun (x : Sample) => (x.va + x.vb + x.vc).tdiv 3)) ∧
      r.p0 = ((l.map (fun (x : Sample) => (x.va + x.vb + x.vc).tdiv 3 * x.is)).sum).tdiv 32 ∧
      r.dir = (if r.v0 < v0Min then .undetermined else if r.p0 ≤ -(p0Min : Int) then .forward
        else if (p0Min : Int) ≤ r.p0 then .reverse else .undetermined))

/-- R15, R18, 11.6: SNAPSHOT REQUEST and SNAPSHOT READ, and the bytes of a snapshot record.
The model's choices here: log 9. -/
def Obligations.SnapshotCommands : Prop :=
  (∀ x : Snapshot, SnapshotLaidOut x) ∧ CodesOfRecords ∧
  ∀ s : State, s.resetHeld = false →
    (s.meas.snapState = .pending → OnlyAnswers .snapshotRequest .busy [] s) ∧
    (s.meas.snapState ≠ .pending → ∃ t : State, exec .snapshotRequest s = .next t ∧
      AnsweredNow .accepted [] t ∧
      t.meas = { s.meas with snapState := .pending, snapshot := none } ∧
      Frame [.elem, .fin, .sequencer, .blk, .prof, .link, .tripco, .hunt] s t) ∧
    (∀ r : Snapshot, s.meas.snapState = .valid → s.meas.snapshot = some r →
      OnlyAnswers .snapshotRead .accepted (snapshotBytes r) s) ∧
    (s.meas.snapState ≠ .valid → OnlyAnswers .snapshotRead .accepted [] s)

/-! ### ELEM (chapter 2) -/

/-- R24 to R29: one step of an inverse-time element at multiple `q`, on accumulator `a`: the multiple, the reset and the
hold below 269, the curves and the interpolation, and from 269 on the advance of R29. The operation at full scale is in
`ElementStepRules`. That ELEM holds the pickup flags of PH and EF between steps is the model's.
The model's choices here: log 29. -/
def Obligations.InverseTimeElementStep : Prop :=
  (∀ input pickup : Nat, multiple input pickup = min (input * 256 / pickup) 10240) ∧
  (∀ s : State,
    ((nextElem s).pickedPh = true ↔ 256 ≤ multiple s.meas.last.m s.image.pickupPh) ∧
    ((nextElem s).pickedEf = true ↔ 256 ≤ multiple s.meas.last.ir (s.image.pickupEf s.prof.effective)) ∧
    (nextElem s).accPh = stepAccumulator s.image.curvePh
      (if fastMode s = true then s.image.fastTmPh s.prof.effective else s.image.delayedTmPh) s.image.resetTimePh
      (multiple s.meas.last.m s.image.pickupPh) s.elem.accPh ∧
    (nextElem s).accEf = stepAccumulator s.image.curveEf (s.image.tmEf s.prof.effective) s.image.resetTimeEf
      (multiple s.meas.last.ir (s.image.pickupEf s.prof.effective)) s.elem.accEf) ∧
  (∀ curve tm resetTime q a : Nat,
    (q < 256 → stepAccumulator curve tm resetTime q a =
      if resetTime = 0 then 0 else a - 335544320 / resetTime) ∧
    (256 ≤ q → q ≤ 268 → stepAccumulator curve tm resetTime q a = a) ∧
    (269 ≤ q → stepAccumulator curve tm resetTime q a =
      min 16777216 (a + max 1 (335544320 / max 20 (operateTime curve q * tm / 100)))) ∧
    (a ≤ 16777216 → stepAccumulator curve tm resetTime q a ≤ 16777216)) ∧
  (∀ curve i : Nat, i < 10 →
    operateTime curve (curveQ.getD i 0) = (curveTimes curve).getD i 0) ∧
  (∀ curve i q : Nat, i < 9 → curveQ.getD i 0 < q → q ≤ curveQ.getD (i + 1) 0 →
    operateTime curve q = (curveTimes curve).getD i 0 -
      ((curveTimes curve).getD i 0 - (curveTimes curve).getD (i + 1) 0) * (q - curveQ.getD i 0) /
        (curveQ.getD (i + 1) 0 - curveQ.getD i 0)) ∧
  curveQ = [269, 282, 307, 384, 512, 768, 1280, 2560, 5120, 10240] ∧
  curveTimes 0 = [144000, 73000, 39000, 17000, 10000, 6300, 4300, 3000, 2300, 1800] ∧
  curveTimes 1 = [270000, 135000, 67500, 27000, 13500, 6750, 3375, 1500, 711, 346] ∧
  curveTimes 2 = [780000, 381000, 182000, 64000, 26700, 10000, 3330, 808, 200, 50] ∧
  curveTimes 3 = [10000, 10000, 10000, 10000, 10000, 10000, 10000, 10000, 10000, 10000]

/-- R21, R31 to R39: the mode, the high-set and the sensitive earth element, the lapse of the waiver and of the deferral,
the SEF operation and its alarm, the indications handed on, and the one cause of a step; a PH or EF accumulator at full
scale operates (R26). That ELEM holds what a step found until the next is the model's.
The model's choices here: log 29. -/
def Obligations.ElementStepRules : Prop :=
  ∀ s : State,
    (fastMode s = true ↔
      s.sequencer.shot + 1 ≤ s.image.fastTrips s.prof.effective ∧ ∀ r ∈ s.tripco.records, r.held = false) ∧
    (phhRuns s = true ↔
      ((fastMode s = true ∧ s.image.phhEnable s.prof.effective = true) ∨ s.elem.waiver = true) ∧
        ∀ r ∈ s.tripco.records, r.held = false) ∧
    (nextElem s).phhRun =
      (if phhRuns s = true ∧ s.image.highSet ≤ s.meas.last.m then min (s.elem.phhRun + 1) 255 else 0) ∧
    (phhOperates s = true ↔ (phhRuns s = true ∧ s.image.highSet ≤ s.meas.last.m) ∧
      ((if s.elem.waiver = true then 0
        else if ∃ r ∈ s.tripco.records, r.lost = true then s.image.delayLost else s.image.delayHs) + 19) / 20 <
          (nextElem s).phhRun) ∧
    (sefPicked s = true ↔ s.pickupSef ≤ s.meas.last.is ∧ s.meas.last.dir = .forward) ∧
    (nextElem s).sefCount =
      (if s.pickupSef ≤ s.meas.last.is ∧ s.meas.last.dir = .forward then
        if s.elem.sefCount < sefCountLimit s then s.elem.sefCount + 1 else s.elem.sefCount
       else s.elem.sefCount - 1) ∧
    sefCountLimit s =
      (s.image.timeSef s.prof.effective + (if s.elem.deferral = true then s.image.huntDefer else 0) + 19) / 20 ∧
    ((nextElem s).waiver = true ↔ s.elem.waiver = true ∧ (nextElem s).summary = true) ∧
    ((nextElem s).deferral = true ↔ s.elem.deferral = true ∧ (nextElem s).sefCount ≠ 0) ∧
    ((nextElem s).sefOperated = true ↔ sefCountLimit s ≤ (nextElem s).sefCount) ∧
    (sefAlarms s = true ↔ sefCountLimit s ≤ (nextElem s).sefCount ∧ s.sefTrips = false ∧
      s.elem.sefOperated = false) ∧
    ((nextElem s).pickedPhh = true ↔ phhRuns s = true ∧ s.image.highSet ≤ s.meas.last.m) ∧
    ((nextElem s).summary = true ↔
      256 ≤ multiple s.meas.last.m s.image.pickupPh ∨
        256 ≤ multiple s.meas.last.ir (s.image.pickupEf s.prof.effective) ∨ (nextElem s).pickedPhh = true) ∧
    ((nextElem s).activity = true ↔ (nextElem s).summary = true ∨ (nextElem s).sefPickup = true) ∧
    ((nextElem s).sefPickup = true ↔ s.pickupSef ≤ s.meas.last.is ∧ s.meas.last.dir = .forward) ∧
    elemCause s =
      (if phhOperates s = true then some .phh
       else if (nextElem s).accPh = 16777216 then some .ph
       else if (nextElem s).accEf = 16777216 then some .ef
       else if sefCountLimit s ≤ (nextElem s).sefCount ∧ s.sefTrips = true then some .sef
       else none)

/-! ### FIN (chapter 3) -/

/-- R42, R43: four equal 1 ms samples confirm a STATIC level, two equal period samples a CYCLIC one. -/
def Obligations.InputsAreConfirmed : Prop :=
  (∀ (x : InputState) (level : Bool), x.confirmed = some (!level) → x.run = 0 →
    (x.sampleStatic level).confirmed = some (!level) ∧
    ((x.sampleStatic level).sampleStatic level).confirmed = some (!level) ∧
    (((x.sampleStatic level).sampleStatic level).sampleStatic level).confirmed = some (!level) ∧
    ((((x.sampleStatic level).sampleStatic level).sampleStatic level).sampleStatic level).confirmed = some level) ∧
  (∀ (x : InputState) (level : Bool), x.confirmed = some level → x.sampleStatic level = { x with run := 0 }) ∧
  (∀ level : Bool,
    ((((InputState.reset.sampleStatic level).sampleStatic level).sampleStatic level).sampleStatic level).confirmed =
      some level ∧
    (((InputState.reset.sampleStatic level).sampleStatic level).sampleStatic level).confirmed = none) ∧
  (∀ (x : InputState) (level : Bool), x.confirmed = none →
    (x.prev ≠ some level → x.sampleStatic level = { x with run := 1, prev := some level }) ∧
    (x.prev = some level → x.run < 3 → x.sampleStatic level = { x with run := x.run + 1 }) ∧
    (x.prev = some level → 3 ≤ x.run →
      (x.sampleStatic level).confirmed = some level ∧ (x.sampleStatic level).run = 0)) ∧
  (∀ (x : InputState) (level : Bool), x.confirmed = some (!level) →
    (x.pend = none → x.sampleCyclic level = { x with pend := some level }) ∧
    (x.pend = some level → (x.sampleCyclic level).confirmed = some level ∧ (x.sampleCyclic level).pend = none)) ∧
  (∀ (x : InputState) (level : Bool), x.confirmed = some level → x.sampleCyclic level = { x with pend := none }) ∧
  (∀ (x : InputState) (level : Bool), x.confirmed = none →
    (x.pend = some level → (x.sampleCyclic level).confirmed = some level ∧ (x.sampleCyclic level).pend = none) ∧
    (x.pend ≠ some level → x.sampleCyclic level = { x with pend := some level }))

/-- R41 to R43, R45 to R50, R52: a sample row takes the samples of its instant, together with those of the other mode
that are due then; what is confirmed anew sets the position and the demand, once, and is handed to SEQ, HUNT, PROF, BLK
and the host. A row whose samples the other row took along at that instant gives nothing but the levels.
That INPUT_CHANGE stands before what its FIELD record makes BLK, SEQ and PROF queue (log 6), and the order of the inputs
(log 14), are the model's.
The model's choices here: log 1, 3, 5, 6, 12, 14, 30. -/
def Obligations.InputSamplesAreTaken : Prop :=
  ∀ (s u : State) (levels : Byte), s.resetHeld = false → s.fin.inputs.length = 8 →
    (∀ (c : Instr) (row : SampleRow),
      (c = .staticSample levels ∧ row = .static) ∨ (c = .cyclicSample levels ∧ row = .cyclic) →
      s.fin.sense.along = some (row, s.now) → ∀ wet : Bool, (wet = true ↔ WetHigh s) → exec c s = .next { s with
        fin := { s.fin with sense := { s.fin.sense with pins := levels, along := none }, wet := wet } }) ∧
    (∀ cyclic : Bool, s.fin.sense.along ≠ some (.static, s.now) → u = s.arriveAt s.fin.sense.staticAt →
      (cyclic = true ↔ ∃ end_ : Ms, s.fin.sense.pulseEndAt = some end_ ∧ reached u.now end_ = true) →
      ∃ t : State, exec (.staticSample levels) s = .next t ∧
        SamplesTaken true cyclic levels (if cyclic = true then some (.cyclic, u.now) else none) u t ∧
        (∀ n : Nat, n < 8 → SensedStatic s n → t.input n =
          ((s.fin.inputs.getD n InputState.reset).sampleStatic (levels.getLsbD n)).confirmed) ∧
        (cyclic = false → ∀ n : Nat, n < 8 → ¬ SensedStatic s n → t.input n = s.input n) ∧
        ((∀ n : Nat, n < 8 → t.input n = s.input n) → t.fin.position = s.fin.position ∧ t.cport = s.cport ∧
          EventFrame [.meas, .elem, .sequencer, .blk, .prof, .link, .tripco, .hunt] u t) ∧
        EventFrame [.meas, .elem, .link] u t) ∧
    (∀ static : Bool, s.fin.sense.along ≠ some (.cyclic, s.now) →
      u = s.arriveAt (s.fin.sense.pulseEndAt.getD s.now) →
      (static = true ↔ reached u.now s.fin.sense.staticAt = true) →
      ∃ t : State, exec (.cyclicSample levels) s = .next t ∧
        SamplesTaken static true levels (if static = true then some (.static, u.now) else none) u t ∧
        (∀ n : Nat, n < 8 → ¬ SensedStatic s n → t.input n =
          ((s.fin.inputs.getD n InputState.reset).sampleCyclic (levels.getLsbD n)).confirmed) ∧
        (static = false → ∀ n : Nat, n < 8 → SensedStatic s n → t.input n = s.input n) ∧
        ((∀ n : Nat, n < 8 → t.input n = s.input n) → t.fin.position = s.fin.position ∧ t.cport = s.cport ∧
          EventFrame [.meas, .elem, .sequencer, .blk, .prof, .link, .tripco, .hunt] u t) ∧
        EventFrame [.meas, .elem, .link] u t)

/-- R41, R47: a sense period starts with a pulse of 2 ms; a discrepancy that outlasts DISC_TIME makes the position
UNKNOWN and queues a BREAKER_DISCREPANCY notice.
The model's choices here: log 1, 3. -/
def Obligations.SensePeriodsAndDiscrepancy : Prop :=
  ∀ (s : State) (at_ : Ms), s.resetHeld = false →
    (s.fin.nextPeriodAt = some at_ → ∃ t : State, exec .sensePeriodStart s = .next t ∧
      t.fin = { s.fin with
        nextPeriodAt := some (after at_ s.sensePeriod),
        sense := { s.fin.sense with pulseEndAt := some (after at_ 2) }, wet := true } ∧
      s.sensePeriod = (if s.isRun = true then s.image.sensePeriod else if s.image.sensePeriod = 50 then 50 else 200) ∧
      t.cport = s.cport ∧ t.handovers = s.handovers ∧
      EventFrame [.meas, .elem, .sequencer, .blk, .prof, .link, .tripco, .hunt] (s.arriveAt at_) t) ∧
    (s.fin.discAt = some at_ → ∃ t : State, exec .discrepancyTimeout s = .next t ∧
      t.fin.position = .unknown ∧ t.fin.discAt = none ∧ t.fin.discrepancy = s.fin.discrepancy ∧
      (∀ n : Nat, t.input n = s.input n) ∧
      Queued [note .breakerDiscrepancy s.address
        (half ((if s.inputSet 0 then 2 else 0) + (if s.inputSet 1 then 1 else 0)))
        (half (positionCode s.fin.position)) (s.arriveAt at_)] s t ∧
      t.handovers = s.handovers ∧
      EventFrame [.meas, .elem, .sequencer, .blk, .prof, .link, .tripco, .hunt] (s.arriveAt at_) t)

/-! ### SEQ (chapter 4) -/

/-- R58, R59, R60, R55, R56, R71, R79, R80: a protective trip request that is taken with the breaker not open, and one
that is discarded. That BLOCK_OVERFLOW for the SEF record stands before TRIP is the model's.
The model's choices here: log 1, 6, 26. -/
def Obligations.ProtectiveTripRequests : Prop :=
  (∀ (c : ProtCause) (s : State) (shot : Nat), s.resetHeld = false → takesRequest s → s.fin.position ≠ .opened →
     shot = min (s.sequencer.shot + 1) 4 →
     ∃ t p : State, exec (.tripRequest c) s = .next t ∧
       TripBegins c shot { s with handovers := s.handovers.erase (.tripRequest c) } p ∧
       MovesTo .tripping (some (after s.now s.image.tripFail)) [tripNote (protCause c) shot s]
         [tripFrame (protCause c) shot s] p t ∧
       t.sequencer.shot = shot ∧ t.sequencer.lastCause = protCause c ∧
       (t.sequencer.noReclose = true ↔ finalTrip c s) ∧ t.sequencer.manualClose = s.sequencer.manualClose ∧
       (lockedTrip c s → hasKey (sefKey s) t.blk.table = true ∨ t.blk.overflow = true) ∧
       (¬ lockedTrip c s → t.blk = s.blk) ∧ t.fin.forced = true ∧ sameContacts s t ∧
       t.tripco.records = s.tripco.records ∧ EventFrame [.meas, .elem, .prof, .link, .hunt] s t) ∧
  (∀ (c : ProtCause) (s : State), s.resetHeld = false → ¬ takesRequest s →
     exec (.tripRequest c) s = .next { s with handovers := s.handovers.erase (.tripRequest c) })

/-- R59 to R62, R79, R80: a protective trip that finds the breaker open goes on at once, to LOCKOUT or to DEAD_TIME. That
BLOCK_OVERFLOW for the SEF record stands before TRIP, that FIN and TRIPCO learn of the entry to TRIPPING, that PROF's
notice of a relax that waited for rest stands after SEQ's, and that such a trip in CLOSING ends at once, is the model's.
The model's choices here: log 1, 6, 26, 30, 39. -/
def Obligations.TripMeetsAnOpenBreaker : Prop :=
  ∀ (c : ProtCause) (s : State) (shot : Nat), s.resetHeld = false → takesRequest s → s.fin.position = .opened →
    shot = min (s.sequencer.shot + 1) 4 →
    ∃ t p a : State, exec (.tripRequest c) s = .next t ∧
      TripBegins c shot { s with handovers := s.handovers.erase (.tripRequest c) } p ∧
      Transition .tripping (some (after s.now s.image.tripFail)) [tripNote (protCause c) shot s]
        [tripFrame (protCause c) shot s] p a ∧
      (finalTrip c s →
        MovesTo .lockout none [stateNote .lockout .noReclose s] [stateFrame .lockout shot s] a t) ∧
      (¬ finalTrip c s → s.shotLimit < shot →
        MovesTo .lockout none [stateNote .lockout .shotLimit s] [stateFrame .lockout shot s] a t) ∧
      (¬ finalTrip c s → shot ≤ s.shotLimit →
        MovesTo .deadTime (some (after s.now (s.image.deadTime shot))) [] [] a t) ∧
      t.sequencer.shot = shot ∧ t.sequencer.lastCause = protCause c ∧
      (t.sequencer.noReclose = true ↔ finalTrip c s) ∧ t.sequencer.manualClose = s.sequencer.manualClose ∧
      (lockedTrip c s → hasKey (sefKey s) t.blk.table = true ∨ t.blk.overflow = true) ∧
      (¬ lockedTrip c s → t.blk = s.blk) ∧ sameContacts s t ∧ t.tripco.records = s.tripco.records ∧
      (noRelaxDue s → t.prof = s.prof) ∧ EventFrame [.meas, .elem, .link, .hunt] s t

/-- R62, R67, R69, R109: what SEQ makes of a change of the breaker position, in each of its states. That the notice of a
relax that waited for rest stands after SEQ's is the model's.
The model's choices here: log 1, 6, 30. -/
def Obligations.SequencerTakesPositionChanges : Prop :=
  ∀ s t : State, seqPosition s = t →
    (s.sequencer.st = .tripping → s.fin.position = .opened →
      (s.sequencer.noReclose = true → MovesTo .lockout none [stateNote .lockout .noReclose s]
        [stateFrame .lockout s.sequencer.shot s] s t) ∧
      (s.sequencer.noReclose = false → s.shotLimit < s.sequencer.shot →
        MovesTo .lockout none [stateNote .lockout .shotLimit s] [stateFrame .lockout s.sequencer.shot s] s t) ∧
      (s.sequencer.noReclose = false → s.sequencer.shot ≤ s.shotLimit →
        MovesTo .deadTime (some (after s.now (s.image.deadTime s.sequencer.shot))) [] [] s t)) ∧
    (s.sequencer.st = .closing → s.fin.position = .closed →
      MovesTo .reclaim (some (after s.now s.image.reclaim)) [stateNote .reclaim .closeDone s]
        [stateFrame .reclaim s.sequencer.shot s] s t) ∧
    (s.sequencer.st = .closedRest ∨ s.sequencer.st = .reclaim → s.fin.position = .opened →
      MovesTo .opened none
        [note .externalOpen s.address (half (seqStateCode s.sequencer.st)) (half s.sequencer.shot) s,
         stateNote .opened .externalOpen s] [stateFrame .opened s.sequencer.shot s] s t) ∧
    (s.sequencer.st = .lockout ∨ s.sequencer.st = .opened ∨ s.sequencer.st = .deadTime ∨
        s.sequencer.st = .deadHold → s.fin.position = .closed →
      MovesTo .reclaim (some (after s.now s.image.reclaim)) [stateNote .reclaim .externalClose s]
        [stateFrame .reclaim 0 s] { s with sequencer := { s.sequencer with shot := 0, manualClose := true } } t) ∧
    (s.fin.position = .unknown ∨ s.sequencer.st = .dormant ∨ s.sequencer.st = .failed → t = s) ∧
    (s.fin.position = .closed → s.sequencer.st = .closedRest ∨ s.sequencer.st = .tripping ∨
      s.sequencer.st = .reclaim → t = s) ∧
    (s.fin.position = .opened → s.sequencer.st = .deadTime ∨ s.sequencer.st = .deadHold ∨
      s.sequencer.st = .closing ∨ s.sequencer.st = .lockout ∨ s.sequencer.st = .opened → t = s) ∧
    sameContacts s t ∧ t.tripco.records = s.tripco.records ∧ (noRelaxDue s → t.prof = s.prof) ∧
    EventFrame [.meas, .elem, .blk, .link, .hunt] s t

/-- R63, R67, R71, R109: a coil operation that outlasts its limit leads to FAILED, where PROF completes a relax that
waited for rest. That PROF's notice stands after SEQ's is the model's.
The model's choices here: log 1, 3, 6, 30. -/
def Obligations.CoilOperationsFail : Prop :=
  ∀ (s u : State) (at_ : Ms), s.resetHeld = false → s.sequencer.timer = some at_ → u = s.arriveAt at_ →
    (s.sequencer.st = .tripping → ∃ t : State, exec .tripFailExpiry s = .next t ∧
      MovesTo .failed none
        [note .breakerFail u.address 1 (half (causeCode s.sequencer.lastCause)) u, stateNote .failed .tripFail u]
        [.breakerFail .trip, stateFrame .failed s.sequencer.shot u] u t ∧
      t.fin.healthy = false ∧ (noRelaxDue s → t.prof = s.prof) ∧
      EventFrame [.meas, .elem, .blk, .link, .hunt] u t) ∧
    (s.sequencer.st = .closing → ∃ t : State, exec .closeFailExpiry s = .next t ∧
      MovesTo .failed none
        [note .breakerFail u.address 2 (if s.sequencer.manualClose = true then 1 else 0) u,
         stateNote .failed .closeFail u]
        [.breakerFail .close, stateFrame .failed s.sequencer.shot u] u t ∧
      t.fin.healthy = false ∧ (noRelaxDue s → t.prof = s.prof) ∧
      EventFrame [.meas, .elem, .blk, .link, .hunt] u t)

/-- R64, R65, R68, R61, R80, R109: at the end of a dead time the block table decides: LOCKOUT, DEAD_HOLD or CLOSING; the
hold limit leads to LOCKOUT, the reclaim interval back to CLOSED_REST. At rest PROF completes a relax that waited for it;
that its notice stands after SEQ's is the model's.
The model's choices here: log 1, 3, 6, 30. -/
def Obligations.SequenceTimersExpire : Prop :=
  ∀ (s u : State) (at_ : Ms), s.resetHeld = false → s.sequencer.timer = some at_ → u = s.arriveAt at_ →
    (s.sequencer.st = .deadTime → ∃ t : State, exec .deadTimeExpiry s = .next t ∧
      (tableLocks s → MovesTo .lockout none [stateNote .lockout .blockLock u]
        [stateFrame .lockout s.sequencer.shot u] u t) ∧
      (¬ tableLocks s → s.blk.table ≠ [] → MovesTo .deadHold (some (after u.now s.image.holdMax)) [] [] u t) ∧
      (¬ tableLocks s → s.blk.table = [] → Recloses u t) ∧
      (noRelaxDue s → t.prof = s.prof) ∧ EventFrame [.meas, .elem, .blk, .link, .hunt] u t) ∧
    (s.sequencer.st = .deadHold → ∃ t : State, exec .holdMaxExpiry s = .next t ∧
      MovesTo .lockout none [stateNote .lockout .holdTimeout u] [stateFrame .lockout s.sequencer.shot u] u t ∧
      (noRelaxDue s → t.prof = s.prof) ∧ EventFrame [.meas, .elem, .blk, .link, .hunt] u t) ∧
    (s.sequencer.st = .reclaim → ∃ t : State, exec .reclaimExpiry s = .next t ∧
      MovesTo .closedRest none [stateNote .closedRest .reclaimDone u] [stateFrame .closedRest 0 u]
        { u with sequencer := { s.sequencer with shot := 0, manualClose := false } } t ∧
      (noRelaxDue s → t.prof = s.prof) ∧ EventFrame [.meas, .elem, .blk, .link, .hunt] u t)

/-! ### BLK (chapter 5) -/

/-- R84, R79, R80, R83: TAG; a tag that finds a full table is refused, and is no record. That BLOCK_OVERFLOW stands
before what SEQ and PROF queue, and what of that the status byte shows, is the model's.
The model's choices here: log 1, 5, 6, 9, 30, 40. -/
def Obligations.TagPlacesARecord : Prop :=
  ∀ (s : State) (n d : Half), s.resetHeld = false →
    (s.isRun = false → OnlyAnswers (.tag n d) .refusedState [] s) ∧
    (s.isRun = true → ∃ t u w : State, exec (.tag n d) s = .next t ∧
      Stored (tagKey s n) .lock (if d = 0 then none else some (after s.now (d.toNat * 1000))) s u ∧
      StoreTaken (tagKey s n) s u w ∧
      (¬ noRoom (tagKey s n) s → AnsweredAs .accepted [] u w t) ∧
      (noRoom (tagKey s n) s → AnsweredAs .refusedFull [] u w t) ∧
      t.blk = u.blk ∧ Frame [.meas, .elem, .link, .hunt] s t)

/-- R81, R82, R83, R85, R86: UNTAG, UNBLOCK and the expiry of a record. That PROF's notice of a relax that waited for
rest stands after SEQ's, and what of the two the status byte shows, is the model's.
The model's choices here: log 1, 3, 5, 6, 9, 30, 40. -/
def Obligations.RecordsLeaveTheTable : Prop :=
  (∀ s : State, s.resetHeld = false →
     (s.isRun = false → (∀ n : Half, OnlyAnswers (.untag n) .refusedState [] s) ∧
       ∀ (source origin : Byte) (n : Half), OnlyAnswers (.unblock source origin n) .refusedState [] s) ∧
     (s.isRun = true → ∀ n : Half,
       (hasKey (tagKey s n) s.blk.table = true → Removes (.untag n) (tagKey s n) s) ∧
       (hasKey (tagKey s n) s.blk.table = false → OnlyAnswers (.untag n) .notFound [] s)) ∧
     (s.isRun = true → ∀ (source origin : Byte) (n : Half),
       (source.toNat ≠ 1 ∧ source.toNat ≠ 3 ∨ origin.toNat < 1 ∨ 62 < origin.toNat →
         OnlyAnswers (.unblock source origin n) .refusedRange [] s) ∧
       (∀ src : BlockSource, (source.toNat = 1 ∧ src = .tag) ∨ (source.toNat = 3 ∧ src = .watch) →
         1 ≤ origin.toNat → origin.toNat ≤ 62 →
         (hasKey { source := src, origin := origin, tag := n } s.blk.table = true →
           Removes (.unblock source origin n) { source := src, origin := origin, tag := n } s) ∧
         (hasKey { source := src, origin := origin, tag := n } s.blk.table = false →
           OnlyAnswers (.unblock source origin n) .notFound [] s)))) ∧
  (∀ (k : BlockKey) (s u : State) (at_ : Ms), s.resetHeld = false →
     ((∀ r ∈ s.blk.table, r.key = k → r.expiry = none) → exec (.blockRecordExpiry k) s = .next s) ∧
     (Safety.BlockInv s → (∃ r ∈ s.blk.table, r.key = k ∧ r.expiry = some at_) → u = s.arriveAt at_ →
       ∃ t : State, exec (.blockRecordExpiry k) s = .next t ∧
         ChangeTaken { u with blk := { s.blk with table := without k s.blk.table } } t ∧
         EventFrame [.meas, .elem, .link, .hunt] u t))

/-- R87, R83: CLEAR OVERFLOW; SEQ takes the flag that is cleared. That PROF's notice of a relax that waited for rest
stands after SEQ's, and what of the two the status byte shows, is the model's.
The model's choices here: log 1, 5, 6, 9, 30, 40. -/
def Obligations.ClearOverflowClearsTheFlag : Prop :=
  ∀ s : State, s.resetHeld = false →
    (s.isRun = false → OnlyAnswers .clearOverflow .refusedState [] s) ∧
    (s.isRun = true → 16 ≤ s.blk.table.length → OnlyAnswers .clearOverflow .refusedFull [] s) ∧
    (s.isRun = true → s.blk.table.length < 16 → s.blk.overflow = false →
      OnlyAnswers .clearOverflow .accepted [] s) ∧
    (s.isRun = true → s.blk.table.length < 16 → s.blk.overflow = true →
      ∃ t u w : State, exec .clearOverflow s = .next t ∧ u = { s with blk := { s.blk with overflow := false } } ∧
        ChangeTaken u w ∧ AnsweredAs .accepted [] u w t ∧ Frame [.meas, .elem, .link, .hunt] s t)

/-- R89, R90, R91: BOOK WATCH and UNBOOK WATCH; a kind that is no frame kind is refused too.
The model's choices here: log 1, 9, 23. -/
def Obligations.WatchesAreBooked : Prop :=
  ∀ s : State, s.resetHeld = false →
    (s.isRun = false → (∀ w : WatchOperand, OnlyAnswers (.bookWatch w) .refusedState [] s) ∧
      ∀ station kind substate : Byte, OnlyAnswers (.unbookWatch station kind substate) .refusedState [] s) ∧
    (s.isRun = true → ∀ w : WatchOperand,
      (62 < w.station.toNat ∨ w.station = s.address ∨ ¬ substateFits w ∨ w.kind.toNat = 0 ∨ 9 < w.kind.toNat ∨
        3 < w.action1.toNat ∨ 3 < w.action2.toNat ∨ w.mode.toNat = 0 ∨ 2 < w.mode.toNat ∨
        ((w.action1.toNat = 1 ∨ w.action2.toNat = 1) ∧ w.effect.toNat ≠ 1 ∧ w.effect.toNat ≠ 2) →
          OnlyAnswers (.bookWatch w) .refusedRange [] s) ∧
      (∀ v : Watch, Books w v → passesBooking w s →
        ((∃ x ∈ s.blk.watches, sameWatchKey x v) → ∃ t : State, exec (.bookWatch w) s = .next t ∧
          AnsweredNow .accepted [] t ∧ t.blk.watches.length = s.blk.watches.length ∧
          (∀ i : Nat, ∀ x : Watch, s.blk.watches[i]? = some x →
            (sameWatchKey x v → t.blk.watches[i]? = some v) ∧
            (¬ sameWatchKey x v → t.blk.watches[i]? = some x)) ∧
          t.blk.table = s.blk.table ∧ t.blk.overflow = s.blk.overflow ∧ sameSequence s t ∧ Noticed [] s t ∧
          Frame [.meas, .elem, .link, .hunt] s t) ∧
        ((∀ x ∈ s.blk.watches, ¬ sameWatchKey x v) → s.blk.watches.length < 12 →
          ∃ t : State, exec (.bookWatch w) s = .next t ∧ AnsweredNow .accepted [] t ∧
          t.blk = { s.blk with watches := s.blk.watches ++ [v] } ∧ sameSequence s t ∧ Noticed [] s t ∧
          Frame [.meas, .elem, .link, .hunt] s t) ∧
        ((∀ x ∈ s.blk.watches, ¬ sameWatchKey x v) → 12 ≤ s.blk.watches.length →
          OnlyAnswers (.bookWatch w) .refusedFull [] s))) ∧
    (s.isRun = true → ∀ station kind substate : Byte,
      ((∃ x ∈ s.blk.watches, x.station = station ∧ kindCode x.kind = kind.toNat ∧ x.substate = substate) →
        ∃ t : State, exec (.unbookWatch station kind substate) s = .next t ∧ AnsweredNow .accepted [] t ∧
        t.blk = { s.blk with
          watches := s.blk.watches.filter (fun x => !(decide (x.station = station) &&
            decide (kindCode x.kind = kind.toNat) && decide (x.substate = substate))) } ∧
        sameSequence s t ∧ Noticed [] s t ∧ Frame [.meas, .elem, .link, .hunt] s t) ∧
      ((∀ x ∈ s.blk.watches, ¬ (x.station = station ∧ kindCode x.kind = kind.toNat ∧ x.substate = substate)) →
        OnlyAnswers (.unbookWatch station kind substate) .notFound [] s))

/-- R92 to R96: the watches that fit a frame act one by one in table order, each with its two actions in order, its
notice and its end; where none fits, nothing happens. An intertrip reaches SEQ at once or after all matching of the frame.
That these are its only places (log 37), and that what BLK and SEQ queue for an action stands before WATCH_MATCH (log 6),
is the model's.
The model's choices here: log 1, 5, 6, 25, 30, 37. -/
def Obligations.WatchesActOnFrames : Prop :=
  ∀ (source : Byte) (body : FrameBody) (s u : State), s.resetHeld = false →
    u = { s with handovers := s.handovers.erase (.watchFrameMatch source body) } →
    (∀ w : Watch, w.fits source body = true ↔ (w.station = 0 ∨ w.station = source) ∧ w.kind = bodyKind body ∧
      (w.substate.toNat = 255 ∨ w.substate.toNat = bodySubstate body)) ∧
    (∀ x : StateInfo, body = .owned (.state x) → bodySubstate body = seqStateCode x.st) ∧
    (∀ x : TripInfo, body = .owned (.trip x) → bodySubstate body = causeCode x.cause) ∧
    ((∀ w ∈ s.blk.watches, w.fits source body = false) → exec (.watchFrameMatch source body) s = .next u) ∧
    ∃ t : State, exec (.watchFrameMatch source body) s = .next t ∧
      Chain (WatchActs source body) (s.blk.watches.filter (Watch.fits source body)) u t ∧
      (∀ w : Watch, s.blk.watches.filter (Watch.fits source body) = [w] → Retired w s t) ∧
      EventFrame [.meas, .elem, .link, .hunt] u t

/-! ### PROF (chapter 6) -/

/-- R100, R101, R104, R105, R106, R110, R111, R113, R66, R70, R170, R172: SELECT PROFILE. A raise that locks SEQ out may
put SEQ's notice before or after PROF's; the status byte shows what PROF itself did, and what SEQ made of it or not.
The model's choices here: log 1, 5, 9. -/
def Obligations.SelectProfileSetsThePortDemand : Prop :=
  ∀ (s : State) (n : Byte), s.resetHeld = false →
    (2 < n.toNat → OnlyAnswers (.selectProfile n) .refusedRange [] s) ∧
    (∀ p : Profile, profileCode p = n.toNat →
      ∃ t early w : State, exec (.selectProfile n) s = .next t ∧ DemandsTaken p s.prof.field s.prof.peer s w ∧
        (s.isRun = true → w.prof.effective ≠ s.prof.effective → early = { s with
          prof := w.prof,
          cport := s.cport.queue s.image.attnMask
            (profileNote 1 s.prof.effective w.prof.effective w.prof.port w.prof.field w.prof.peer s) }) ∧
        (s.isRun = false ∨ w.prof.effective = s.prof.effective → early = w) ∧
        AnsweredAs .accepted [] early w t ∧ Frame [.meas, .elem, .blk, .link, .hunt] s t)

/-- R107, R108, R111, R113: the relax timer expires.
The model's choices here: log 1, 3, 30. -/
def Obligations.RelaxTimerExpires : Prop :=
  ∀ (s u : State) (at_ : Ms), s.resetHeld = false → s.prof.relaxAt = some at_ → u = s.arriveAt at_ →
    ∃ t : State, exec .relaxTimerExpiry s = .next t ∧
      (¬ Rests s → t = { u with prof := { s.prof with relax := .due, relaxAt := none } }) ∧
      (Rests s → t.prof = { s.prof with effective := s.prof.target, relax := .none, relaxAt := none } ∧
        Queued [profileNote 2 s.prof.effective s.prof.target s.prof.port s.prof.field s.prof.peer u] u t ∧
        t.handovers = s.handovers ++ [.framePlacement .beaconRequest]) ∧
      EventFrame [.meas, .elem, .fin, .sequencer, .blk, .link, .tripco, .hunt] u t

/-! ### LINK (chapter 7) -/

/-- R118: the receiver takes a byte, or abandons a frame after the idle gap.
The model's choices here: log 1, 11. -/
def Obligations.ReceiverTakesBytes : Prop :=
  ∀ (b : Byte) (stopBit : Bool) (s : State) (set : RxState → State), s.resetHeld = false →
    (∀ x : RxState, set x = { s with link := { s.link with rx := x } }) →
    (s.link.key = true → exec (.rxdByteCompleted b stopBit) s = .next s) ∧
    (s.link.key = false → stopBit = false → exec (.rxdByteCompleted b stopBit) s = .next (set .hunt)) ∧
    (s.link.key = false → stopBit = true →
      (s.link.rx = .hunt →
        exec (.rxdByteCompleted b stopBit) s = .next (set (if b = 0x7E then .sync1 else .hunt))) ∧
      (s.link.rx = .sync1 →
        exec (.rxdByteCompleted b stopBit) s = .next (set (if b = 0x7E then .sync2 else .hunt))) ∧
      (s.link.rx = .sync2 → exec (.rxdByteCompleted b stopBit) s = .next (set
        (if b = 0x7E then .sync2 else if 6 ≤ b.toNat ∧ b.toNat ≤ 16 then .body b.toNat [b] else .hunt))) ∧
      (∀ (n : Nat) (l : List Byte), s.link.rx = .body n l →
        (l.length + 1 < n → exec (.rxdByteCompleted b stopBit) s = .next (set (.body n (l ++ [b])))) ∧
        (n ≤ l.length + 1 → exec (.rxdByteCompleted b stopBit) s = .next
          { set .hunt with handovers := s.handovers ++ [.linkFrameReceived (l ++ [b])] }))) ∧
    exec .receiveGapTimeout s = .next (set .hunt)

/-- R119 to R124, R126, R143: a frame that passes the six checks is written into the entry of its source, which is
created where there is none and takes the place of the longest silent unpinned entry where the table is full; a pinned
neighbour that returns is reported; PROF takes the peer demand, TRIPCO the end of LOST, and the frame goes on. Where the
peer demand stays, PROF places nothing. A table has at most 24 entries, of different addresses (R124). That PEER_STATUS
stands before what PROF and SEQ queue is the model's.
The model's choices here: log 1, 5, 6, 21, 25, 33. -/
def Obligations.LinkFramesAreAccepted : Prop :=
  ∀ (bytes : List Byte) (f : RawFrame) (body : FrameBody) (s u : State), s.resetHeld = false →
    splitFrame bytes = some f → goodFrame f s → f.source ≠ s.address → f.body = some body →
    1 ≤ f.sol.toNat → f.sol.toNat ≤ 63 → ¬ duplicates f s →
    u = { s with handovers := s.handovers.erase (.linkFrameReceived bytes) } →
    (∀ (e : Neighbour) (kept : List Neighbour) (place : Neighbour → List Neighbour),
      (findNeighbour f.source s.link.table = some e ∧
        place = (fun x => s.link.table.map (fun y => if y.address = f.source then x else y)) ∧
        kept = s.link.table.filter (fun y => decide (y.address ≠ f.source))) ∨
      (findNeighbour f.source s.link.table = none ∧
        e = Neighbour.create f.source .other false .fresh s.beaconInterval ∧ place = (fun x => kept ++ [x]) ∧
        ((s.link.table.length < 24 ∧ kept = s.link.table) ∨
         (s.link.table.length = 24 ∧ (s.link.table.map (·.address)).Nodup ∧
          ∃ (old : Neighbour) (before after_ : List Neighbour), s.link.table = before ++ old :: after_ ∧
            old.pinned = false ∧ kept = before ++ after_ ∧
            (∀ y ∈ before, y.pinned = false → silence s.now y < silence s.now old) ∧
            (∀ y ∈ after_, y.pinned = false → silence s.now y ≤ silence s.now old)))) →
      ∃ (t v w : State) (e' : Neighbour), exec (.linkFrameReceived bytes) s = .next t ∧
        (∀ last : Nat, e.lastSol = some last → f.freshStart = false →
          Heard f body (min (e.missed + (f.sol.toNat + 62 - last) % 63) 255) s.now e e') ∧
        (e.lastSol = none ∨ f.freshStart = true → Heard f body e.missed s.now e e') ∧
        v = { u with
          link := { s.link with table := place e' },
          cport := if e.pinned = true ∧ e.status ≠ .fresh then
              s.cport.queue s.image.attnMask (note .peerStatus f.source (pair (nbrStatusCode e.status) 0)
                (pair (relationCode e.relation) e'.missed) s)
            else s.cport } ∧
        (∀ peer : Profile, Safety.IsPeerDemand peer v → DemandsTaken s.prof.port s.prof.field peer v w) ∧
        t = { w with
          tripco := { w.tripco with
            records := if e.pinned = true ∧ e.relation = .down ∧ e.status = .lost then
                w.tripco.records.map (fun r => if r.address = f.source then { r with lost := false } else r)
              else w.tripco.records },
          handovers := w.handovers ++ frameEvents f.source body s } ∧
        findNeighbour f.source t.link.table = some e' ∧
        (∀ a : Byte, a ≠ f.source → findNeighbour a t.link.table = findNeighbour a kept) ∧
        Safety.IsPeerDemand t.prof.peer t ∧
        (∃ placed : List Placement, w.handovers = u.handovers ++ placed.map Instr.framePlacement ∧
          (s.isRun = false → placed = []) ∧
          (Safety.ProfileInv s → Safety.IsPeerDemand s.prof.peer v →
            placed = [] ∧ w.prof = s.prof ∧ w.cport = v.cport)) ∧
        EventFrame [.meas, .elem, .blk, .hunt] s t) ∧
    (findNeighbour f.source s.link.table = none → 24 ≤ s.link.table.length →
      (∀ e ∈ s.link.table, e.pinned = true) → exec (.linkFrameReceived bytes) s = .next u)

/-- R119, R120, R121: a frame that fails a check changes nothing but a clash of addresses, which is reported.
The model's choices here: log 1. -/
def Obligations.LinkFramesAreDiscarded : Prop :=
  ∀ (bytes : List Byte) (s u : State), s.resetHeld = false →
    u = { s with handovers := s.handovers.erase (.linkFrameReceived bytes) } →
    (splitFrame bytes = none → exec (.linkFrameReceived bytes) s = .next u) ∧
    (∀ f : RawFrame, splitFrame bytes = some f →
      (¬ goodFrame f s → exec (.linkFrameReceived bytes) s = .next u) ∧
      (goodFrame f s → f.source ≠ s.address →
        f.body = none ∨ f.sol.toNat < 1 ∨ 63 < f.sol.toNat ∨ duplicates f s →
          exec (.linkFrameReceived bytes) s = .next u) ∧
      (goodFrame f s → f.source = s.address → s.link.lastSent = some f.sol.toNat →
        exec (.linkFrameReceived bytes) s = .next u) ∧
      (goodFrame f s → f.source = s.address → s.link.lastSent ≠ some f.sol.toNat →
        ∃ t : State, exec (.linkFrameReceived bytes) s = .next t ∧
          Queued [note .addressClash s.address (half (f.kindFlags.toNat % 16)) (half f.sol.toNat) s] u t ∧
          t.handovers = u.handovers ∧
          EventFrame [.meas, .elem, .fin, .sequencer, .blk, .prof, .link, .tripco, .hunt] u t))

/-- R126, R103, R143: the quiet and the lost instant of a neighbour entry; the demands are as PROF keeps them at
all times (R101 to R105).
The model's choices here: log 1, 3, 6. -/
def Obligations.NeighboursFallSilent : Prop :=
  ∀ (a : Byte) (e : Neighbour) (at_ : Ms) (s u : State), s.resetHeld = false → Safety.ProfileInv s →
    (s.link.table.map (·.address)).Nodup → e ∈ s.link.table → e.address = a → u = s.arriveAt at_ →
    (e.status = .fresh → e.quietAt = some at_ → ∃ t : State, exec (.neighbourQuietExpiry a) s = .next t ∧
      t.link = { s.link with
        table := s.link.table.map (fun x => if x.address = a then { e with status := .quiet } else x) } ∧
      (e.pinned = true →
        Queued [note .peerStatus a (pair 0 1) (pair (relationCode e.relation) e.missed) u] u t) ∧
      (e.pinned = false → t.cport = s.cport) ∧ t.handovers = s.handovers ∧
      EventFrame [.meas, .elem, .fin, .sequencer, .blk, .prof, .tripco, .hunt] u t) ∧
    (e.status = .quiet → e.lostAt = some at_ → ∃ t : State, exec (.neighbourLostExpiry a) s = .next t ∧
      t.link = { s.link with
        table := s.link.table.map (fun x => if x.address = a then { e with status := .lost } else x) } ∧
      Safety.IsPeerDemand t.prof.peer t ∧
      (s.isRun = true → t.prof.effective = s.prof.effective) ∧
      (s.isRun = true → e.pinned = true →
        Queued [note .peerStatus a (pair 1 2) (pair (relationCode e.relation) e.missed) u] u t) ∧
      (s.isRun = true → e.pinned = false → t.cport = s.cport) ∧
      (e.pinned = true → e.relation = .down →
        t.tripco.records = s.tripco.records.map (fun r => if r.address = a then { r with lost := true } else r)) ∧
      (e.pinned = false ∨ e.relation ≠ .down → t.tripco = s.tripco) ∧
      (∃ v w : State,
        v = { u with
          link := { s.link with
            table := s.link.table.map (fun x => if x.address = a then { e with status := .lost } else x) },
          cport := if e.pinned = true then
              s.cport.queue s.image.attnMask (note .peerStatus a (pair 1 2) (pair (relationCode e.relation) e.missed) u)
            else s.cport } ∧
        (∀ peer : Profile, Safety.IsPeerDemand peer v → DemandsTaken s.prof.port s.prof.field peer v w) ∧
        t = { w with
          tripco := { w.tripco with
            records := if e.pinned = true ∧ e.relation = .down then
                w.tripco.records.map (fun r => if r.address = a then { r with lost := true } else r)
              else w.tripco.records } }) ∧
      t.handovers = s.handovers ∧ EventFrame [.meas, .elem, .fin, .sequencer, .blk, .hunt] u t) ∧
    (e.status ≠ .fresh → exec (.neighbourQuietExpiry a) s = .next s) ∧
    (e.status ≠ .quiet → exec (.neighbourLostExpiry a) s = .next s)

/-- R127, R128, R132: LINK takes a placement in RUN, and discards it in CONFIG; the beacon timer places a BEACON.
The model's choices here: log 1, 3. -/
def Obligations.PlacementsFillTheSlots : Prop :=
  ∀ (p : Placement) (s u : State), s.resetHeld = false →
    u = { s with handovers := s.handovers.erase (.framePlacement p) } →
    (s.isRun = false → exec (.framePlacement p) s = .next u) ∧
    (∀ f : OwnedFrame, p = .owned f → s.isRun = true → exec (.framePlacement p) s = .next
      { u with link := wakened { s.link with slots := s.link.slots.put f } s.now }) ∧
    (p = .beaconRequest → s.isRun = true → exec (.framePlacement p) s = .next
      { u with
        link := wakened { s.link with
          slots := { s.link.slots with beacon := true },
          beaconAt := some (after s.now (s.image.beaconInterval * 1000)) } s.now }) ∧
    (∀ (at_ : Ms) (v : State), s.link.beaconAt = some at_ → v = s.arriveAt at_ →
      exec .beaconTimerExpiry s = .next
        { v with
          link := wakened { s.link with
            slots := { s.link.slots with beacon := true },
            beaconAt := some (after v.now (s.image.beaconInterval * 1000)) } v.now })

/-- R116, R127, R130: a frame fills the slot of its kind, RESTRAIN and RELEASE sharing one, and the occupied slot of
the highest priority goes out first. -/
def Obligations.SlotsFollowPriority : Prop :=
  ∀ x : Slots,
    (∀ op, x.put (.breakerFail op) = { x with breakerFail := some op }) ∧
    (∀ t, x.put (.trip t) = { x with trip := some t }) ∧
    (∀ r, x.put (.restrain r) = { x with restraint := some (.restrain r) }) ∧
    x.put .release = { x with restraint := some .release } ∧
    (∀ st, x.put (.state st) = { x with state := some st }) ∧
    (∀ n, x.put (.huntCall n) = { x with huntCall := some n }) ∧
    (∀ r, x.put (.huntReport r) = { x with huntReport := some r }) ∧
    (∀ v, x.put (.huntVerdict v) = { x with huntVerdict := some v }) ∧
    (∀ op, x.breakerFail = some op →
      x.takeFirst = some (.owned (.breakerFail op), { x with breakerFail := none })) ∧
    (x.breakerFail = none →
      (∀ t, x.trip = some t → x.takeFirst = some (.owned (.trip t), { x with trip := none })) ∧
      (x.trip = none →
        (∀ r, x.restraint = some (.restrain r) →
          x.takeFirst = some (.owned (.restrain r), { x with restraint := none })) ∧
        (x.restraint = some .release → x.takeFirst = some (.owned .release, { x with restraint := none })) ∧
        (x.restraint = none →
          (∀ st, x.state = some st → x.takeFirst = some (.owned (.state st), { x with state := none })) ∧
          (x.state = none →
            (∀ n, x.huntCall = some n →
              x.takeFirst = some (.owned (.huntCall n), { x with huntCall := none })) ∧
            (x.huntCall = none →
              (∀ r, x.huntReport = some r →
                x.takeFirst = some (.owned (.huntReport r), { x with huntReport := none })) ∧
              (x.huntReport = none →
                (∀ v, x.huntVerdict = some v →
                  x.takeFirst = some (.owned (.huntVerdict v), { x with huntVerdict := none })) ∧
                (x.huntVerdict = none →
                  (x.beacon = true → x.takeFirst = some (.beaconRequest, { x with beacon := false })) ∧
                  (x.beacon = false → x.takeFirst = none))))))))

/-- R128, R129, R130: carrier detect, the quiet of DEFER, the draw and the wait of BACKOFF, and the key-up.
The model's choices here: log 1, 3, 24. -/
def Obligations.TransmitterMakesAnAttempt : Prop :=
  ∀ (s u : State) (at_ : Ms) (draw : Half), s.resetHeld = false → s.link.txTimer = some at_ → u = s.arriveAt at_ →
    draw = (if s.link.lfsr.getLsbD 0 = true then (s.link.lfsr >>> 1) ^^^ 0xB400#16 else s.link.lfsr >>> 1) →
    (s.link.tx = .defer → draw.toNat % 8 ≠ 0 → exec .deferQuietExpiry s = .next
      { u with
        link := { s.link with
          lfsr := draw, tx := .backoff, txTimer := some (after u.now (4 * (draw.toNat % 8))) } }) ∧
    (s.link.tx = .defer → draw.toNat % 8 = 0 → ∃ t : State, exec .deferQuietExpiry s = .next t ∧
      exec .backoffExpiry
        { u with link := { s.link with lfsr := draw, tx := .backoff, txTimer := some u.now } } = .next t) ∧
    (s.link.tx = .backoff → s.link.cd = true → exec .backoffExpiry s = .next
      { u with link := { s.link with tx := .defer, txTimer := none } }) ∧
    (∀ (p : Placement) (rest : Slots), s.link.tx = .backoff → s.link.cd = false →
      s.link.slots.takeFirst = some (p, rest) → ∃ t : State, exec .backoffExpiry s = .next t ∧
        KeyedUp p rest u t ∧ t.link.lfsr = s.link.lfsr ∧ sameStation s t ∧ LinkFrame u t) ∧
    (s.link.tx = .keyup → exec .keyupExpiry s = .next
      { u with
        link := { s.link with tx := .sending, txTimer := none, txd := s.link.sending.map (·.bytes) } })

/-- R128, R131: carrier detect, the end of a send, and the end of a key-down.
The model's choices here: log 3, 11. -/
def Obligations.CarrierDetectAndTheEndOfASend : Prop :=
  (∀ (busy : Bool) (s : State), s.resetHeld = false →
     (busy = s.link.cd → exec (.carrierDetectChange busy) s = .next s) ∧
     (busy ≠ s.link.cd → s.link.tx ≠ .defer →
       exec (.carrierDetectChange busy) s = .next { s with link := { s.link with cd := busy } }) ∧
     (busy ≠ s.link.cd → s.link.tx = .defer → exec (.carrierDetectChange busy) s = .next
       { s with
         link := { s.link with cd := busy, txTimer := if busy = true then none else some (after s.now 3) } })) ∧
  (∀ s : State, s.resetHeld = false →
     (∀ f : FixedFrame, s.link.tx = .sending → s.link.sending = some f → exec .sendComplete s = .next
       { s with
         link := { s.link with
           tx := .keydown, txTimer := some (after s.now 2), txd := none, sending := none, lastSent := some f.sol,
           sol := if 63 ≤ s.link.sol then 1 else s.link.sol + 1, freshStart := false } }) ∧
     (s.link.tx ≠ .sending → exec .sendComplete s = .next s) ∧
     (∀ (at_ : Ms) (u : State), s.link.tx = .keydown → s.link.txTimer = some at_ → u = s.arriveAt at_ →
       (s.link.slots = Slots.empty → exec .keydownExpiry s = .next
         { u with link := { s.link with key := false, tx := .idle, txTimer := none } }) ∧
       (s.link.slots ≠ Slots.empty → exec .keydownExpiry s = .next
         { u with
           link := { s.link with
             key := false, tx := .defer,
             txTimer := if s.link.cd = true then none else some (after u.now 3) } })))

/-- R116 to R118, 11.3: the bytes of a frame, byte by byte, and that the bytes a station sends are the frame another
station of the feeder reads. -/
def Obligations.FramesAreReadBack : Prop :=
  [.breakerFail, .trip, .restrain, .release, .state, .huntCall, .huntReport, .huntVerdict, .beacon].map kindCode =
    List.range' 1 9 ∧
  PayloadsLaidOut ∧ CodesOfRecords ∧
  (∀ (feeder crc : Half) (source : Byte) (fresh : Bool) (sol : Nat) (body : FrameBody) (checked : List Byte),
    checked = [byteOf (6 + (bodyPayload body).length), source,
      byteOf (kindCode (bodyKind body) + bitIf (fresh = true) 7), byteOf sol] ++ bodyPayload body →
    crc = ~~~ crcByBits 0x1021#16 (bitsOf checked) feeder →
    frameBytes feeder source fresh sol body =
      [0x7E, 0x7E] ++ checked ++ [byteOf (crc.toNat / 256), byteOf crc.toNat]) ∧
  ∀ (feeder : Half) (source : Byte) (fresh : Bool) (sol : Nat) (body : FrameBody), body.wf = true → sol < 256 →
    ∃ (collected : List Byte) (f : RawFrame),
      receiveAll (frameBytes feeder source fresh sol body) .hunt = (.hunt, [collected]) ∧
      splitFrame collected = some f ∧ f.crcGood feeder = true ∧ f.source = source ∧ f.freshStart = fresh ∧
      f.sol.toNat = sol ∧ f.body = some body ∧
      collected.length = 6 + (bodyPayload body).length ∧ collected.length ≤ 16

/-! ### TRIPCO (chapter 8) -/

/-- R137 to R141: what each frame of a downstream neighbour does to its record; a frame of another station does
nothing.
The model's choices here: log 1, 22. -/
def Obligations.RestraintRecordsFollowFrames : Prop :=
  ∀ (a : Byte) (s : State) (at_ : Instr → State) (map : (Restraint → Restraint) → State → State),
    s.resetHeld = false → (∀ c, at_ c = { s with handovers := s.handovers.erase c }) →
    (∀ g t, map g t = { t with
      tripco := { t.tripco with records := t.tripco.records.map (fun r => if r.address = a then g r else r) } }) →
    (¬ downstreamOf a s →
      (∀ r, exec (.restrainReceived a r) s = .next (at_ (.restrainReceived a r))) ∧
      exec (.releaseReceived a) s = .next (at_ (.releaseReceived a)) ∧
      (∀ x, exec (.stateFrameReceived a x) s = .next (at_ (.stateFrameReceived a x))) ∧
      (∀ t, exec (.tripFrameReceived a t) s = .next (at_ (.tripFrameReceived a t))) ∧
      ∀ op, exec (.breakerFailReceived a op) s = .next (at_ (.breakerFailReceived a op))) ∧
    (downstreamOf a s →
      (∀ (r : RestrainInfo) (g : Restraint → Restraint) (hold : Ms), hold = after s.now s.image.restraintHold →
        (∀ x : Restraint,
          (x.held = false → g x = { x with held := true, tripped := false, expiry := some hold }) ∧
          (x.held = true → x.tripped = false → g x = { x with expiry := some hold }) ∧
          (∀ old : Ms, x.held = true → x.tripped = true → x.expiry = some old →
            g x = { x with expiry := some (if reached old hold = true then old else hold) }) ∧
          (x.held = true → x.tripped = true → x.expiry = none → g x = { x with expiry := some hold })) →
        exec (.restrainReceived a r) s = .next (map g (at_ (.restrainReceived a r)))) ∧
      exec (.releaseReceived a) s = .next
        (map (fun x => { x with held := false, tripped := false, expiry := none }) (at_ (.releaseReceived a))) ∧
      (∀ x : StateInfo,
        (x.pos = .opened → exec (.stateFrameReceived a x) s = .next
          (map (fun x => { x with held := false, tripped := false, expiry := none })
            (at_ (.stateFrameReceived a x)))) ∧
        (x.pos ≠ .opened → exec (.stateFrameReceived a x) s = .next (at_ (.stateFrameReceived a x)))) ∧
      (∀ t : TripInfo, exec (.tripFrameReceived a t) s = .next
        (map (fun x => { x with held := true, tripped := true, expiry := some (after s.now (t.fail10 * 10 + 40)) })
          (at_ (.tripFrameReceived a t)))) ∧
      (∀ op : FailedOp, exec (.breakerFailReceived a op) s = .next
        { map (fun x => { x with held := false, tripped := false, expiry := none })
            (at_ (.breakerFailReceived a op)) with
          elem := { s.elem with waiver := true } }))

/-- R142, R144 to R147: a held record expires; the refresh timer places a RESTRAIN while MEAS is FRESH; when an episode of
restraint begins, goes on and ends.
The model's choices here: log 1, 3. -/
def Obligations.RestraintEpisodesAndTimers : Prop :=
  (∀ (s u : State) (at_ : Ms), s.resetHeld = false → u = s.arriveAt at_ →
     (∀ a : Byte, (∀ r ∈ s.tripco.records, r.address = a → r.held = false) →
       exec (.restraintExpiry a) s = .next s) ∧
     (∀ (a : Byte) (r : Restraint), s.tripco.records.find? (fun r => (r.address == a) && r.held) = some r →
       r.expiry = some at_ → exec (.restraintExpiry a) s = .next
         { u with
           tripco := { s.tripco with
             records := s.tripco.records.map (fun x =>
               if x.address = a then { x with held := false, tripped := false, expiry := none } else x) } }) ∧
     (s.tripco.refreshAt = some at_ → s.meas.status = .fresh → exec .refreshTimerExpiry s = .next
       { u with
         tripco := { s.tripco with refreshAt := some (after u.now 100) },
         handovers := s.handovers ++ placements
           [.restrain { ph := s.elem.pickedPh, ef := s.elem.pickedEf, phh := s.elem.pickedPhh,
                        tripNo := s.sequencer.shot + 1 }] }) ∧
     (s.tripco.refreshAt = some at_ → s.meas.status = .stale → exec .refreshTimerExpiry s = .next
       { u with tripco := { s.tripco with refreshAt := some (after u.now 100) } })) ∧
  (∀ (s t : State) (condition : Prop), tripcoReview s = t →
     (condition ↔ s.elem.summary = true ∧
       (s.sequencer.st = .closedRest ∨ s.sequencer.st = .reclaim ∨ s.sequencer.st = .tripping)) →
     (condition → s.tripco.restraining = false → t = { s with
       tripco := { s.tripco with
         restraining := true, tripTaken := decide (s.sequencer.st = .tripping),
         refreshAt := some (after s.now 100) },
       handovers := s.handovers ++ placements
         [.restrain { ph := s.elem.pickedPh, ef := s.elem.pickedEf, phh := s.elem.pickedPhh,
                      tripNo := s.sequencer.shot + 1 }] }) ∧
     (condition → s.tripco.restraining = true → t = { s with
       tripco := { s.tripco with tripTaken := s.tripco.tripTaken || decide (s.sequencer.st = .tripping) } }) ∧
     (¬ condition → s.tripco.restraining = true → t = { s with
       tripco := { s.tripco with restraining := false, tripTaken := false, refreshAt := none },
       handovers := s.handovers ++ placements (if s.tripco.tripTaken = true then [] else [.release]) }) ∧
     (¬ condition → s.tripco.restraining = false → t = s))

/-! ### HUNT (chapter 9) -/

/-- R150 to R157, R79, R80, R83: a HUNT_CALL and START HUNT. That BLOCK_OVERFLOW for the HUNT record stands before what
SEQ queues in DEAD_HOLD, and what of the two the status byte shows, is the model's.
The model's choices here: log 1, 5, 6, 9, 17, 30, 40. -/
def Obligations.HuntRoundsOpen : Prop :=
  ∀ s : State, s.resetHeld = false →
    (∀ (source n : Byte) (u : State) (round : Round),
      u = { s with handovers := s.handovers.erase (.huntCallReceived source n) } →
      round = { caller := source, seqNo := n } →
      (s.isRun = false ∨ (s.hunt.phase = .idle ∧ s.huntEnable = false) ∨
        (s.hunt.phase = .capture ∧ s.hunt.round = some round) →
          exec (.huntCallReceived source n) s = .next u) ∧
      (s.isRun = true → s.hunt.phase = .capture → s.hunt.round ≠ some round →
        exec (.huntCallReceived source n) s = .next
          { u with hunt := { s.hunt with crossed := min (s.hunt.crossed + 1) 255 } }) ∧
      (s.isRun = true → s.hunt.phase = .collect ∨ s.hunt.phase = .cooldown →
        exec (.huntCallReceived source n) s = .next
          { u with hunt := { s.hunt with ignored := min (s.hunt.ignored + 1) 255 } }) ∧
      (s.isRun = true → s.hunt.phase = .idle → s.huntEnable = true →
        ∃ t v : State, exec (.huntCallReceived source n) s = .next t ∧
          RoundOpened round s t ∧ t.hunt.ownSeq = s.hunt.ownSeq ∧ RoundTaken round (openReports round s) u v t ∧
          EventFrame [.meas, .elem, .link] s t)) ∧
    (s.isRun = false ∨ s.hunt.phase ≠ .idle ∨ s.huntEnable = false →
      OnlyAnswers .startHunt .refusedState [] s) ∧
    (∀ round : Round, round = { caller := s.address, seqNo := s.hunt.ownSeq } →
      s.isRun = true → s.hunt.phase = .idle → s.huntEnable = true →
      ∃ t v w : State, exec .startHunt s = .next t ∧
        RoundOpened round s t ∧ t.hunt.ownSeq = s.hunt.ownSeq + 1 ∧
        RoundTaken round (.huntCall round.seqNo :: openReports round s) s v w ∧ AnsweredAs .accepted [] v w t ∧
        Frame [.meas, .elem, .link] s t)

/-- R160, R161, R165: a HUNT_REPORT and a HUNT_VERDICT, by phase.
The model's choices here: log 1. -/
def Obligations.HuntFramesAreTaken : Prop :=
  ∀ (source : Byte) (s : State), s.resetHeld = false →
    (∀ (r : ReportInfo) (u : State), u = { s with handovers := s.handovers.erase (.huntReportReceived source r) } →
      (s.hunt.phase = .idle ∨ s.hunt.phase = .cooldown → exec (.huntReportReceived source r) s = .next u) ∧
      (∀ (entry : HuntReport) (rel : Relation),
        (findNeighbour source s.link.table = none → rel = .other) →
        (∀ e : Neighbour, findNeighbour source s.link.table = some e → rel = e.relation) →
        entry = { station := source, relation := rel, mag := r.mag, dir := r.dir,
                  isOpen := r.isOpen, incomplete := r.incomplete, round := r.round,
                  crossed := decide (s.hunt.round ≠ some r.round) } →
        s.hunt.phase = .capture ∨ s.hunt.phase = .collect →
        ∃ l : List HuntReport, Inserted entry s.hunt.table l ∧
          exec (.huntReportReceived source r) s = .next { u with hunt := { s.hunt with table := l } })) ∧
    (∀ (round : Round) (u : State),
      u = { s with handovers := s.handovers.erase (.huntVerdictReceived source round) } →
      (s.hunt.phase = .idle → exec (.huntVerdictReceived source round) s = .next u) ∧
      (s.hunt.phase = .capture ∨ s.hunt.phase = .collect →
        exec (.huntVerdictReceived source round) s = .next
          { u with hunt := { s.hunt with heardOwner := some (s.hunt.heardOwner.getD source) } }) ∧
      (s.hunt.phase = .cooldown →
        s.hunt.verdict ≠ .uncertain ∨ (∀ x ∈ s.hunt.table, x.station = source → x.dir ≠ .forward) →
        exec (.huntVerdictReceived source round) s = .next u) ∧
      (∀ own : Round, s.hunt.phase = .cooldown → s.hunt.verdict = .uncertain → s.hunt.round = some own →
        (∃ x ∈ s.hunt.table, x.station = source ∧ x.dir = .forward) →
        ∃ t : State, exec (.huntVerdictReceived source round) s = .next t ∧
          t.hunt = { s.hunt with verdict := .notOwner } ∧ t.elem = { s.elem with deferral := true } ∧
          Queued [note .huntVerdict own.caller (pair own.seqNo.toNat 2)
            (pair source.toNat (min (s.hunt.crossed + s.hunt.ignored) 255)) s] u t ∧
          t.handovers = u.handovers ∧
          EventFrame [.meas, .fin, .sequencer, .blk, .prof, .link, .tripco] s t))

/-- R155 to R157, R159: a capture takes the cycles of MEAS, and ends at the eighth one taken, at the twelfth taken or
lost, or when the breaker opens; R149, R152: five steps with SEF picked up arm a call, where hunting is enabled. The
frames placed stand as hand-overs. That BLOCK_OVERFLOW for the HUNT record stands before what SEQ queues in DEAD_HOLD is
the model's.
The model's choices here: log 1, 6, 17, 30. -/
def Obligations.CapturesTakeCycles : Prop :=
  (∀ (s : State) (round : Round) (c : Capture), s.hunt.phase = .capture → s.hunt.round = some round →
    c.taken = s.hunt.capture.taken + 1 → c.lost = s.hunt.capture.lost →
    c.isSum = s.hunt.capture.isSum + s.meas.last.is →
    c.fwd = s.hunt.capture.fwd + (if s.meas.last.dir = .forward then 1 else 0) →
    c.rev = s.hunt.capture.rev + (if s.meas.last.dir = .reverse then 1 else 0) →
    (s.hunt.excluded = some s.meas.cycleSerial → huntCycle s = s) ∧
    (s.hunt.excluded ≠ some s.meas.cycleSerial →
      (8 ≤ c.taken → CaptureEnds round c
        { mag := c.isSum / 8,
          dir := if 6 ≤ c.fwd then .forward else if 6 ≤ c.rev then .reverse else .undetermined,
          isOpen := false, incomplete := false } s (huntCycle s)) ∧
      (c.taken < 8 → 12 ≤ c.taken + c.lost → CaptureEnds round c
        { mag := c.isSum / c.taken, dir := .undetermined, isOpen := false, incomplete := true } s (huntCycle s)) ∧
      (c.taken + c.lost < 12 → c.taken < 8 → huntCycle s = { s with hunt := { s.hunt with capture := c } }))) ∧
  (∀ (s : State) (round : Round) (c : Capture), s.hunt.phase = .capture → s.hunt.round = some round →
    c = { s.hunt.capture with lost := s.hunt.capture.lost + 1 } → c.taken < 8 →
    (12 ≤ c.taken + c.lost → CaptureEnds round c
      { mag := c.isSum / c.taken, dir := .undetermined, isOpen := false, incomplete := true } s (huntLost s)) ∧
    (c.taken + c.lost < 12 → huntLost s = { s with hunt := { s.hunt with capture := c } })) ∧
  (∀ (s : State) (round : Round), s.hunt.phase = .capture → s.hunt.round = some round →
    (s.fin.position = .opened → CaptureEnds round s.hunt.capture
      { mag := s.hunt.capture.isSum / s.hunt.capture.taken, dir := .undetermined, isOpen := true,
        incomplete := false } s (huntPosition s)) ∧
    (s.fin.position ≠ .opened → huntPosition s = s)) ∧
  (∀ s : State, s.hunt.phase ≠ .capture → huntCycle s = s ∧ huntLost s = s ∧ huntPosition s = s) ∧
  (∀ (s : State) (n : Nat), n = (if s.elem.sefPickup = true then min (s.hunt.arm + 1) 5 else 0) →
    (s.hunt.phase ≠ .idle → huntStep s = { s with hunt := { s.hunt with arm := 0 } }) ∧
    (s.hunt.phase = .idle → n < 5 ∨ s.huntEnable = false →
      huntStep s = { s with hunt := { s.hunt with arm := n } }) ∧
    (s.hunt.phase = .idle → n = 5 → s.huntEnable = true →
      ∀ round : Round, round = { caller := s.address, seqNo := s.hunt.ownSeq } →
        RoundOpened round s (huntStep s) ∧ (huntStep s).hunt.ownSeq = s.hunt.ownSeq + 1 ∧
        (∃ v : State, RoundTaken round (.huntCall round.seqNo :: openReports round s) s v (huntStep s)) ∧
        EventFrame [.meas, .elem, .link] s (huntStep s)))

/-- R158, R159, R162 to R166: the round deadline gives the verdict and acts on it, and the cooldown ends the round. That
what SEQ queues at the removal of the HUNT record in DEAD_HOLD stands before HUNT_VERDICT is the model's; there the
owner's request meets SEQ before the removal, which discards it, or after.
The model's choices here: log 1, 3, 5, 6, 30. -/
def Obligations.HuntRoundsEnd : Prop :=
  ∀ (s u : State) (at_ : Ms), s.resetHeld = false → u = s.arriveAt at_ →
    (∀ (r : OwnReport) (v : Verdict) (round : Round), s.hunt.deadlineAt = some at_ → s.hunt.phase = .collect →
      s.hunt.ownReport = some r → s.hunt.round = some round → VerdictIs r v s →
      ∃ (t w : State) (request : List Instr) (n : Nat), exec .roundDeadlineExpiry s = .next t ∧
        DropsRecord { source := .hunt, origin := round.caller, tag := half round.seqNo.toNat }
          { u with hunt := { s.hunt with verdict := v } } w ∧
        t = { w with
          hunt := { s.hunt with
            verdict := v, deadlineAt := none, cooldownAt := some (after u.now 5000), phase := .cooldown },
          elem := if v = .notOwner then { s.elem with deferral := true } else s.elem,
          cport := w.cport.queue s.image.attnMask
            (note .huntVerdict round.caller (pair round.seqNo.toNat (verdictCode v))
              (pair (if v = .owner then s.address else s.hunt.heardOwner.getD 0).toNat
                (min (s.hunt.crossed + s.hunt.ignored) 255)) u),
          handovers := w.handovers ++ (if v = .owner then placements [.huntVerdict round] else []) ++ request,
          freeCount := n } ∧
        (v ≠ .owner ∨ s.sefTrips = false → request = []) ∧
        (v = .owner → s.sefTrips = true →
          request = [.tripRequest .huntOwner] ∨ (s.sequencer.st = .deadHold ∧ request = [])) ∧
        (hasKey { source := .hunt, origin := round.caller, tag := half round.seqNo.toNat } t.blk.table = false) ∧
        (s.sequencer.st ≠ .deadHold → t.sequencer = s.sequencer) ∧ EventFrame [.meas, .link] u t) ∧
    (s.hunt.deadlineAt = some at_ → s.hunt.phase = .capture →
      ∃ t : State, exec .roundDeadlineExpiry s = .next t ∧
        t.hunt.ownReport = some { mag := s.hunt.capture.isSum / s.hunt.capture.taken, dir := .undetermined,
                                  isOpen := false, incomplete := true } ∧
        t.hunt.verdict = .notInvolved ∧ t.hunt.phase = .cooldown ∧
        t.hunt.cooldownAt = some (after u.now 5000) ∧ t.hunt.deadlineAt = none ∧ t.elem = s.elem ∧
        ∀ (round : Round) (r : OwnReport), s.hunt.round = some round →
          r = { mag := s.hunt.capture.isSum / s.hunt.capture.taken, dir := .undetermined, isOpen := false,
                incomplete := true } →
          (hasKey { source := .hunt, origin := round.caller, tag := half round.seqNo.toNat } t.blk.table = false) ∧
          ∃ (w : State) (l : List HuntReport),
            Inserted { station := s.address, relation := .own, mag := r.mag, dir := r.dir, isOpen := r.isOpen,
                       incomplete := r.incomplete, round := round, crossed := false } s.hunt.table l ∧
            DropsRecord { source := .hunt, origin := round.caller, tag := half round.seqNo.toNat }
              { u with
                hunt := { s.hunt with ownReport := some r, verdict := .notInvolved, table := l },
                handovers := s.handovers ++ placements
                  [.huntReport { round := round, mag := r.mag, dir := r.dir, isOpen := r.isOpen,
                                 incomplete := r.incomplete }] } w ∧
            t = { w with
              hunt := { w.hunt with
                deadlineAt := none, cooldownAt := some (after u.now 5000), phase := .cooldown },
              cport := w.cport.queue w.image.attnMask
                (note .huntVerdict round.caller (pair round.seqNo.toNat 4)
                  (pair (s.hunt.heardOwner.getD 0).toNat (min (s.hunt.crossed + s.hunt.ignored) 255)) u) }) ∧
    (s.hunt.cooldownAt = some at_ → ∃ t : State, exec .cooldownExpiry s = .next t ∧
      RestTaken { u with hunt := { s.hunt with phase := .idle, cooldownAt := none } } t ∧
      (noRelaxDue s → t.prof = s.prof ∧ t.cport = s.cport ∧ t.handovers = s.handovers) ∧
      EventFrame [.meas, .elem, .fin, .sequencer, .blk, .link, .tripco] u t)

/-! ### CPORT (chapter 10) -/

/-- R173, R44, R102, R103, R110, R115, R170, R172, R180: LOAD SETTINGS, with what CPORT, FIN, LINK and PROF make of the
staged values: the status byte shows the ATTN level that the load sets, and the notice of PROF or not.
The model's choices here: log 1, 5, 9, 27. -/
def Obligations.LoadSettingsWritesTheStagingImage : Prop :=
  ∀ (s : State) (area : Byte) (off : Half) (data : List Byte), s.resetHeld = false →
    (s.isRun = true → OnlyAnswers (.loadSettings area off data) .refusedLocked [] s) ∧
    (s.isRun = false →
      (data.length < 1 ∨ 16 < data.length ∨ (area.toNat ≠ 1 ∧ area.toNat ≠ 2) ∨
        (area.toNat = 1 ∧ 81 < off.toNat + data.length) ∨ (area.toNat = 2 ∧ 44 < off.toNat + data.length)) →
      OnlyAnswers (.loadSettings area off data) .refusedRange [] s) ∧
    (∀ j : Image, s.isRun = false → s.cport.locked = none → 1 ≤ data.length → data.length ≤ 16 →
      Written area off.toNat data s.cport.staging j →
      ∃ (t u w : State) (l : List InputState) (wet attn : Bool), exec (.loadSettings area off data) s = .next t ∧
        u = { s with
          cport := { s.cport with staging := j, attn := attn },
          fin := { s.fin with inputs := l, wet := wet },
          link := { s.link with rx := if stagedBaud s.cport.staging = stagedBaud j then s.link.rx else .hunt } } ∧
        (attn = true ↔ Safety.EnabledQueued j.attnMask s.cport.notices) ∧ (wet = true ↔ WetHigh u) ∧
        l.length = s.fin.inputs.length ∧
        (∀ (n : Nat) (x : InputState), n < 8 → x = s.fin.inputs.getD n InputState.reset →
          ((s.image.inputMode n = 1 ↔ j.inputMode n = 1) → l.getD n InputState.reset = x) ∧
          (¬ (s.image.inputMode n = 1 ↔ j.inputMode n = 1) →
            l.getD n InputState.reset = { confirmed := x.confirmed, run := 0, prev := none, pend := none })) ∧
        (∀ peer : Profile, Safety.IsPeerDemand peer u → DemandsTaken s.prof.port s.prof.field peer u w) ∧
        AnsweredAs .accepted [] u w t ∧
        t.cport.staging = j ∧ t.cport.locked = none ∧ t.cport.part = s.cport.part ∧
        (t.cport.attn = true ↔ Safety.EnabledQueued j.attnMask t.cport.notices) ∧
        t.prof.port = s.prof.port ∧ t.prof.field = s.prof.field ∧ Safety.IsPeerDemand t.prof.peer t ∧
        t.fin = u.fin ∧ t.link = u.link ∧ sameContacts s t ∧ t.fin.healthy = s.fin.healthy ∧
        t.fin.forced = s.fin.forced ∧
        t.handovers = s.handovers ∧ t.now = s.now ∧ t.pending = s.pending ∧ t.resetHeld = false ∧
        sameBlock s t .meas ∧ sameBlock s t .elem ∧ sameBlock s t .sequencer ∧ sameBlock s t .blk ∧
        sameBlock s t .tripco ∧ sameBlock s t .hunt)

/-- R174, R99, 11.7, 11.8: START is refused with the area and the index of the first check that fails, the ranges being
those of the two layouts; and the blocks read every setting from its place in them.
The model's choices here: log 9. -/
def Obligations.StartChecksTheStagingImage : Prop :=
  (∀ i : Image, SettingsReadAt i) ∧
  ∀ (s : State) (i : Image), s.resetHeld = false → i = s.cport.staging →
    (s.isRun = true → OnlyAnswers .start .refusedState [] s) ∧
    (s.isRun = false → ¬ crcMatches i.areaS → OnlyAnswers .start .refusedRange [1, 255] s) ∧
    (s.isRun = false → crcMatches i.areaS → ¬ crcMatches i.areaF → OnlyAnswers .start .refusedRange [2, 255] s) ∧
    (s.isRun = false → crcMatches i.areaS → crcMatches i.areaF →
      (∀ n : Nat, firstOut (outS i.areaS) n → OnlyAnswers .start .refusedRange [1, byteOf n] s) ∧
      ((∀ n : Nat, ¬ outS i.areaS n) →
        (∀ n : Nat, firstOut (outF i.areaF) n → OnlyAnswers .start .refusedRange [2, byteOf n] s) ∧
        ((∀ n : Nat, ¬ outF i.areaF n) →
          (fieldAt i.areaF 0 1 < fieldAt i.areaF 14 1 → OnlyAnswers .start .refusedRange [2, 11] s) ∧
          (fieldAt i.areaF 14 1 ≤ fieldAt i.areaF 0 1 → fieldAt i.areaF 14 1 < fieldAt i.areaF 28 1 →
            OnlyAnswers .start .refusedRange [2, 22] s))))

/-- R175, R57, R88, R110, R125, R133, R136: START locks the settings and brings every block into RUN: what each block
holds then, the pinned entries one by one, and the notices in order.
The model's choices here: log 8, 9. -/
def Obligations.StartEntersRun : Prop :=
  ∀ (s : State) (i : Image) (st : SeqState), s.resetHeld = false → s.isRun = false → i = s.cport.staging →
    passesStart i → st = (if s.fin.position = .closed then .closedRest else .lockout) →
    ∃ t : State, exec .start s = .next t ∧ AnsweredNow .accepted [] t ∧
      t.isRun = true ∧ t.cport.staging = i ∧ t.cport.locked = some i ∧
      SeqIs st none t ∧ t.sequencer.shot = 0 ∧ t.sequencer.manualClose = false ∧
      t.sequencer.noReclose = false ∧ t.sequencer.lastCause = .none ∧
      t.prof.port = s.prof.port ∧ t.prof.field = s.prof.field ∧ Safety.IsPeerDemand t.prof.peer t ∧
      Safety.IsLarger t.prof.ownDemand s.prof.port s.prof.field ∧
      Safety.IsLarger t.prof.target t.prof.ownDemand t.prof.peer ∧
      t.prof.effective = t.prof.target ∧ t.prof.relax = .none ∧ t.prof.relaxAt = none ∧
      sameSends s t ∧
      t.link.lfsr = i.stationAddress.setWidth 16 ∧ t.link.table = pinAll s.now i s.link.table ∧
      AllPinned i (s.link.table.filter (fun e => decide (e.address ≠ i.stationAddress))) s t ∧
      (∃ attn : Bool, (attn = true ↔ Safety.EnabledQueued i.attnMask s.cport.notices) ∧ StandingPlaced s.blk
        ([note .started i.stationAddress (half (positionCode s.fin.position)) (half (profileCode s.prof.effective)) s] ++
          (if t.prof.effective = s.prof.effective then []
           else [profileNote 3 s.prof.effective t.prof.effective t.prof.port t.prof.field t.prof.peer t]) ++
          [stateNote st .start t])
        { s with
          cport := { s.cport with
            part := .run, locked := some i, attn := attn } } t) ∧
      t.address = i.stationAddress ∧
      t.link.slots.state = some { st := st, pos := s.fin.position, shot := 0 } ∧ t.link.slots.beacon = true ∧
      t.link.beaconAt = some (after s.now (i.beaconInterval * 1000)) ∧
      t.tripco.records = i.downstream.map (fun a =>
        { address := a, held := false, tripped := false, expiry := none, lost := true }) ∧
      (s.meas.status = .stale → hasKey (selfKey t) t.blk.table = true ∨ t.blk.overflow = true) ∧
      (s.inputSet 2 = true → hasKey (fieldKey t 2) t.blk.table = true ∨ t.blk.overflow = true) ∧
      (s.inputSet 5 = true → hasKey (fieldKey t 5) t.blk.table = true ∨ t.blk.overflow = true) ∧
      t.fin.healthy = decide (s.meas.status = .fresh) ∧ sameContacts s t ∧
      t.handovers = s.handovers.filter (fun e => !isPlacement e) ∧ t.now = s.now ∧ t.pending = s.pending ∧
      sameBlock s t .meas ∧ sameBlock s t .elem ∧ sameBlock s t .hunt

/-- R178, R125 and the reset tables of the blocks: SOFT RESET in RUN, with the records that stand placed anew
one by one. That the level on CD is kept (log 15), and that SEQ takes no change of the records (log 32), is the model's.
The model's choices here: log 7, 8, 9, 15, 32. -/
def Obligations.SoftResetInRun : Prop :=
  ∀ (s : State) (st : SeqState), s.resetHeld = false → s.isRun = true →
    st = (if s.fin.position = .closed then .closedRest else .lockout) →
    ∃ t : State, exec .softReset s = .next t ∧ AnsweredNow .accepted [] t ∧
      t.now = s.now ∧ t.isRun = true ∧ t.cport.staging = s.cport.staging ∧ t.cport.locked = s.cport.locked ∧
      (∃ more : List Notice, t.cport.notices =
        note .restarted s.address (half (seqStateCode st)) (half (profileCode s.prof.ownDemand)) s :: more) ∧
      t.cport.overflow = false ∧
      StandingPlaced
        { s.blk with table := s.blk.table.filter (fun r => decide (r.key.source = .tag)), overflow := false }
        [note .restarted s.address (half (seqStateCode st)) (half (profileCode s.prof.ownDemand)) s]
        { s with cport := { s.cport with notices := [], overflow := false, attn := false } } t ∧
      SeqIs st none t ∧ t.sequencer.shot = 0 ∧ t.sequencer.manualClose = false ∧
      t.sequencer.noReclose = false ∧ t.sequencer.lastCause = .none ∧
      t.elem = ElemState.reset ∧ t.hunt = { HuntState.reset with ownSeq := s.hunt.ownSeq } ∧
      t.meas = { s.meas with snapState := .none, snapshot := none } ∧
      t.tripco = { TripcoState.reset with
        records := s.tripco.records.map (fun r =>
          { address := r.address, held := false, tripped := false, expiry := none, lost := true }) } ∧
      (∀ r ∈ s.blk.table, r.key.source = .tag → r ∈ t.blk.table) ∧
      (∀ r ∈ t.blk.table, r.key.source = .tag → r ∈ s.blk.table) ∧
      (∀ r ∈ t.blk.table, r.key.source = .tag ∨ r.key.source = .self ∨ r.key.source = .field) ∧
      t.blk.watches = s.blk.watches ∧
      (s.meas.status = .stale → hasKey (selfKey s) t.blk.table = true ∨ t.blk.overflow = true) ∧
      (s.inputSet 2 = true → hasKey (fieldKey s 2) t.blk.table = true ∨ t.blk.overflow = true) ∧
      (s.inputSet 5 = true → hasKey (fieldKey s 5) t.blk.table = true ∨ t.blk.overflow = true) ∧
      t.prof.port = s.prof.port ∧ t.prof.field = s.prof.field ∧ t.prof.peer = .ordinary ∧
      Safety.IsLarger t.prof.target s.prof.port s.prof.field ∧ t.prof.effective = t.prof.target ∧
      t.prof.relax = .none ∧ t.prof.relaxAt = none ∧
      t.link.sol = s.link.sol ∧ t.link.freshStart = s.link.freshStart ∧ t.link.lastSent = s.link.lastSent ∧
      t.link.lfsr = s.link.lfsr ∧ t.link.cd = s.link.cd ∧ t.link.key = false ∧ t.link.txd = none ∧
      t.link.sending = none ∧ t.link.rx = .hunt ∧ t.link.tx = .defer ∧
      t.link.slots = { Slots.empty with
        state := some { st := st, pos := s.fin.position, shot := 0 }, beacon := true } ∧
      t.link.beaconAt = some (after s.now (s.image.beaconInterval * 1000)) ∧
      t.link.table = pinAll s.now s.image [] ∧ AllPinned s.image [] s t ∧
      (∀ e ∈ t.link.table, e.pinned = true ∧ e.status = .lost ∧ e.lastSol = none) ∧
      FinFollows st s t ∧ t.handovers = s.handovers.filter (fun e => !isPlacement e) ∧ t.pending = s.pending

/-- R73, R74, R59, R61, R62, R109, R170: MANUAL OPEN. That FIN and TRIPCO learn of the entry to TRIPPING before an open
breaker ends it, that such a trip in CLOSING ends at once, that PROF's notice of a relax that waited for rest stands after
SEQ's, and when the status byte shows that notice, is the model's.
The model's choices here: log 1, 5, 6, 9, 26, 30, 39. -/
def Obligations.ManualOpenByState : Prop :=
  ∀ s : State, s.resetHeld = false →
    (s.sequencer.st = .dormant ∨ (s.sequencer.st = .failed ∧ s.inputSet 6 = false) →
      OnlyAnswers .manualOpen .refusedState [] s) ∧
    (s.sequencer.st ≠ .dormant → s.inputSet 6 = true → OnlyAnswers .manualOpen .refusedLocal [] s) ∧
    (s.inputSet 6 = false →
      (s.sequencer.st = .lockout ∨ s.sequencer.st = .opened → OnlyAnswers .manualOpen .accepted [] s) ∧
      (s.sequencer.st = .tripping → ∃ t : State, exec .manualOpen s = .next t ∧ AnsweredNow .accepted [] t ∧
        t.sequencer = { s.sequencer with noReclose := true } ∧ Noticed [] s t ∧ t.handovers = s.handovers ∧
        Frame [.meas, .elem, .fin, .blk, .prof, .link, .tripco, .hunt] s t) ∧
      (s.sequencer.st = .deadTime ∨ s.sequencer.st = .deadHold →
        ∃ t : State, exec .manualOpen s = .next t ∧
          CommandMoves .opened none [stateNote .opened .manualOpen s] [stateFrame .opened s.sequencer.shot s] s t ∧
          (noRelaxDue s → AnsweredNow .accepted [] t ∧ t.prof = s.prof) ∧
          Frame [.meas, .elem, .blk, .link, .hunt] s t) ∧
      (takesRequest s → ∃ (t p : State), exec .manualOpen s = .next t ∧
        p = tripEntered .manual s.sequencer.shot true s ∧
        (s.fin.position ≠ .opened →
          CommandMoves .tripping (some (after s.now s.image.tripFail)) [tripNote .manual s.sequencer.shot s]
            [tripFrame .manual s.sequencer.shot s] p t ∧ t.fin.forced = true ∧ t.prof = s.prof) ∧
        (s.fin.position = .opened → ∃ a : State,
          Transition .tripping (some (after s.now s.image.tripFail)) [tripNote .manual s.sequencer.shot s]
            [tripFrame .manual s.sequencer.shot s] p a ∧
          CommandMoves .lockout none [stateNote .lockout .noReclose s] [stateFrame .lockout s.sequencer.shot s] a t ∧
          t.fin.forced = false) ∧
        t.sequencer.shot = s.sequencer.shot ∧ t.sequencer.lastCause = .manual ∧ t.sequencer.noReclose = true ∧
        t.sequencer.manualClose = s.sequencer.manualClose ∧ t.tripco.records = s.tripco.records ∧
        sameContacts s t ∧ (noRelaxDue s → AnsweredNow .accepted [] t ∧ t.prof = s.prof) ∧
        Frame [.meas, .elem, .blk, .link, .hunt] s t))

/-- R73, R75, R76, R53, R61, R67, R109, R170: MANUAL CLOSE and RESET FAIL. That PROF's notice of a relax that waited for
rest stands after SEQ's, and when the status byte shows that notice, is the model's.
The model's choices here: log 1, 5, 6, 9, 30. -/
def Obligations.ManualCloseAndResetFail : Prop :=
  (∀ (s : State) (tagged : Prop), s.resetHeld = false → (tagged ↔ ∃ r ∈ s.blk.table, r.key.source = .tag) →
     (s.sequencer.st = .dormant → OnlyAnswers .manualClose .refusedState [] s) ∧
     (s.sequencer.st ≠ .dormant → s.inputSet 6 = true → OnlyAnswers .manualClose .refusedLocal [] s) ∧
     (s.inputSet 6 = false → s.sequencer.st ≠ .lockout → s.sequencer.st ≠ .opened →
       OnlyAnswers .manualClose .refusedState [] s) ∧
     (s.inputSet 6 = false → s.sequencer.st = .lockout ∨ s.sequencer.st = .opened →
       (tagged → OnlyAnswers .manualClose .refusedTagged [] s) ∧
       (¬ tagged → s.inputSet 5 = true → OnlyAnswers .manualClose .refusedGas [] s) ∧
       (¬ tagged → s.inputSet 5 = false → ∃ t p : State, exec .manualClose s = .next t ∧
         p = { s with
           sequencer := { s.sequencer with shot := 0, manualClose := true },
           blk := { s.blk with table := s.blk.table.filter (fun r => decide (r.key.source ≠ .sef)) } } ∧
         (s.fin.position ≠ .closed →
           CommandMoves .closing (some (after s.now s.image.closeFail)) [] [] p t ∧ t.fin.forced = true) ∧
         (s.fin.position = .closed → ∃ a : State,
           Transition .closing (some (after s.now s.image.closeFail)) [] [] p a ∧
           CommandMoves .reclaim (some (after s.now s.image.reclaim)) [stateNote .reclaim .closeDone s]
             [stateFrame .reclaim 0 s] a t) ∧
         t.blk = p.blk ∧ t.tripco.records = s.tripco.records ∧ sameContacts s t ∧ AnsweredNow .accepted [] t ∧
         Frame [.meas, .elem, .prof, .link, .hunt] s t))) ∧
  (∀ s : State, s.resetHeld = false →
     (s.sequencer.st ≠ .failed ∨ s.fin.position = .unknown → OnlyAnswers .resetFail .refusedState [] s) ∧
     (s.sequencer.st = .failed → s.fin.position = .opened → ∃ t : State, exec .resetFail s = .next t ∧
       CommandMoves .lockout none [stateNote .lockout .resetFail s] [stateFrame .lockout 0 s]
         { s with sequencer := { s.sequencer with shot := 0 } } t ∧
       t.fin.healthy = decide (s.isRun = true ∧ s.meas.status = .fresh) ∧
       (noRelaxDue s → AnsweredNow .accepted [] t ∧ t.prof = s.prof) ∧ Frame [.meas, .elem, .blk, .link, .hunt] s t) ∧
     (s.sequencer.st = .failed → s.fin.position = .closed → ∃ t : State, exec .resetFail s = .next t ∧
       CommandMoves .closedRest none [stateNote .closedRest .resetFail s] [stateFrame .closedRest 0 s]
         { s with sequencer := { s.sequencer with shot := 0, manualClose := false } } t ∧
       t.fin.healthy = decide (s.isRun = true ∧ s.meas.status = .fresh) ∧
       (noRelaxDue s → AnsweredNow .accepted [] t ∧ t.prof = s.prof) ∧ Frame [.meas, .elem, .blk, .link, .hunt] s t))

/-- R179 to R184, 11.1, 11.5, 11.6: a notice joins the queue, or is dropped where 64 are present; READ NOTICE; READ TABLE
and READ STATUS, which change nothing but the response; and the records they send, field by field. What two of the fields
hold while their quantity is absent is the model's (log 36, 38).
The model's choices here: log 1, 9, 36, 38. -/
def Obligations.NoticesTablesAndStatusAreRead : Prop :=
  CodesOfRecords ∧ CodesOfNotices ∧ (∀ n : Notice, NoticeLaidOut n) ∧ (∀ e : Neighbour, NeighbourLaidOut e) ∧
  (∀ r : BlockRecord, BlockLaidOut r) ∧ (∀ w : Watch, WatchLaidOut w) ∧
  (∀ (h : HuntState) (r : HuntReport), HuntLaidOut h r) ∧ (∀ s : State, StatusLaidOut s) ∧
  (∀ (c : CportState) (mask : Nat) (n : Notice),
    (c.notices.length < 64 → ∃ attn : Bool, (attn = true ↔ Safety.EnabledQueued mask (c.notices ++ [n])) ∧
      c.queue mask n = { c with notices := c.notices ++ [n], attn := attn }) ∧
    (64 ≤ c.notices.length → c.queue mask n = { c with overflow := true })) ∧
  (∀ s : State, s.resetHeld = false →
     (s.cport.notices = [] → OnlyAnswers .readNotice .notFound [0] s) ∧
     (∀ (n : Notice) (rest : List Notice), s.cport.notices = n :: rest → ∃ t : State,
       exec .readNotice s = .next t ∧ AnsweredNow .accepted (noticeBytes n ++ [byteOf rest.length]) t ∧
       t.cport.notices = rest ∧ t.cport.overflow = false ∧
       t.cport.attn = rest.any (fun m => s.image.attnMask.testBit (noticeCategory m.kind)) ∧
       t.handovers = s.handovers ∧ Frame allBlocks s t) ∧
     (∀ n : Notice, (noticeBytes n).length = 13)) ∧
  (∀ (s : State) (table first count : Byte) (record : ∀ α : Type, (α → List Byte) → List α → List Byte),
     s.resetHeld = false →
     (∀ (α : Type) (f : α → List Byte) (l : List α), record α f l =
       ((l.drop first.toNat).take count.toNat).flatMap f ++
         [satByte (l.length - (first.toNat + count.toNat))]) →
     (table.toNat = 0 ∨ 4 < table.toNat ∨ count.toNat = 0 ∨ 4 < count.toNat →
       OnlyAnswers (.readTable table first count) .refusedRange [] s) ∧
     (1 ≤ count.toNat → count.toNat ≤ 4 →
       (table = 1 → OnlyAnswers (.readTable table first count) .accepted
         (record Neighbour neighbourBytes s.link.table) s) ∧
       (table = 2 → OnlyAnswers (.readTable table first count) .accepted
         (record BlockRecord blockBytes s.blk.table) s) ∧
       (table = 3 → OnlyAnswers (.readTable table first count) .accepted
         (record Watch watchBytes s.blk.watches) s) ∧
       (table = 4 → OnlyAnswers (.readTable table first count) .accepted
         (huntHeader s.hunt ++ record HuntReport huntReportBytes s.hunt.table) s)) ∧
     OnlyAnswers .readStatus .accepted (statusRecord s) s ∧ (statusRecord s).length = 33)

/-- R170 to R172, 11.4: a command that fails a test is answered and changes nothing else; the bytes of a response, its
result code, the bits of the status byte, and the CRC of R2 and R170.
The model's choices here: log 9. -/
def Obligations.BadCommandsAreRejected : Prop :=
  (∀ (initial : Byte) (l : List Byte), crc8 initial l = crcByBits 0x07#8 (bitsOf l) initial) ∧
  [.accepted, .busy, .notFound, .refusedState, .refusedRange, .refusedLocked, .refusedFull, .refusedTagged,
    .refusedLocal, .refusedGas, .crcError, .unknownCommand].map resultCode = List.range 12 ∧
  (∀ (status : Byte) (r : Result) (payload l : List Byte),
    l = [status, byteOf (resultCode r), byteOf payload.length] ++ payload →
    responseBytes status r payload = l ++ [crcByBits 0x07#8 (bitsOf l) 0xFF]) ∧
  (∀ (status : Byte) (r : Result) (payload : List Byte) (s : State),
    enterResponse status r payload s = { s with
      cport := { s.cport with
        trans := .response, resp := responseBytes status r payload, respPos := 0, pdo := some 0xFF } }) ∧
  (∀ s : State,
    ((statusByte s).getLsbD 7 = true ↔ s.isRun = true) ∧ ((statusByte s).getLsbD 6 = true ↔ s.cport.attn = true) ∧
    ((statusByte s).getLsbD 5 = true ↔ s.cport.overflow = true) ∧
    ((statusByte s).getLsbD 4 = true ↔ s.meas.status = .fresh) ∧
    (statusByte s).getLsbD 3 = false ∧ (statusByte s).getLsbD 2 = false ∧
    (s.meas.snapState = .none → (statusByte s).toNat % 4 = 0) ∧
    (s.meas.snapState = .pending → (statusByte s).toNat % 4 = 1) ∧
    (s.meas.snapState = .valid → (statusByte s).toNat % 4 = 2) ∧
    (s.meas.snapState = .fail → (statusByte s).toNat % 4 = 3)) ∧
  ∀ (s : State) (code length crc : Byte) (payload : List Byte), s.resetHeld = false →
    payload.length = length.toNat →
    (crc ≠ crc8 0xFF ([code, length] ++ payload) →
      OnlyAnswers (.commandRejected code length payload crc) .crcError [] s) ∧
    (crc = crc8 0xFF ([code, length] ++ payload) →
      (code.toNat ∉ commandCodes →
        OnlyAnswers (.commandRejected code length payload crc) .unknownCommand [] s) ∧
      (code.toNat ∈ commandCodes → ¬ lengthFits code.toNat length.toNat →
        OnlyAnswers (.commandRejected code length payload crc) .refusedRange [] s) ∧
      (code.toNat ∈ commandCodes → lengthFits code.toNat length.toNat →
        exec (.commandRejected code length payload crc) s = .next s))

/-- R169, R171: the transaction, byte by byte.
The model's choices here: log 10. -/
def Obligations.TransactionsGoByteByByte : Prop :=
  ∀ (b : Byte) (s : State), s.resetHeld = false →
    exec .transactionBegin s = .next { s with
      cport := { s.cport with trans := .command, rxBuf := [], resp := [], respPos := 0, pdo := some 0xFF } } ∧
    exec .transactionEnd s = .next { s with
      cport := { s.cport with trans := .deselected, rxBuf := [], resp := [], respPos := 0, pdo := none } } ∧
    (s.cport.trans = .deselected ∨ s.cport.trans = .discard → exec (.commandByteTaken b) s = .next s) ∧
    (s.cport.trans = .response → exec (.commandByteTaken b) s = .next { s with
      cport := { s.cport with
        pdo := some (s.cport.resp.getD s.cport.respPos 0xFF), respPos := s.cport.respPos + 1 } }) ∧
    (s.cport.trans = .command → s.cport.rxBuf = [] →
      exec (.commandByteTaken b) s = .next { s with cport := { s.cport with rxBuf := [b] } }) ∧
    (∀ code : Byte, s.cport.trans = .command → s.cport.rxBuf = [code] →
      (24 < b.toNat → exec (.commandByteTaken b) s = .next
        { s with cport := { s.cport with rxBuf := [code, b], trans := .discard } }) ∧
      (b.toNat ≤ 24 → exec (.commandByteTaken b) s = .next
        { s with cport := { s.cport with rxBuf := [code, b] } })) ∧
    (∀ (code length : Byte) (l : List Byte), s.cport.trans = .command → s.cport.rxBuf = [code, length] ++ l →
      length.toNat ≤ 24 → l.length < length.toNat → exec (.commandByteTaken b) s = .next
        { s with cport := { s.cport with rxBuf := [code, length] ++ l ++ [b] } })

/-- R169, R170, 11.4: the CRC byte of a complete command runs it; one that fails a test is rejected.
The model's choices here: log 9. -/
def Obligations.CommandBytesRunTheCommand : Prop :=
  ∀ (s : State) (code length crc : Byte) (payload : List Byte), s.resetHeld = false →
    s.cport.trans = .command → s.cport.rxBuf = [code, length] ++ payload → payload.length = length.toNat →
    length.toNat ≤ 24 →
    (∀ c : Instr, c.wf = true → commandBytes c = some (code, payload) →
      crc = crc8 0xFF ([code, length] ++ payload) →
      exec (.commandByteTaken crc) s =
        exec c { s with cport := { s.cport with rxBuf := [code, length] ++ payload ++ [crc] } }) ∧
    (crc ≠ crc8 0xFF ([code, length] ++ payload) ∨ code.toNat ∉ commandCodes ∨
        ¬ lengthFits code.toNat length.toNat →
      exec (.commandByteTaken crc) s = exec (.commandRejected code length payload crc)
        { s with cport := { s.cport with rxBuf := [code, length] ++ payload ++ [crc] } })

/-- R176, R177: a power-on reset, held as long as RESETn is low, and its end; SOFT RESET in CONFIG, which leaves the count,
the staging image, the levels on CD and on the inputs, the samples of the timebase and the transaction, and resets
everything else. The hand-overs that are dropped, the levels kept, and the values the spec gives none for (the backoff
generator, the port's buffers, the model's own counters) are the model's, and so is it that PDO is at high impedance until
the next fall of PSEL where PSEL is still low (log 41).
The model's choices here: log 1, 5, 7, 9, 12, 15, 16, 17, 19, 28, 41. -/
def Obligations.ResetsToTheInitialState : Prop :=
  (∀ (s : State) (initial : Bool → State),
     (∀ held : Bool, initial held = { State.reset with
       resetHeld := held, link := { LinkState.reset with cd := s.link.cd }, pending := s.pending,
       fin := { FinState.reset with sense := { SenseState.reset with pins := s.fin.sense.pins } },
       freeCount := s.freeCount }) →
     exec (.powerOnReset .supplyRise) s = .next (initial false) ∧
     exec (.powerOnReset .resetnLow) s = .next (initial true) ∧
     (s.resetHeld = true → exec .resetnRelease s = .next (initial false)) ∧
     (s.resetHeld = false → exec .resetnRelease s = .next s)) ∧
  (∀ s : State, s.resetHeld = false → s.isRun = false →
     ∃ t : State, exec .softReset s = .next t ∧ AnsweredNow .accepted [] t ∧
       t.now = s.now ∧ t.cport.staging = s.cport.staging ∧ t.cport.part = s.cport.part ∧
       t.cport.notices = [] ∧ t.cport.overflow = false ∧ t.cport.attn = false ∧
       t.meas = { MeasState.reset with staleSince := s.now } ∧ t.elem = ElemState.reset ∧
       t.fin = { FinState.reset with
         nextPeriodAt := some s.now,
         sense := { SenseState.reset with staticAt := s.fin.sense.staticAt, pins := s.fin.sense.pins } } ∧
       t.sequencer = SequencerState.reset ∧
       t.blk = BlkState.reset ∧ t.prof = ProfState.reset ∧ t.link = { LinkState.reset with cd := s.link.cd } ∧
       t.tripco = TripcoState.reset ∧ t.hunt = HuntState.reset ∧ t.handovers = [] ∧ t.pending = s.pending)

/-! ### Invariants -/

/-- The state after a power-on reset has every invariant, and the values the spec gives it (R176, R19, R54, R77, R97,
R114, R135, R148, R168). -/
def Obligations.ResetStateHasTheInvariants : Prop :=
  Safety.SequencerInv State.reset ∧ Safety.BlockInv State.reset ∧ Safety.ProfileInv State.reset ∧
  Safety.NoticeInv State.reset ∧ Safety.SettingsInv State.reset ∧ Safety.HealthyInv State.reset ∧
  Safety.TransmitInv State.reset ∧ Safety.NeighbourInv State.reset ∧ Safety.HuntInv State.reset ∧
  Safety.MeasureInv State.reset ∧ Safety.WatchInv State.reset ∧
  State.reset.now = 0 ∧ State.reset.isRun = false ∧ State.reset.meas.status = .stale ∧
  State.reset.fin.position = .unknown ∧ (∀ n : Nat, State.reset.input n = none) ∧
  State.reset.sequencer.st = .dormant ∧ State.reset.blk.table = [] ∧ State.reset.blk.watches = [] ∧
  State.reset.prof.effective = .ordinary ∧ State.reset.link.sol = 1 ∧ State.reset.link.freshStart = true ∧
  State.reset.link.lastSent = none ∧ State.reset.link.table = [] ∧ State.reset.tripco.records = [] ∧
  State.reset.hunt.phase = .idle ∧ State.reset.cport.notices = [] ∧ State.reset.pending = []

/-- R55, R56, R57, R66: the lines and the timer of SEQ follow its state, and between shots the count lies within the
shot limit. -/
def Obligations.SequencerInvariant : Prop := Safety.Kept Safety.SequencerInv

/-- R101 to R105: the demands combine, and the effective profile is never below the target. -/
def Obligations.ProfileInvariant : Prop := Safety.Kept Safety.ProfileInv

/-- R175, R179, R180: the notice queue and ATTN; the settings of RUN are those locked at START. -/
def Obligations.NoticeAndSettingsInvariant : Prop :=
  Safety.Kept Safety.NoticeInv ∧ Safety.Kept Safety.SettingsInv

/-- R53: HEALTHY is high exactly while the part is in RUN, MEAS is FRESH and SEQ is in any state but FAILED. -/
def Obligations.HealthyInvariant : Prop := Safety.Kept Safety.HealthyInv

/-- R124, R130, R131, R133: the transmitter and the sign-of-life counter. -/
def Obligations.TransmitterInvariant : Prop := Safety.Kept Safety.TransmitInv

/-- R79, R89, R124, R152, R163, R166: the sizes of the tables, which hold no two entries of one key or station, and the
timers of the hunt phases. -/
def Obligations.TablesInvariant : Prop :=
  Safety.Kept Safety.BlockInv ∧ Safety.Kept Safety.WatchInv ∧ Safety.Kept Safety.NeighbourInv ∧
    Safety.Kept Safety.HuntInv

/-- R3, R4, R29: the counts and the accumulators stay within their ranges; a snapshot is held exactly in VALID. -/
def Obligations.MeasurementInvariant : Prop := Safety.Kept Safety.MeasureInv
end

