-- ==== Sys2Proof/Laws/Shared.lean ====
section
/-! SUPPORT. What the operations every block shares leave unchanged:
one frame lemma for each, so that no later proof unfolds it. -/

namespace Sys2Proof.Machine

@[simp] theorem queueTagged_frame (k : NoticeKind) (a : Byte) (d1 d2 : Half) (x y : Byte) (s : State) :
    (queueTagged k a d1 d2 x y s).now = s.now ∧ (queueTagged k a d1 d2 x y s).resetHeld = s.resetHeld ∧
    (queueTagged k a d1 d2 x y s).meas = s.meas ∧ (queueTagged k a d1 d2 x y s).elem = s.elem ∧
    (queueTagged k a d1 d2 x y s).fin = s.fin ∧ (queueTagged k a d1 d2 x y s).sequencer = s.sequencer ∧
    (queueTagged k a d1 d2 x y s).blk = s.blk ∧ (queueTagged k a d1 d2 x y s).prof = s.prof ∧
    (queueTagged k a d1 d2 x y s).link = s.link ∧ (queueTagged k a d1 d2 x y s).tripco = s.tripco ∧
    (queueTagged k a d1 d2 x y s).hunt = s.hunt ∧ (queueTagged k a d1 d2 x y s).handovers = s.handovers ∧
    (queueTagged k a d1 d2 x y s).pending = s.pending ∧ (queueTagged k a d1 d2 x y s).freeCount = s.freeCount ∧
    (queueTagged k a d1 d2 x y s).cport.part = s.cport.part ∧
    (queueTagged k a d1 d2 x y s).cport.staging = s.cport.staging ∧
    (queueTagged k a d1 d2 x y s).cport.locked = s.cport.locked ∧
    (queueTagged k a d1 d2 x y s).cport.trans = s.cport.trans ∧
    (queueTagged k a d1 d2 x y s).cport.rxBuf = s.cport.rxBuf ∧
    (queueTagged k a d1 d2 x y s).cport.resp = s.cport.resp ∧
    (queueTagged k a d1 d2 x y s).cport.respPos = s.cport.respPos ∧
    (queueTagged k a d1 d2 x y s).cport.pdo = s.cport.pdo ∧ (queueTagged k a d1 d2 x y s).isRun = s.isRun ∧
    (queueTagged k a d1 d2 x y s).image = s.image ∧ (queueTagged k a d1 d2 x y s).address = s.address := by
  simp only [queueTagged, State.isRun, State.image, State.address, CportState.queue]
  split <;> simp

@[simp] theorem queueAbout_frame (k : NoticeKind) (a : Byte) (d1 d2 : Half) (s : State) :
    (queueAbout k a d1 d2 s).now = s.now ∧ (queueAbout k a d1 d2 s).resetHeld = s.resetHeld ∧
    (queueAbout k a d1 d2 s).meas = s.meas ∧ (queueAbout k a d1 d2 s).elem = s.elem ∧
    (queueAbout k a d1 d2 s).fin = s.fin ∧ (queueAbout k a d1 d2 s).sequencer = s.sequencer ∧
    (queueAbout k a d1 d2 s).blk = s.blk ∧ (queueAbout k a d1 d2 s).prof = s.prof ∧
    (queueAbout k a d1 d2 s).link = s.link ∧ (queueAbout k a d1 d2 s).tripco = s.tripco ∧
    (queueAbout k a d1 d2 s).hunt = s.hunt ∧ (queueAbout k a d1 d2 s).handovers = s.handovers ∧
    (queueAbout k a d1 d2 s).pending = s.pending ∧ (queueAbout k a d1 d2 s).freeCount = s.freeCount ∧
    (queueAbout k a d1 d2 s).cport.part = s.cport.part ∧ (queueAbout k a d1 d2 s).cport.staging = s.cport.staging ∧
    (queueAbout k a d1 d2 s).cport.locked = s.cport.locked ∧ (queueAbout k a d1 d2 s).cport.trans = s.cport.trans ∧
    (queueAbout k a d1 d2 s).cport.rxBuf = s.cport.rxBuf ∧ (queueAbout k a d1 d2 s).cport.resp = s.cport.resp ∧
    (queueAbout k a d1 d2 s).cport.respPos = s.cport.respPos ∧ (queueAbout k a d1 d2 s).cport.pdo = s.cport.pdo ∧
    (queueAbout k a d1 d2 s).isRun = s.isRun ∧ (queueAbout k a d1 d2 s).image = s.image ∧
    (queueAbout k a d1 d2 s).address = s.address := by
  simp only [queueAbout]
  simp [State.isRun, State.image, State.address]

@[simp] theorem queueOwn_frame (k : NoticeKind) (d1 d2 : Half) (s : State) :
    (queueOwn k d1 d2 s).now = s.now ∧ (queueOwn k d1 d2 s).resetHeld = s.resetHeld ∧
    (queueOwn k d1 d2 s).meas = s.meas ∧ (queueOwn k d1 d2 s).elem = s.elem ∧ (queueOwn k d1 d2 s).fin = s.fin ∧
    (queueOwn k d1 d2 s).sequencer = s.sequencer ∧ (queueOwn k d1 d2 s).blk = s.blk ∧
    (queueOwn k d1 d2 s).prof = s.prof ∧ (queueOwn k d1 d2 s).link = s.link ∧
    (queueOwn k d1 d2 s).tripco = s.tripco ∧ (queueOwn k d1 d2 s).hunt = s.hunt ∧
    (queueOwn k d1 d2 s).handovers = s.handovers ∧ (queueOwn k d1 d2 s).pending = s.pending ∧
    (queueOwn k d1 d2 s).freeCount = s.freeCount ∧ (queueOwn k d1 d2 s).cport.part = s.cport.part ∧
    (queueOwn k d1 d2 s).cport.staging = s.cport.staging ∧ (queueOwn k d1 d2 s).cport.locked = s.cport.locked ∧
    (queueOwn k d1 d2 s).cport.trans = s.cport.trans ∧ (queueOwn k d1 d2 s).cport.rxBuf = s.cport.rxBuf ∧
    (queueOwn k d1 d2 s).cport.resp = s.cport.resp ∧ (queueOwn k d1 d2 s).cport.respPos = s.cport.respPos ∧
    (queueOwn k d1 d2 s).cport.pdo = s.cport.pdo ∧ (queueOwn k d1 d2 s).isRun = s.isRun ∧
    (queueOwn k d1 d2 s).image = s.image ∧ (queueOwn k d1 d2 s).address = s.address := by
  simp only [queueOwn]
  simp [State.isRun, State.image, State.address]

@[simp] theorem refreshAttn_frame (s : State) :
    (refreshAttn s).now = s.now ∧ (refreshAttn s).resetHeld = s.resetHeld ∧ (refreshAttn s).meas = s.meas ∧
    (refreshAttn s).elem = s.elem ∧ (refreshAttn s).fin = s.fin ∧ (refreshAttn s).sequencer = s.sequencer ∧
    (refreshAttn s).blk = s.blk ∧ (refreshAttn s).prof = s.prof ∧ (refreshAttn s).link = s.link ∧
    (refreshAttn s).tripco = s.tripco ∧ (refreshAttn s).hunt = s.hunt ∧ (refreshAttn s).handovers = s.handovers ∧
    (refreshAttn s).pending = s.pending ∧ (refreshAttn s).freeCount = s.freeCount ∧
    (refreshAttn s).cport.part = s.cport.part ∧ (refreshAttn s).cport.staging = s.cport.staging ∧
    (refreshAttn s).cport.locked = s.cport.locked ∧ (refreshAttn s).cport.trans = s.cport.trans ∧
    (refreshAttn s).cport.rxBuf = s.cport.rxBuf ∧ (refreshAttn s).cport.resp = s.cport.resp ∧
    (refreshAttn s).cport.respPos = s.cport.respPos ∧ (refreshAttn s).cport.pdo = s.cport.pdo ∧
    (refreshAttn s).isRun = s.isRun ∧ (refreshAttn s).image = s.image ∧ (refreshAttn s).address = s.address := by
  simp only [refreshAttn]
  simp [State.isRun, State.image, State.address]

@[simp] theorem refreshHealthy_frame (s : State) :
    (refreshHealthy s).now = s.now ∧ (refreshHealthy s).resetHeld = s.resetHeld ∧ (refreshHealthy s).meas = s.meas ∧
    (refreshHealthy s).elem = s.elem ∧ (refreshHealthy s).fin.position = s.fin.position ∧
    (refreshHealthy s).fin.fieldDemand = s.fin.fieldDemand ∧ (refreshHealthy s).fin.discrepancy = s.fin.discrepancy ∧
    (refreshHealthy s).fin.discAt = s.fin.discAt ∧ (refreshHealthy s).fin.nextPeriodAt = s.fin.nextPeriodAt ∧
    (refreshHealthy s).fin.sense = s.fin.sense ∧ (refreshHealthy s).sequencer = s.sequencer ∧
    (refreshHealthy s).blk = s.blk ∧ (refreshHealthy s).prof = s.prof ∧ (refreshHealthy s).link = s.link ∧
    (refreshHealthy s).tripco = s.tripco ∧ (refreshHealthy s).hunt = s.hunt ∧
    (refreshHealthy s).handovers = s.handovers ∧ (refreshHealthy s).pending = s.pending ∧
    (refreshHealthy s).freeCount = s.freeCount ∧ (refreshHealthy s).cport = s.cport ∧
    (refreshHealthy s).isRun = s.isRun ∧ (refreshHealthy s).image = s.image ∧
    (refreshHealthy s).address = s.address := by
  simp only [refreshHealthy]
  simp [State.isRun, State.image, State.address]

@[simp] theorem refreshWet_frame (s : State) :
    (refreshWet s).now = s.now ∧ (refreshWet s).resetHeld = s.resetHeld ∧ (refreshWet s).meas = s.meas ∧
    (refreshWet s).elem = s.elem ∧ (refreshWet s).fin.position = s.fin.position ∧
    (refreshWet s).fin.fieldDemand = s.fin.fieldDemand ∧ (refreshWet s).fin.discrepancy = s.fin.discrepancy ∧
    (refreshWet s).fin.discAt = s.fin.discAt ∧ (refreshWet s).fin.nextPeriodAt = s.fin.nextPeriodAt ∧
    (refreshWet s).fin.sense = s.fin.sense ∧ (refreshWet s).sequencer = s.sequencer ∧ (refreshWet s).blk = s.blk ∧
    (refreshWet s).prof = s.prof ∧ (refreshWet s).link = s.link ∧ (refreshWet s).tripco = s.tripco ∧
    (refreshWet s).hunt = s.hunt ∧ (refreshWet s).handovers = s.handovers ∧ (refreshWet s).pending = s.pending ∧
    (refreshWet s).freeCount = s.freeCount ∧ (refreshWet s).cport = s.cport ∧ (refreshWet s).isRun = s.isRun ∧
    (refreshWet s).image = s.image ∧ (refreshWet s).address = s.address := by
  simp only [refreshWet]
  simp [State.isRun, State.image, State.address]

@[simp] theorem handOver_frame (e : Instr) (s : State) :
    (handOver e s).now = s.now ∧ (handOver e s).resetHeld = s.resetHeld ∧ (handOver e s).meas = s.meas ∧
    (handOver e s).elem = s.elem ∧ (handOver e s).fin = s.fin ∧ (handOver e s).sequencer = s.sequencer ∧
    (handOver e s).blk = s.blk ∧ (handOver e s).prof = s.prof ∧ (handOver e s).link = s.link ∧
    (handOver e s).tripco = s.tripco ∧ (handOver e s).hunt = s.hunt ∧ (handOver e s).pending = s.pending ∧
    (handOver e s).freeCount = s.freeCount ∧ (handOver e s).cport = s.cport ∧ (handOver e s).isRun = s.isRun ∧
    (handOver e s).image = s.image ∧ (handOver e s).address = s.address := by
  simp only [handOver]
  simp [State.isRun, State.image, State.address]

@[simp] theorem takeHandOver_frame (e : Instr) (s : State) :
    (takeHandOver e s).now = s.now ∧ (takeHandOver e s).resetHeld = s.resetHeld ∧ (takeHandOver e s).meas = s.meas ∧
    (takeHandOver e s).elem = s.elem ∧ (takeHandOver e s).fin = s.fin ∧ (takeHandOver e s).sequencer = s.sequencer ∧
    (takeHandOver e s).blk = s.blk ∧ (takeHandOver e s).prof = s.prof ∧ (takeHandOver e s).link = s.link ∧
    (takeHandOver e s).tripco = s.tripco ∧ (takeHandOver e s).hunt = s.hunt ∧
    (takeHandOver e s).pending = s.pending ∧ (takeHandOver e s).freeCount = s.freeCount ∧
    (takeHandOver e s).cport = s.cport ∧ (takeHandOver e s).isRun = s.isRun ∧ (takeHandOver e s).image = s.image ∧
    (takeHandOver e s).address = s.address := by
  simp only [takeHandOver]
  simp [State.isRun, State.image, State.address]

@[simp] theorem placeFrame_frame (f : OwnedFrame) (s : State) :
    (placeFrame f s).now = s.now ∧ (placeFrame f s).resetHeld = s.resetHeld ∧ (placeFrame f s).meas = s.meas ∧
    (placeFrame f s).elem = s.elem ∧ (placeFrame f s).fin = s.fin ∧ (placeFrame f s).sequencer = s.sequencer ∧
    (placeFrame f s).blk = s.blk ∧ (placeFrame f s).prof = s.prof ∧ (placeFrame f s).link = s.link ∧
    (placeFrame f s).tripco = s.tripco ∧ (placeFrame f s).hunt = s.hunt ∧ (placeFrame f s).pending = s.pending ∧
    (placeFrame f s).freeCount = s.freeCount ∧ (placeFrame f s).cport = s.cport ∧ (placeFrame f s).isRun = s.isRun ∧
    (placeFrame f s).image = s.image ∧ (placeFrame f s).address = s.address := by
  simp only [placeFrame]
  simp [State.isRun, State.image, State.address]

@[simp] theorem askBeacon_frame (s : State) :
    (askBeacon s).now = s.now ∧ (askBeacon s).resetHeld = s.resetHeld ∧ (askBeacon s).meas = s.meas ∧
    (askBeacon s).elem = s.elem ∧ (askBeacon s).fin = s.fin ∧ (askBeacon s).sequencer = s.sequencer ∧
    (askBeacon s).blk = s.blk ∧ (askBeacon s).prof = s.prof ∧ (askBeacon s).link = s.link ∧
    (askBeacon s).tripco = s.tripco ∧ (askBeacon s).hunt = s.hunt ∧ (askBeacon s).pending = s.pending ∧
    (askBeacon s).freeCount = s.freeCount ∧ (askBeacon s).cport = s.cport ∧ (askBeacon s).isRun = s.isRun ∧
    (askBeacon s).image = s.image ∧ (askBeacon s).address = s.address := by
  simp only [askBeacon]
  simp [State.isRun, State.image, State.address]

@[simp] theorem advanceFree_frame (s : State) :
    (advanceFree s).now = s.now ∧ (advanceFree s).resetHeld = s.resetHeld ∧ (advanceFree s).meas = s.meas ∧
    (advanceFree s).elem = s.elem ∧ (advanceFree s).fin = s.fin ∧ (advanceFree s).sequencer = s.sequencer ∧
    (advanceFree s).blk = s.blk ∧ (advanceFree s).prof = s.prof ∧ (advanceFree s).link = s.link ∧
    (advanceFree s).tripco = s.tripco ∧ (advanceFree s).hunt = s.hunt ∧ (advanceFree s).handovers = s.handovers ∧
    (advanceFree s).pending = s.pending ∧ (advanceFree s).cport = s.cport ∧ (advanceFree s).isRun = s.isRun ∧
    (advanceFree s).image = s.image ∧ (advanceFree s).address = s.address := by
  simp only [advanceFree]
  simp [State.isRun, State.image, State.address]

end Sys2Proof.Machine
end

