-- ==== Sys2Proof/Laws/Blocks.lean ====
section
/-! SUPPORT. What the operations of SEQ, BLK and the own side of TRIPCO leave unchanged:
one frame lemma for each, so that no later proof unfolds it. -/

namespace Sys2Proof.Machine

@[simp] theorem beginEpisode_frame (s : State) :
    (beginEpisode s).now = s.now ∧ (beginEpisode s).resetHeld = s.resetHeld ∧ (beginEpisode s).meas = s.meas ∧
    (beginEpisode s).elem = s.elem ∧ (beginEpisode s).fin = s.fin ∧ (beginEpisode s).sequencer = s.sequencer ∧
    (beginEpisode s).blk = s.blk ∧ (beginEpisode s).prof = s.prof ∧ (beginEpisode s).link = s.link ∧
    (beginEpisode s).tripco.records = s.tripco.records ∧ (beginEpisode s).hunt = s.hunt ∧
    (beginEpisode s).pending = s.pending ∧ (beginEpisode s).freeCount = s.freeCount ∧
    (beginEpisode s).cport = s.cport ∧ (beginEpisode s).isRun = s.isRun ∧ (beginEpisode s).image = s.image ∧
    (beginEpisode s).address = s.address := by
  simp only [beginEpisode]
  simp [State.isRun, State.image, State.address]

@[simp] theorem endEpisode_frame (s : State) :
    (endEpisode s).now = s.now ∧ (endEpisode s).resetHeld = s.resetHeld ∧ (endEpisode s).meas = s.meas ∧
    (endEpisode s).elem = s.elem ∧ (endEpisode s).fin = s.fin ∧ (endEpisode s).sequencer = s.sequencer ∧
    (endEpisode s).blk = s.blk ∧ (endEpisode s).prof = s.prof ∧ (endEpisode s).link = s.link ∧
    (endEpisode s).tripco.records = s.tripco.records ∧ (endEpisode s).hunt = s.hunt ∧
    (endEpisode s).pending = s.pending ∧ (endEpisode s).freeCount = s.freeCount ∧ (endEpisode s).cport = s.cport ∧
    (endEpisode s).isRun = s.isRun ∧ (endEpisode s).image = s.image ∧ (endEpisode s).address = s.address := by
  simp only [endEpisode]
  (repeat' split) <;> simp [State.isRun, State.image, State.address]

@[simp] theorem noteTripping_frame (s : State) :
    (noteTripping s).now = s.now ∧ (noteTripping s).resetHeld = s.resetHeld ∧ (noteTripping s).meas = s.meas ∧
    (noteTripping s).elem = s.elem ∧ (noteTripping s).fin = s.fin ∧ (noteTripping s).sequencer = s.sequencer ∧
    (noteTripping s).blk = s.blk ∧ (noteTripping s).prof = s.prof ∧ (noteTripping s).link = s.link ∧
    (noteTripping s).tripco.records = s.tripco.records ∧ (noteTripping s).hunt = s.hunt ∧
    (noteTripping s).handovers = s.handovers ∧ (noteTripping s).pending = s.pending ∧
    (noteTripping s).freeCount = s.freeCount ∧ (noteTripping s).cport = s.cport ∧ (noteTripping s).isRun = s.isRun ∧
    (noteTripping s).image = s.image ∧ (noteTripping s).address = s.address := by
  simp only [noteTripping]
  simp [State.isRun, State.image, State.address]

@[simp] theorem tripcoReview_frame (s : State) :
    (tripcoReview s).now = s.now ∧ (tripcoReview s).resetHeld = s.resetHeld ∧ (tripcoReview s).meas = s.meas ∧
    (tripcoReview s).elem = s.elem ∧ (tripcoReview s).fin = s.fin ∧ (tripcoReview s).sequencer = s.sequencer ∧
    (tripcoReview s).blk = s.blk ∧ (tripcoReview s).prof = s.prof ∧ (tripcoReview s).link = s.link ∧
    (tripcoReview s).tripco.records = s.tripco.records ∧ (tripcoReview s).hunt = s.hunt ∧
    (tripcoReview s).pending = s.pending ∧ (tripcoReview s).freeCount = s.freeCount ∧
    (tripcoReview s).cport = s.cport ∧ (tripcoReview s).isRun = s.isRun ∧ (tripcoReview s).image = s.image ∧
    (tripcoReview s).address = s.address := by
  simp only [tripcoReview]
  (repeat' split) <;> simp [State.isRun, State.image, State.address]

@[simp] theorem storeBlock_frame (k : BlockKey) (e : BlockEffect) (d : Option Nat) (s : State) :
    (storeBlock k e d s).now = s.now ∧ (storeBlock k e d s).resetHeld = s.resetHeld ∧
    (storeBlock k e d s).meas = s.meas ∧ (storeBlock k e d s).elem = s.elem ∧ (storeBlock k e d s).fin = s.fin ∧
    (storeBlock k e d s).sequencer = s.sequencer ∧ (storeBlock k e d s).blk.watches = s.blk.watches ∧
    (storeBlock k e d s).prof = s.prof ∧ (storeBlock k e d s).link = s.link ∧
    (storeBlock k e d s).tripco = s.tripco ∧ (storeBlock k e d s).hunt = s.hunt ∧
    (storeBlock k e d s).handovers = s.handovers ∧ (storeBlock k e d s).pending = s.pending ∧
    (storeBlock k e d s).freeCount = s.freeCount ∧ (storeBlock k e d s).cport.part = s.cport.part ∧
    (storeBlock k e d s).cport.staging = s.cport.staging ∧ (storeBlock k e d s).cport.locked = s.cport.locked ∧
    (storeBlock k e d s).cport.trans = s.cport.trans ∧ (storeBlock k e d s).cport.rxBuf = s.cport.rxBuf ∧
    (storeBlock k e d s).cport.resp = s.cport.resp ∧ (storeBlock k e d s).cport.respPos = s.cport.respPos ∧
    (storeBlock k e d s).cport.pdo = s.cport.pdo ∧ (storeBlock k e d s).isRun = s.isRun ∧
    (storeBlock k e d s).image = s.image ∧ (storeBlock k e d s).address = s.address := by
  simp only [storeBlock]
  (repeat' split) <;> simp [State.isRun, State.image, State.address]

@[simp] theorem queueProfileChanged_frame (c : ProfileChange) (p : Profile) (s : State) :
    (queueProfileChanged c p s).now = s.now ∧ (queueProfileChanged c p s).resetHeld = s.resetHeld ∧
    (queueProfileChanged c p s).meas = s.meas ∧ (queueProfileChanged c p s).elem = s.elem ∧
    (queueProfileChanged c p s).fin = s.fin ∧ (queueProfileChanged c p s).sequencer = s.sequencer ∧
    (queueProfileChanged c p s).blk = s.blk ∧ (queueProfileChanged c p s).prof = s.prof ∧
    (queueProfileChanged c p s).link = s.link ∧ (queueProfileChanged c p s).tripco = s.tripco ∧
    (queueProfileChanged c p s).hunt = s.hunt ∧ (queueProfileChanged c p s).handovers = s.handovers ∧
    (queueProfileChanged c p s).pending = s.pending ∧ (queueProfileChanged c p s).freeCount = s.freeCount ∧
    (queueProfileChanged c p s).cport.part = s.cport.part ∧
    (queueProfileChanged c p s).cport.staging = s.cport.staging ∧
    (queueProfileChanged c p s).cport.locked = s.cport.locked ∧
    (queueProfileChanged c p s).cport.trans = s.cport.trans ∧
    (queueProfileChanged c p s).cport.rxBuf = s.cport.rxBuf ∧ (queueProfileChanged c p s).cport.resp = s.cport.resp ∧
    (queueProfileChanged c p s).cport.respPos = s.cport.respPos ∧
    (queueProfileChanged c p s).cport.pdo = s.cport.pdo ∧ (queueProfileChanged c p s).isRun = s.isRun ∧
    (queueProfileChanged c p s).image = s.image ∧ (queueProfileChanged c p s).address = s.address := by
  simp only [queueProfileChanged]
  simp [State.isRun, State.image, State.address]

@[simp] theorem completeRelax_frame (s : State) :
    (completeRelax s).now = s.now ∧ (completeRelax s).resetHeld = s.resetHeld ∧ (completeRelax s).meas = s.meas ∧
    (completeRelax s).elem = s.elem ∧ (completeRelax s).fin = s.fin ∧ (completeRelax s).sequencer = s.sequencer ∧
    (completeRelax s).blk = s.blk ∧ (completeRelax s).link = s.link ∧ (completeRelax s).tripco = s.tripco ∧
    (completeRelax s).hunt = s.hunt ∧ (completeRelax s).pending = s.pending ∧
    (completeRelax s).freeCount = s.freeCount ∧ (completeRelax s).cport.part = s.cport.part ∧
    (completeRelax s).cport.staging = s.cport.staging ∧ (completeRelax s).cport.locked = s.cport.locked ∧
    (completeRelax s).cport.trans = s.cport.trans ∧ (completeRelax s).cport.rxBuf = s.cport.rxBuf ∧
    (completeRelax s).cport.resp = s.cport.resp ∧ (completeRelax s).cport.respPos = s.cport.respPos ∧
    (completeRelax s).cport.pdo = s.cport.pdo ∧ (completeRelax s).isRun = s.isRun ∧
    (completeRelax s).image = s.image ∧ (completeRelax s).address = s.address := by
  simp only [completeRelax]
  simp [State.isRun, State.image, State.address]

@[simp] theorem profRest_frame (s : State) :
    (profRest s).now = s.now ∧ (profRest s).resetHeld = s.resetHeld ∧ (profRest s).meas = s.meas ∧
    (profRest s).elem = s.elem ∧ (profRest s).fin = s.fin ∧ (profRest s).sequencer = s.sequencer ∧
    (profRest s).blk = s.blk ∧ (profRest s).link = s.link ∧ (profRest s).tripco = s.tripco ∧
    (profRest s).hunt = s.hunt ∧ (profRest s).pending = s.pending ∧ (profRest s).freeCount = s.freeCount ∧
    (profRest s).cport.part = s.cport.part ∧ (profRest s).cport.staging = s.cport.staging ∧
    (profRest s).cport.locked = s.cport.locked ∧ (profRest s).cport.trans = s.cport.trans ∧
    (profRest s).cport.rxBuf = s.cport.rxBuf ∧ (profRest s).cport.resp = s.cport.resp ∧
    (profRest s).cport.respPos = s.cport.respPos ∧ (profRest s).cport.pdo = s.cport.pdo ∧
    (profRest s).isRun = s.isRun ∧ (profRest s).image = s.image ∧ (profRest s).address = s.address := by
  simp only [profRest]
  (repeat' split) <;> simp [State.isRun, State.image, State.address]

@[simp] theorem expireRelax_frame (s : State) :
    (expireRelax s).now = s.now ∧ (expireRelax s).resetHeld = s.resetHeld ∧ (expireRelax s).meas = s.meas ∧
    (expireRelax s).elem = s.elem ∧ (expireRelax s).fin = s.fin ∧ (expireRelax s).sequencer = s.sequencer ∧
    (expireRelax s).blk = s.blk ∧ (expireRelax s).link = s.link ∧ (expireRelax s).tripco = s.tripco ∧
    (expireRelax s).hunt = s.hunt ∧ (expireRelax s).pending = s.pending ∧ (expireRelax s).freeCount = s.freeCount ∧
    (expireRelax s).cport.part = s.cport.part ∧ (expireRelax s).cport.staging = s.cport.staging ∧
    (expireRelax s).cport.locked = s.cport.locked ∧ (expireRelax s).cport.trans = s.cport.trans ∧
    (expireRelax s).cport.rxBuf = s.cport.rxBuf ∧ (expireRelax s).cport.resp = s.cport.resp ∧
    (expireRelax s).cport.respPos = s.cport.respPos ∧ (expireRelax s).cport.pdo = s.cport.pdo ∧
    (expireRelax s).isRun = s.isRun ∧ (expireRelax s).image = s.image ∧ (expireRelax s).address = s.address := by
  simp only [expireRelax]
  (repeat' split) <;> simp [State.isRun, State.image, State.address]

@[simp] theorem forceStatic_frame (s : State) :
    (forceStatic s).now = s.now ∧ (forceStatic s).resetHeld = s.resetHeld ∧ (forceStatic s).meas = s.meas ∧
    (forceStatic s).elem = s.elem ∧ (forceStatic s).fin.position = s.fin.position ∧
    (forceStatic s).fin.fieldDemand = s.fin.fieldDemand ∧ (forceStatic s).fin.discrepancy = s.fin.discrepancy ∧
    (forceStatic s).fin.discAt = s.fin.discAt ∧ (forceStatic s).fin.nextPeriodAt = s.fin.nextPeriodAt ∧
    (forceStatic s).fin.sense = s.fin.sense ∧ (forceStatic s).sequencer = s.sequencer ∧ (forceStatic s).blk = s.blk ∧
    (forceStatic s).prof = s.prof ∧ (forceStatic s).link = s.link ∧ (forceStatic s).tripco = s.tripco ∧
    (forceStatic s).hunt = s.hunt ∧ (forceStatic s).handovers = s.handovers ∧ (forceStatic s).pending = s.pending ∧
    (forceStatic s).freeCount = s.freeCount ∧ (forceStatic s).cport = s.cport ∧ (forceStatic s).isRun = s.isRun ∧
    (forceStatic s).image = s.image ∧ (forceStatic s).address = s.address := by
  simp only [forceStatic]
  (repeat' split) <;> simp [State.isRun, State.image, State.address]

@[simp] theorem handTransition_frame (s : State) :
    (handTransition s).now = s.now ∧ (handTransition s).resetHeld = s.resetHeld ∧ (handTransition s).meas = s.meas ∧
    (handTransition s).elem = s.elem ∧ (handTransition s).fin.position = s.fin.position ∧
    (handTransition s).fin.fieldDemand = s.fin.fieldDemand ∧ (handTransition s).fin.discrepancy = s.fin.discrepancy ∧
    (handTransition s).fin.discAt = s.fin.discAt ∧ (handTransition s).fin.nextPeriodAt = s.fin.nextPeriodAt ∧
    (handTransition s).fin.sense = s.fin.sense ∧ (handTransition s).sequencer = s.sequencer ∧
    (handTransition s).blk = s.blk ∧ (handTransition s).prof = s.prof ∧ (handTransition s).link = s.link ∧
    (handTransition s).tripco.records = s.tripco.records ∧ (handTransition s).hunt = s.hunt ∧
    (handTransition s).pending = s.pending ∧ (handTransition s).freeCount = s.freeCount ∧
    (handTransition s).cport = s.cport ∧ (handTransition s).isRun = s.isRun ∧ (handTransition s).image = s.image ∧
    (handTransition s).address = s.address := by
  simp only [handTransition]
  simp [State.isRun, State.image, State.address]

@[simp] theorem seqEnter_frame (st : SeqState) (d : Option Ms) (s : State) :
    (seqEnter st d s).now = s.now ∧ (seqEnter st d s).resetHeld = s.resetHeld ∧ (seqEnter st d s).meas = s.meas ∧
    (seqEnter st d s).elem = s.elem ∧ (seqEnter st d s).fin = s.fin ∧ (seqEnter st d s).blk = s.blk ∧
    (seqEnter st d s).prof = s.prof ∧ (seqEnter st d s).link = s.link ∧ (seqEnter st d s).tripco = s.tripco ∧
    (seqEnter st d s).hunt = s.hunt ∧ (seqEnter st d s).handovers = s.handovers ∧
    (seqEnter st d s).pending = s.pending ∧ (seqEnter st d s).freeCount = s.freeCount ∧
    (seqEnter st d s).cport = s.cport ∧ (seqEnter st d s).isRun = s.isRun ∧ (seqEnter st d s).image = s.image ∧
    (seqEnter st d s).address = s.address := by
  simp only [seqEnter]
  simp [State.isRun, State.image, State.address]

@[simp] theorem placeStateFrame_frame (s : State) :
    (placeStateFrame s).now = s.now ∧ (placeStateFrame s).resetHeld = s.resetHeld ∧
    (placeStateFrame s).meas = s.meas ∧ (placeStateFrame s).elem = s.elem ∧ (placeStateFrame s).fin = s.fin ∧
    (placeStateFrame s).sequencer = s.sequencer ∧ (placeStateFrame s).blk = s.blk ∧
    (placeStateFrame s).prof = s.prof ∧ (placeStateFrame s).link = s.link ∧ (placeStateFrame s).tripco = s.tripco ∧
    (placeStateFrame s).hunt = s.hunt ∧ (placeStateFrame s).pending = s.pending ∧
    (placeStateFrame s).freeCount = s.freeCount ∧ (placeStateFrame s).cport = s.cport ∧
    (placeStateFrame s).isRun = s.isRun ∧ (placeStateFrame s).image = s.image ∧
    (placeStateFrame s).address = s.address := by
  simp only [placeStateFrame]
  simp [State.isRun, State.image, State.address]

@[simp] theorem announceState_frame (r : Reason) (s : State) :
    (announceState r s).now = s.now ∧ (announceState r s).resetHeld = s.resetHeld ∧
    (announceState r s).meas = s.meas ∧ (announceState r s).elem = s.elem ∧ (announceState r s).fin = s.fin ∧
    (announceState r s).sequencer = s.sequencer ∧ (announceState r s).blk = s.blk ∧
    (announceState r s).prof = s.prof ∧ (announceState r s).link = s.link ∧ (announceState r s).tripco = s.tripco ∧
    (announceState r s).hunt = s.hunt ∧ (announceState r s).pending = s.pending ∧
    (announceState r s).freeCount = s.freeCount ∧ (announceState r s).cport.part = s.cport.part ∧
    (announceState r s).cport.staging = s.cport.staging ∧ (announceState r s).cport.locked = s.cport.locked ∧
    (announceState r s).cport.trans = s.cport.trans ∧ (announceState r s).cport.rxBuf = s.cport.rxBuf ∧
    (announceState r s).cport.resp = s.cport.resp ∧ (announceState r s).cport.respPos = s.cport.respPos ∧
    (announceState r s).cport.pdo = s.cport.pdo ∧ (announceState r s).isRun = s.isRun ∧
    (announceState r s).image = s.image ∧ (announceState r s).address = s.address := by
  simp only [announceState]
  simp [State.isRun, State.image, State.address]

@[simp] theorem seqMove_frame (st : SeqState) (d : Option Ms) (r : Reason) (s : State) :
    (seqMove st d r s).now = s.now ∧ (seqMove st d r s).resetHeld = s.resetHeld ∧ (seqMove st d r s).meas = s.meas ∧
    (seqMove st d r s).elem = s.elem ∧ (seqMove st d r s).fin.position = s.fin.position ∧
    (seqMove st d r s).fin.fieldDemand = s.fin.fieldDemand ∧ (seqMove st d r s).fin.discrepancy = s.fin.discrepancy ∧
    (seqMove st d r s).fin.discAt = s.fin.discAt ∧ (seqMove st d r s).fin.nextPeriodAt = s.fin.nextPeriodAt ∧
    (seqMove st d r s).fin.sense = s.fin.sense ∧ (seqMove st d r s).blk = s.blk ∧ (seqMove st d r s).prof = s.prof ∧
    (seqMove st d r s).link = s.link ∧ (seqMove st d r s).tripco.records = s.tripco.records ∧
    (seqMove st d r s).hunt = s.hunt ∧ (seqMove st d r s).pending = s.pending ∧
    (seqMove st d r s).freeCount = s.freeCount ∧ (seqMove st d r s).cport.part = s.cport.part ∧
    (seqMove st d r s).cport.staging = s.cport.staging ∧ (seqMove st d r s).cport.locked = s.cport.locked ∧
    (seqMove st d r s).cport.trans = s.cport.trans ∧ (seqMove st d r s).cport.rxBuf = s.cport.rxBuf ∧
    (seqMove st d r s).cport.resp = s.cport.resp ∧ (seqMove st d r s).cport.respPos = s.cport.respPos ∧
    (seqMove st d r s).cport.pdo = s.cport.pdo ∧ (seqMove st d r s).isRun = s.isRun ∧
    (seqMove st d r s).image = s.image ∧ (seqMove st d r s).address = s.address := by
  simp only [seqMove]
  simp [State.isRun, State.image, State.address]

@[simp] theorem seqSlip_frame (st : SeqState) (d : Option Ms) (s : State) :
    (seqSlip st d s).now = s.now ∧ (seqSlip st d s).resetHeld = s.resetHeld ∧ (seqSlip st d s).meas = s.meas ∧
    (seqSlip st d s).elem = s.elem ∧ (seqSlip st d s).fin.position = s.fin.position ∧
    (seqSlip st d s).fin.fieldDemand = s.fin.fieldDemand ∧ (seqSlip st d s).fin.discrepancy = s.fin.discrepancy ∧
    (seqSlip st d s).fin.discAt = s.fin.discAt ∧ (seqSlip st d s).fin.nextPeriodAt = s.fin.nextPeriodAt ∧
    (seqSlip st d s).fin.sense = s.fin.sense ∧ (seqSlip st d s).blk = s.blk ∧ (seqSlip st d s).prof = s.prof ∧
    (seqSlip st d s).link = s.link ∧ (seqSlip st d s).tripco.records = s.tripco.records ∧
    (seqSlip st d s).hunt = s.hunt ∧ (seqSlip st d s).pending = s.pending ∧
    (seqSlip st d s).freeCount = s.freeCount ∧ (seqSlip st d s).cport = s.cport ∧ (seqSlip st d s).isRun = s.isRun ∧
    (seqSlip st d s).image = s.image ∧ (seqSlip st d s).address = s.address := by
  simp only [seqSlip]
  simp [State.isRun, State.image, State.address]

@[simp] theorem announceTrip_frame (s : State) :
    (announceTrip s).now = s.now ∧ (announceTrip s).resetHeld = s.resetHeld ∧ (announceTrip s).meas = s.meas ∧
    (announceTrip s).elem = s.elem ∧ (announceTrip s).fin = s.fin ∧ (announceTrip s).sequencer = s.sequencer ∧
    (announceTrip s).blk = s.blk ∧ (announceTrip s).prof = s.prof ∧ (announceTrip s).link = s.link ∧
    (announceTrip s).tripco = s.tripco ∧ (announceTrip s).hunt = s.hunt ∧ (announceTrip s).pending = s.pending ∧
    (announceTrip s).freeCount = s.freeCount ∧ (announceTrip s).cport.part = s.cport.part ∧
    (announceTrip s).cport.staging = s.cport.staging ∧ (announceTrip s).cport.locked = s.cport.locked ∧
    (announceTrip s).cport.trans = s.cport.trans ∧ (announceTrip s).cport.rxBuf = s.cport.rxBuf ∧
    (announceTrip s).cport.resp = s.cport.resp ∧ (announceTrip s).cport.respPos = s.cport.respPos ∧
    (announceTrip s).cport.pdo = s.cport.pdo ∧ (announceTrip s).isRun = s.isRun ∧ (announceTrip s).image = s.image ∧
    (announceTrip s).address = s.address := by
  simp only [announceTrip]
  simp [State.isRun, State.image, State.address]

@[simp] theorem announceFailure_frame (op : FailedOp) (s : State) :
    (announceFailure op s).now = s.now ∧ (announceFailure op s).resetHeld = s.resetHeld ∧
    (announceFailure op s).meas = s.meas ∧ (announceFailure op s).elem = s.elem ∧
    (announceFailure op s).fin = s.fin ∧ (announceFailure op s).sequencer = s.sequencer ∧
    (announceFailure op s).blk = s.blk ∧ (announceFailure op s).prof = s.prof ∧
    (announceFailure op s).link = s.link ∧ (announceFailure op s).tripco = s.tripco ∧
    (announceFailure op s).hunt = s.hunt ∧ (announceFailure op s).pending = s.pending ∧
    (announceFailure op s).freeCount = s.freeCount ∧ (announceFailure op s).cport.part = s.cport.part ∧
    (announceFailure op s).cport.staging = s.cport.staging ∧ (announceFailure op s).cport.locked = s.cport.locked ∧
    (announceFailure op s).cport.trans = s.cport.trans ∧ (announceFailure op s).cport.rxBuf = s.cport.rxBuf ∧
    (announceFailure op s).cport.resp = s.cport.resp ∧ (announceFailure op s).cport.respPos = s.cport.respPos ∧
    (announceFailure op s).cport.pdo = s.cport.pdo ∧ (announceFailure op s).isRun = s.isRun ∧
    (announceFailure op s).image = s.image ∧ (announceFailure op s).address = s.address := by
  simp only [announceFailure]
  (repeat' split) <;> simp [State.isRun, State.image, State.address]

@[simp] theorem seqOpened_frame (s : State) :
    (seqOpened s).now = s.now ∧ (seqOpened s).resetHeld = s.resetHeld ∧ (seqOpened s).meas = s.meas ∧
    (seqOpened s).elem = s.elem ∧ (seqOpened s).fin.position = s.fin.position ∧
    (seqOpened s).fin.fieldDemand = s.fin.fieldDemand ∧ (seqOpened s).fin.discrepancy = s.fin.discrepancy ∧
    (seqOpened s).fin.discAt = s.fin.discAt ∧ (seqOpened s).fin.nextPeriodAt = s.fin.nextPeriodAt ∧
    (seqOpened s).fin.sense = s.fin.sense ∧ (seqOpened s).blk = s.blk ∧ (seqOpened s).prof = s.prof ∧
    (seqOpened s).link = s.link ∧ (seqOpened s).tripco.records = s.tripco.records ∧ (seqOpened s).hunt = s.hunt ∧
    (seqOpened s).pending = s.pending ∧ (seqOpened s).freeCount = s.freeCount ∧
    (seqOpened s).cport.part = s.cport.part ∧ (seqOpened s).cport.staging = s.cport.staging ∧
    (seqOpened s).cport.locked = s.cport.locked ∧ (seqOpened s).cport.trans = s.cport.trans ∧
    (seqOpened s).cport.rxBuf = s.cport.rxBuf ∧ (seqOpened s).cport.resp = s.cport.resp ∧
    (seqOpened s).cport.respPos = s.cport.respPos ∧ (seqOpened s).cport.pdo = s.cport.pdo ∧
    (seqOpened s).isRun = s.isRun ∧ (seqOpened s).image = s.image ∧ (seqOpened s).address = s.address := by
  simp only [seqOpened]
  (repeat' split) <;> simp [State.isRun, State.image, State.address]

@[simp] theorem seqClosed_frame (s : State) :
    (seqClosed s).now = s.now ∧ (seqClosed s).resetHeld = s.resetHeld ∧ (seqClosed s).meas = s.meas ∧
    (seqClosed s).elem = s.elem ∧ (seqClosed s).fin.position = s.fin.position ∧
    (seqClosed s).fin.fieldDemand = s.fin.fieldDemand ∧ (seqClosed s).fin.discrepancy = s.fin.discrepancy ∧
    (seqClosed s).fin.discAt = s.fin.discAt ∧ (seqClosed s).fin.nextPeriodAt = s.fin.nextPeriodAt ∧
    (seqClosed s).fin.sense = s.fin.sense ∧ (seqClosed s).blk = s.blk ∧ (seqClosed s).prof = s.prof ∧
    (seqClosed s).link = s.link ∧ (seqClosed s).tripco.records = s.tripco.records ∧ (seqClosed s).hunt = s.hunt ∧
    (seqClosed s).pending = s.pending ∧ (seqClosed s).freeCount = s.freeCount ∧
    (seqClosed s).cport.part = s.cport.part ∧ (seqClosed s).cport.staging = s.cport.staging ∧
    (seqClosed s).cport.locked = s.cport.locked ∧ (seqClosed s).cport.trans = s.cport.trans ∧
    (seqClosed s).cport.rxBuf = s.cport.rxBuf ∧ (seqClosed s).cport.resp = s.cport.resp ∧
    (seqClosed s).cport.respPos = s.cport.respPos ∧ (seqClosed s).cport.pdo = s.cport.pdo ∧
    (seqClosed s).isRun = s.isRun ∧ (seqClosed s).image = s.image ∧ (seqClosed s).address = s.address := by
  simp only [seqClosed]
  simp [State.isRun, State.image, State.address]

@[simp] theorem seqClosing_frame (s : State) :
    (seqClosing s).now = s.now ∧ (seqClosing s).resetHeld = s.resetHeld ∧ (seqClosing s).meas = s.meas ∧
    (seqClosing s).elem = s.elem ∧ (seqClosing s).fin.position = s.fin.position ∧
    (seqClosing s).fin.fieldDemand = s.fin.fieldDemand ∧ (seqClosing s).fin.discrepancy = s.fin.discrepancy ∧
    (seqClosing s).fin.discAt = s.fin.discAt ∧ (seqClosing s).fin.nextPeriodAt = s.fin.nextPeriodAt ∧
    (seqClosing s).fin.sense = s.fin.sense ∧ (seqClosing s).blk = s.blk ∧ (seqClosing s).prof = s.prof ∧
    (seqClosing s).link = s.link ∧ (seqClosing s).tripco.records = s.tripco.records ∧ (seqClosing s).hunt = s.hunt ∧
    (seqClosing s).pending = s.pending ∧ (seqClosing s).freeCount = s.freeCount ∧
    (seqClosing s).cport.part = s.cport.part ∧ (seqClosing s).cport.staging = s.cport.staging ∧
    (seqClosing s).cport.locked = s.cport.locked ∧ (seqClosing s).cport.trans = s.cport.trans ∧
    (seqClosing s).cport.rxBuf = s.cport.rxBuf ∧ (seqClosing s).cport.resp = s.cport.resp ∧
    (seqClosing s).cport.respPos = s.cport.respPos ∧ (seqClosing s).cport.pdo = s.cport.pdo ∧
    (seqClosing s).isRun = s.isRun ∧ (seqClosing s).image = s.image ∧ (seqClosing s).address = s.address := by
  simp only [seqClosing]
  (repeat' split) <;> simp [State.isRun, State.image, State.address]

@[simp] theorem seqFail_frame (op : FailedOp) (r : Reason) (s : State) :
    (seqFail op r s).now = s.now ∧ (seqFail op r s).resetHeld = s.resetHeld ∧ (seqFail op r s).meas = s.meas ∧
    (seqFail op r s).elem = s.elem ∧ (seqFail op r s).fin.position = s.fin.position ∧
    (seqFail op r s).fin.fieldDemand = s.fin.fieldDemand ∧ (seqFail op r s).fin.discrepancy = s.fin.discrepancy ∧
    (seqFail op r s).fin.discAt = s.fin.discAt ∧ (seqFail op r s).fin.nextPeriodAt = s.fin.nextPeriodAt ∧
    (seqFail op r s).fin.sense = s.fin.sense ∧ (seqFail op r s).blk = s.blk ∧ (seqFail op r s).prof = s.prof ∧
    (seqFail op r s).link = s.link ∧ (seqFail op r s).tripco.records = s.tripco.records ∧
    (seqFail op r s).hunt = s.hunt ∧ (seqFail op r s).pending = s.pending ∧
    (seqFail op r s).freeCount = s.freeCount ∧ (seqFail op r s).cport.part = s.cport.part ∧
    (seqFail op r s).cport.staging = s.cport.staging ∧ (seqFail op r s).cport.locked = s.cport.locked ∧
    (seqFail op r s).cport.trans = s.cport.trans ∧ (seqFail op r s).cport.rxBuf = s.cport.rxBuf ∧
    (seqFail op r s).cport.resp = s.cport.resp ∧ (seqFail op r s).cport.respPos = s.cport.respPos ∧
    (seqFail op r s).cport.pdo = s.cport.pdo ∧ (seqFail op r s).isRun = s.isRun ∧ (seqFail op r s).image = s.image ∧
    (seqFail op r s).address = s.address := by
  simp only [seqFail]
  simp [State.isRun, State.image, State.address]

@[simp] theorem takeOpenAtOnce_frame (s : State) :
    (takeOpenAtOnce s).now = s.now ∧ (takeOpenAtOnce s).resetHeld = s.resetHeld ∧ (takeOpenAtOnce s).meas = s.meas ∧
    (takeOpenAtOnce s).elem = s.elem ∧ (takeOpenAtOnce s).fin.position = s.fin.position ∧
    (takeOpenAtOnce s).fin.fieldDemand = s.fin.fieldDemand ∧ (takeOpenAtOnce s).fin.discrepancy = s.fin.discrepancy ∧
    (takeOpenAtOnce s).fin.discAt = s.fin.discAt ∧ (takeOpenAtOnce s).fin.nextPeriodAt = s.fin.nextPeriodAt ∧
    (takeOpenAtOnce s).fin.sense = s.fin.sense ∧ (takeOpenAtOnce s).blk = s.blk ∧ (takeOpenAtOnce s).prof = s.prof ∧
    (takeOpenAtOnce s).link = s.link ∧ (takeOpenAtOnce s).tripco.records = s.tripco.records ∧
    (takeOpenAtOnce s).hunt = s.hunt ∧ (takeOpenAtOnce s).pending = s.pending ∧
    (takeOpenAtOnce s).freeCount = s.freeCount ∧ (takeOpenAtOnce s).cport.part = s.cport.part ∧
    (takeOpenAtOnce s).cport.staging = s.cport.staging ∧ (takeOpenAtOnce s).cport.locked = s.cport.locked ∧
    (takeOpenAtOnce s).cport.trans = s.cport.trans ∧ (takeOpenAtOnce s).cport.rxBuf = s.cport.rxBuf ∧
    (takeOpenAtOnce s).cport.resp = s.cport.resp ∧ (takeOpenAtOnce s).cport.respPos = s.cport.respPos ∧
    (takeOpenAtOnce s).cport.pdo = s.cport.pdo ∧ (takeOpenAtOnce s).isRun = s.isRun ∧
    (takeOpenAtOnce s).image = s.image ∧ (takeOpenAtOnce s).address = s.address := by
  simp only [takeOpenAtOnce]
  (repeat' split) <;> simp [State.isRun, State.image, State.address]

@[simp] theorem finishTrip_frame (s : State) :
    (finishTrip s).now = s.now ∧ (finishTrip s).resetHeld = s.resetHeld ∧ (finishTrip s).meas = s.meas ∧
    (finishTrip s).elem = s.elem ∧ (finishTrip s).fin.position = s.fin.position ∧
    (finishTrip s).fin.fieldDemand = s.fin.fieldDemand ∧ (finishTrip s).fin.discrepancy = s.fin.discrepancy ∧
    (finishTrip s).fin.discAt = s.fin.discAt ∧ (finishTrip s).fin.nextPeriodAt = s.fin.nextPeriodAt ∧
    (finishTrip s).fin.sense = s.fin.sense ∧ (finishTrip s).blk = s.blk ∧ (finishTrip s).prof = s.prof ∧
    (finishTrip s).link = s.link ∧ (finishTrip s).tripco.records = s.tripco.records ∧ (finishTrip s).hunt = s.hunt ∧
    (finishTrip s).pending = s.pending ∧ (finishTrip s).freeCount = s.freeCount ∧
    (finishTrip s).cport.part = s.cport.part ∧ (finishTrip s).cport.staging = s.cport.staging ∧
    (finishTrip s).cport.locked = s.cport.locked ∧ (finishTrip s).cport.trans = s.cport.trans ∧
    (finishTrip s).cport.rxBuf = s.cport.rxBuf ∧ (finishTrip s).cport.resp = s.cport.resp ∧
    (finishTrip s).cport.respPos = s.cport.respPos ∧ (finishTrip s).cport.pdo = s.cport.pdo ∧
    (finishTrip s).isRun = s.isRun ∧ (finishTrip s).image = s.image ∧ (finishTrip s).address = s.address := by
  simp only [finishTrip]
  simp [State.isRun, State.image, State.address]

@[simp] theorem takeTrip_frame (c : ProtCause) (s : State) :
    (takeTrip c s).now = s.now ∧ (takeTrip c s).resetHeld = s.resetHeld ∧ (takeTrip c s).meas = s.meas ∧
    (takeTrip c s).elem = s.elem ∧ (takeTrip c s).fin.position = s.fin.position ∧
    (takeTrip c s).fin.fieldDemand = s.fin.fieldDemand ∧ (takeTrip c s).fin.discrepancy = s.fin.discrepancy ∧
    (takeTrip c s).fin.discAt = s.fin.discAt ∧ (takeTrip c s).fin.nextPeriodAt = s.fin.nextPeriodAt ∧
    (takeTrip c s).fin.sense = s.fin.sense ∧ (takeTrip c s).blk.watches = s.blk.watches ∧
    (takeTrip c s).prof = s.prof ∧ (takeTrip c s).link = s.link ∧ (takeTrip c s).tripco.records = s.tripco.records ∧
    (takeTrip c s).hunt = s.hunt ∧ (takeTrip c s).pending = s.pending ∧ (takeTrip c s).freeCount = s.freeCount ∧
    (takeTrip c s).cport.part = s.cport.part ∧ (takeTrip c s).cport.staging = s.cport.staging ∧
    (takeTrip c s).cport.locked = s.cport.locked ∧ (takeTrip c s).cport.trans = s.cport.trans ∧
    (takeTrip c s).cport.rxBuf = s.cport.rxBuf ∧ (takeTrip c s).cport.resp = s.cport.resp ∧
    (takeTrip c s).cport.respPos = s.cport.respPos ∧ (takeTrip c s).cport.pdo = s.cport.pdo ∧
    (takeTrip c s).isRun = s.isRun ∧ (takeTrip c s).image = s.image ∧ (takeTrip c s).address = s.address := by
  simp only [takeTrip]
  (repeat' split) <;> simp [State.isRun, State.image, State.address]

@[simp] theorem takeManualTrip_frame (s : State) :
    (takeManualTrip s).now = s.now ∧ (takeManualTrip s).resetHeld = s.resetHeld ∧ (takeManualTrip s).meas = s.meas ∧
    (takeManualTrip s).elem = s.elem ∧ (takeManualTrip s).fin.position = s.fin.position ∧
    (takeManualTrip s).fin.fieldDemand = s.fin.fieldDemand ∧ (takeManualTrip s).fin.discrepancy = s.fin.discrepancy ∧
    (takeManualTrip s).fin.discAt = s.fin.discAt ∧ (takeManualTrip s).fin.nextPeriodAt = s.fin.nextPeriodAt ∧
    (takeManualTrip s).fin.sense = s.fin.sense ∧ (takeManualTrip s).blk = s.blk ∧ (takeManualTrip s).prof = s.prof ∧
    (takeManualTrip s).link = s.link ∧ (takeManualTrip s).tripco.records = s.tripco.records ∧
    (takeManualTrip s).hunt = s.hunt ∧ (takeManualTrip s).pending = s.pending ∧
    (takeManualTrip s).freeCount = s.freeCount ∧ (takeManualTrip s).cport.part = s.cport.part ∧
    (takeManualTrip s).cport.staging = s.cport.staging ∧ (takeManualTrip s).cport.locked = s.cport.locked ∧
    (takeManualTrip s).cport.trans = s.cport.trans ∧ (takeManualTrip s).cport.rxBuf = s.cport.rxBuf ∧
    (takeManualTrip s).cport.resp = s.cport.resp ∧ (takeManualTrip s).cport.respPos = s.cport.respPos ∧
    (takeManualTrip s).cport.pdo = s.cport.pdo ∧ (takeManualTrip s).isRun = s.isRun ∧
    (takeManualTrip s).image = s.image ∧ (takeManualTrip s).address = s.address := by
  simp only [takeManualTrip]
  simp [State.isRun, State.image, State.address]

@[simp] theorem seqTripRequest_frame (c : ProtCause) (s : State) :
    (seqTripRequest c s).now = s.now ∧ (seqTripRequest c s).resetHeld = s.resetHeld ∧
    (seqTripRequest c s).meas = s.meas ∧ (seqTripRequest c s).elem = s.elem ∧
    (seqTripRequest c s).fin.position = s.fin.position ∧ (seqTripRequest c s).fin.fieldDemand = s.fin.fieldDemand ∧
    (seqTripRequest c s).fin.discrepancy = s.fin.discrepancy ∧ (seqTripRequest c s).fin.discAt = s.fin.discAt ∧
    (seqTripRequest c s).fin.nextPeriodAt = s.fin.nextPeriodAt ∧ (seqTripRequest c s).fin.sense = s.fin.sense ∧
    (seqTripRequest c s).blk.watches = s.blk.watches ∧ (seqTripRequest c s).link = s.link ∧
    (seqTripRequest c s).tripco.records = s.tripco.records ∧ (seqTripRequest c s).hunt = s.hunt ∧
    (seqTripRequest c s).pending = s.pending ∧ (seqTripRequest c s).freeCount = s.freeCount ∧
    (seqTripRequest c s).cport.part = s.cport.part ∧ (seqTripRequest c s).cport.staging = s.cport.staging ∧
    (seqTripRequest c s).cport.locked = s.cport.locked ∧ (seqTripRequest c s).cport.trans = s.cport.trans ∧
    (seqTripRequest c s).cport.rxBuf = s.cport.rxBuf ∧ (seqTripRequest c s).cport.resp = s.cport.resp ∧
    (seqTripRequest c s).cport.respPos = s.cport.respPos ∧ (seqTripRequest c s).cport.pdo = s.cport.pdo ∧
    (seqTripRequest c s).isRun = s.isRun ∧ (seqTripRequest c s).image = s.image ∧
    (seqTripRequest c s).address = s.address := by
  simp only [seqTripRequest]
  (repeat' split) <;> simp [State.isRun, State.image, State.address]

@[simp] theorem seqExternalOpen_frame (s : State) :
    (seqExternalOpen s).now = s.now ∧ (seqExternalOpen s).resetHeld = s.resetHeld ∧
    (seqExternalOpen s).meas = s.meas ∧ (seqExternalOpen s).elem = s.elem ∧
    (seqExternalOpen s).fin.position = s.fin.position ∧ (seqExternalOpen s).fin.fieldDemand = s.fin.fieldDemand ∧
    (seqExternalOpen s).fin.discrepancy = s.fin.discrepancy ∧ (seqExternalOpen s).fin.discAt = s.fin.discAt ∧
    (seqExternalOpen s).fin.nextPeriodAt = s.fin.nextPeriodAt ∧ (seqExternalOpen s).fin.sense = s.fin.sense ∧
    (seqExternalOpen s).blk = s.blk ∧ (seqExternalOpen s).prof = s.prof ∧ (seqExternalOpen s).link = s.link ∧
    (seqExternalOpen s).tripco.records = s.tripco.records ∧ (seqExternalOpen s).hunt = s.hunt ∧
    (seqExternalOpen s).pending = s.pending ∧ (seqExternalOpen s).freeCount = s.freeCount ∧
    (seqExternalOpen s).cport.part = s.cport.part ∧ (seqExternalOpen s).cport.staging = s.cport.staging ∧
    (seqExternalOpen s).cport.locked = s.cport.locked ∧ (seqExternalOpen s).cport.trans = s.cport.trans ∧
    (seqExternalOpen s).cport.rxBuf = s.cport.rxBuf ∧ (seqExternalOpen s).cport.resp = s.cport.resp ∧
    (seqExternalOpen s).cport.respPos = s.cport.respPos ∧ (seqExternalOpen s).cport.pdo = s.cport.pdo ∧
    (seqExternalOpen s).isRun = s.isRun ∧ (seqExternalOpen s).image = s.image ∧
    (seqExternalOpen s).address = s.address := by
  simp only [seqExternalOpen]
  simp [State.isRun, State.image, State.address]

@[simp] theorem seqExternalClose_frame (s : State) :
    (seqExternalClose s).now = s.now ∧ (seqExternalClose s).resetHeld = s.resetHeld ∧
    (seqExternalClose s).meas = s.meas ∧ (seqExternalClose s).elem = s.elem ∧
    (seqExternalClose s).fin.position = s.fin.position ∧ (seqExternalClose s).fin.fieldDemand = s.fin.fieldDemand ∧
    (seqExternalClose s).fin.discrepancy = s.fin.discrepancy ∧ (seqExternalClose s).fin.discAt = s.fin.discAt ∧
    (seqExternalClose s).fin.nextPeriodAt = s.fin.nextPeriodAt ∧ (seqExternalClose s).fin.sense = s.fin.sense ∧
    (seqExternalClose s).blk = s.blk ∧ (seqExternalClose s).prof = s.prof ∧ (seqExternalClose s).link = s.link ∧
    (seqExternalClose s).tripco.records = s.tripco.records ∧ (seqExternalClose s).hunt = s.hunt ∧
    (seqExternalClose s).pending = s.pending ∧ (seqExternalClose s).freeCount = s.freeCount ∧
    (seqExternalClose s).cport.part = s.cport.part ∧ (seqExternalClose s).cport.staging = s.cport.staging ∧
    (seqExternalClose s).cport.locked = s.cport.locked ∧ (seqExternalClose s).cport.trans = s.cport.trans ∧
    (seqExternalClose s).cport.rxBuf = s.cport.rxBuf ∧ (seqExternalClose s).cport.resp = s.cport.resp ∧
    (seqExternalClose s).cport.respPos = s.cport.respPos ∧ (seqExternalClose s).cport.pdo = s.cport.pdo ∧
    (seqExternalClose s).isRun = s.isRun ∧ (seqExternalClose s).image = s.image ∧
    (seqExternalClose s).address = s.address := by
  simp only [seqExternalClose]
  simp [State.isRun, State.image, State.address]

@[simp] theorem seqPosition_frame (s : State) :
    (seqPosition s).now = s.now ∧ (seqPosition s).resetHeld = s.resetHeld ∧ (seqPosition s).meas = s.meas ∧
    (seqPosition s).elem = s.elem ∧ (seqPosition s).fin.position = s.fin.position ∧
    (seqPosition s).fin.fieldDemand = s.fin.fieldDemand ∧ (seqPosition s).fin.discrepancy = s.fin.discrepancy ∧
    (seqPosition s).fin.discAt = s.fin.discAt ∧ (seqPosition s).fin.nextPeriodAt = s.fin.nextPeriodAt ∧
    (seqPosition s).fin.sense = s.fin.sense ∧ (seqPosition s).blk = s.blk ∧ (seqPosition s).link = s.link ∧
    (seqPosition s).tripco.records = s.tripco.records ∧ (seqPosition s).hunt = s.hunt ∧
    (seqPosition s).pending = s.pending ∧ (seqPosition s).freeCount = s.freeCount ∧
    (seqPosition s).cport.part = s.cport.part ∧ (seqPosition s).cport.staging = s.cport.staging ∧
    (seqPosition s).cport.locked = s.cport.locked ∧ (seqPosition s).cport.trans = s.cport.trans ∧
    (seqPosition s).cport.rxBuf = s.cport.rxBuf ∧ (seqPosition s).cport.resp = s.cport.resp ∧
    (seqPosition s).cport.respPos = s.cport.respPos ∧ (seqPosition s).cport.pdo = s.cport.pdo ∧
    (seqPosition s).isRun = s.isRun ∧ (seqPosition s).image = s.image ∧ (seqPosition s).address = s.address := by
  simp only [seqPosition]
  (repeat' split) <;> simp [State.isRun, State.image, State.address]

@[simp] theorem seqDeadTimeOver_frame (s : State) :
    (seqDeadTimeOver s).now = s.now ∧ (seqDeadTimeOver s).resetHeld = s.resetHeld ∧
    (seqDeadTimeOver s).meas = s.meas ∧ (seqDeadTimeOver s).elem = s.elem ∧
    (seqDeadTimeOver s).fin.position = s.fin.position ∧ (seqDeadTimeOver s).fin.fieldDemand = s.fin.fieldDemand ∧
    (seqDeadTimeOver s).fin.discrepancy = s.fin.discrepancy ∧ (seqDeadTimeOver s).fin.discAt = s.fin.discAt ∧
    (seqDeadTimeOver s).fin.nextPeriodAt = s.fin.nextPeriodAt ∧ (seqDeadTimeOver s).fin.sense = s.fin.sense ∧
    (seqDeadTimeOver s).blk = s.blk ∧ (seqDeadTimeOver s).prof = s.prof ∧ (seqDeadTimeOver s).link = s.link ∧
    (seqDeadTimeOver s).tripco.records = s.tripco.records ∧ (seqDeadTimeOver s).hunt = s.hunt ∧
    (seqDeadTimeOver s).pending = s.pending ∧ (seqDeadTimeOver s).freeCount = s.freeCount ∧
    (seqDeadTimeOver s).cport.part = s.cport.part ∧ (seqDeadTimeOver s).cport.staging = s.cport.staging ∧
    (seqDeadTimeOver s).cport.locked = s.cport.locked ∧ (seqDeadTimeOver s).cport.trans = s.cport.trans ∧
    (seqDeadTimeOver s).cport.rxBuf = s.cport.rxBuf ∧ (seqDeadTimeOver s).cport.resp = s.cport.resp ∧
    (seqDeadTimeOver s).cport.respPos = s.cport.respPos ∧ (seqDeadTimeOver s).cport.pdo = s.cport.pdo ∧
    (seqDeadTimeOver s).isRun = s.isRun ∧ (seqDeadTimeOver s).image = s.image ∧
    (seqDeadTimeOver s).address = s.address := by
  simp only [seqDeadTimeOver, judgeBlocks]
  (repeat' split) <;> simp [State.isRun, State.image, State.address]

@[simp] theorem seqBlockChange_frame (s : State) :
    (seqBlockChange s).now = s.now ∧ (seqBlockChange s).resetHeld = s.resetHeld ∧ (seqBlockChange s).meas = s.meas ∧
    (seqBlockChange s).elem = s.elem ∧ (seqBlockChange s).fin.position = s.fin.position ∧
    (seqBlockChange s).fin.fieldDemand = s.fin.fieldDemand ∧ (seqBlockChange s).fin.discrepancy = s.fin.discrepancy ∧
    (seqBlockChange s).fin.discAt = s.fin.discAt ∧ (seqBlockChange s).fin.nextPeriodAt = s.fin.nextPeriodAt ∧
    (seqBlockChange s).fin.sense = s.fin.sense ∧ (seqBlockChange s).blk = s.blk ∧ (seqBlockChange s).link = s.link ∧
    (seqBlockChange s).tripco.records = s.tripco.records ∧ (seqBlockChange s).hunt = s.hunt ∧
    (seqBlockChange s).pending = s.pending ∧ (seqBlockChange s).freeCount = s.freeCount ∧
    (seqBlockChange s).cport.part = s.cport.part ∧ (seqBlockChange s).cport.staging = s.cport.staging ∧
    (seqBlockChange s).cport.locked = s.cport.locked ∧ (seqBlockChange s).cport.trans = s.cport.trans ∧
    (seqBlockChange s).cport.rxBuf = s.cport.rxBuf ∧ (seqBlockChange s).cport.resp = s.cport.resp ∧
    (seqBlockChange s).cport.respPos = s.cport.respPos ∧ (seqBlockChange s).cport.pdo = s.cport.pdo ∧
    (seqBlockChange s).isRun = s.isRun ∧ (seqBlockChange s).image = s.image ∧
    (seqBlockChange s).address = s.address := by
  simp only [seqBlockChange, judgeBlocks]
  (repeat' split) <;> simp [State.isRun, State.image, State.address]

@[simp] theorem seqRaise_frame (s : State) :
    (seqRaise s).now = s.now ∧ (seqRaise s).resetHeld = s.resetHeld ∧ (seqRaise s).meas = s.meas ∧
    (seqRaise s).elem = s.elem ∧ (seqRaise s).fin.position = s.fin.position ∧
    (seqRaise s).fin.fieldDemand = s.fin.fieldDemand ∧ (seqRaise s).fin.discrepancy = s.fin.discrepancy ∧
    (seqRaise s).fin.discAt = s.fin.discAt ∧ (seqRaise s).fin.nextPeriodAt = s.fin.nextPeriodAt ∧
    (seqRaise s).fin.sense = s.fin.sense ∧ (seqRaise s).blk = s.blk ∧ (seqRaise s).prof = s.prof ∧
    (seqRaise s).link = s.link ∧ (seqRaise s).tripco.records = s.tripco.records ∧ (seqRaise s).hunt = s.hunt ∧
    (seqRaise s).pending = s.pending ∧ (seqRaise s).freeCount = s.freeCount ∧
    (seqRaise s).cport.part = s.cport.part ∧ (seqRaise s).cport.staging = s.cport.staging ∧
    (seqRaise s).cport.locked = s.cport.locked ∧ (seqRaise s).cport.trans = s.cport.trans ∧
    (seqRaise s).cport.rxBuf = s.cport.rxBuf ∧ (seqRaise s).cport.resp = s.cport.resp ∧
    (seqRaise s).cport.respPos = s.cport.respPos ∧ (seqRaise s).cport.pdo = s.cport.pdo ∧
    (seqRaise s).isRun = s.isRun ∧ (seqRaise s).image = s.image ∧ (seqRaise s).address = s.address := by
  simp only [seqRaise]
  (repeat' split) <;> simp [State.isRun, State.image, State.address]

@[simp] theorem seqStart_frame (s : State) :
    (seqStart s).now = s.now ∧ (seqStart s).resetHeld = s.resetHeld ∧ (seqStart s).meas = s.meas ∧
    (seqStart s).elem = s.elem ∧ (seqStart s).fin.position = s.fin.position ∧
    (seqStart s).fin.fieldDemand = s.fin.fieldDemand ∧ (seqStart s).fin.discrepancy = s.fin.discrepancy ∧
    (seqStart s).fin.discAt = s.fin.discAt ∧ (seqStart s).fin.nextPeriodAt = s.fin.nextPeriodAt ∧
    (seqStart s).fin.sense = s.fin.sense ∧ (seqStart s).blk = s.blk ∧ (seqStart s).prof = s.prof ∧
    (seqStart s).link = s.link ∧ (seqStart s).tripco.records = s.tripco.records ∧ (seqStart s).hunt = s.hunt ∧
    (seqStart s).pending = s.pending ∧ (seqStart s).freeCount = s.freeCount ∧
    (seqStart s).cport.part = s.cport.part ∧ (seqStart s).cport.staging = s.cport.staging ∧
    (seqStart s).cport.locked = s.cport.locked ∧ (seqStart s).cport.trans = s.cport.trans ∧
    (seqStart s).cport.rxBuf = s.cport.rxBuf ∧ (seqStart s).cport.resp = s.cport.resp ∧
    (seqStart s).cport.respPos = s.cport.respPos ∧ (seqStart s).cport.pdo = s.cport.pdo ∧
    (seqStart s).isRun = s.isRun ∧ (seqStart s).image = s.image ∧ (seqStart s).address = s.address := by
  simp only [seqStart]
  (repeat' split) <;> simp [State.isRun, State.image, State.address]

@[simp] theorem seqReclaimDone_frame (s : State) :
    (seqReclaimDone s).now = s.now ∧ (seqReclaimDone s).resetHeld = s.resetHeld ∧ (seqReclaimDone s).meas = s.meas ∧
    (seqReclaimDone s).elem = s.elem ∧ (seqReclaimDone s).fin.position = s.fin.position ∧
    (seqReclaimDone s).fin.fieldDemand = s.fin.fieldDemand ∧ (seqReclaimDone s).fin.discrepancy = s.fin.discrepancy ∧
    (seqReclaimDone s).fin.discAt = s.fin.discAt ∧ (seqReclaimDone s).fin.nextPeriodAt = s.fin.nextPeriodAt ∧
    (seqReclaimDone s).fin.sense = s.fin.sense ∧ (seqReclaimDone s).blk = s.blk ∧ (seqReclaimDone s).prof = s.prof ∧
    (seqReclaimDone s).link = s.link ∧ (seqReclaimDone s).tripco.records = s.tripco.records ∧
    (seqReclaimDone s).hunt = s.hunt ∧ (seqReclaimDone s).pending = s.pending ∧
    (seqReclaimDone s).freeCount = s.freeCount ∧ (seqReclaimDone s).cport.part = s.cport.part ∧
    (seqReclaimDone s).cport.staging = s.cport.staging ∧ (seqReclaimDone s).cport.locked = s.cport.locked ∧
    (seqReclaimDone s).cport.trans = s.cport.trans ∧ (seqReclaimDone s).cport.rxBuf = s.cport.rxBuf ∧
    (seqReclaimDone s).cport.resp = s.cport.resp ∧ (seqReclaimDone s).cport.respPos = s.cport.respPos ∧
    (seqReclaimDone s).cport.pdo = s.cport.pdo ∧ (seqReclaimDone s).isRun = s.isRun ∧
    (seqReclaimDone s).image = s.image ∧ (seqReclaimDone s).address = s.address := by
  simp only [seqReclaimDone]
  simp [State.isRun, State.image, State.address]

@[simp] theorem placeBlock_frame (k : BlockKey) (e : BlockEffect) (d : Option Nat) (s : State) :
    (placeBlock k e d s).now = s.now ∧ (placeBlock k e d s).resetHeld = s.resetHeld ∧
    (placeBlock k e d s).meas = s.meas ∧ (placeBlock k e d s).elem = s.elem ∧
    (placeBlock k e d s).fin.position = s.fin.position ∧ (placeBlock k e d s).fin.fieldDemand = s.fin.fieldDemand ∧
    (placeBlock k e d s).fin.discrepancy = s.fin.discrepancy ∧ (placeBlock k e d s).fin.discAt = s.fin.discAt ∧
    (placeBlock k e d s).fin.nextPeriodAt = s.fin.nextPeriodAt ∧ (placeBlock k e d s).fin.sense = s.fin.sense ∧
    (placeBlock k e d s).blk.watches = s.blk.watches ∧ (placeBlock k e d s).link = s.link ∧
    (placeBlock k e d s).tripco.records = s.tripco.records ∧ (placeBlock k e d s).hunt = s.hunt ∧
    (placeBlock k e d s).pending = s.pending ∧ (placeBlock k e d s).freeCount = s.freeCount ∧
    (placeBlock k e d s).cport.part = s.cport.part ∧ (placeBlock k e d s).cport.staging = s.cport.staging ∧
    (placeBlock k e d s).cport.locked = s.cport.locked ∧ (placeBlock k e d s).cport.trans = s.cport.trans ∧
    (placeBlock k e d s).cport.rxBuf = s.cport.rxBuf ∧ (placeBlock k e d s).cport.resp = s.cport.resp ∧
    (placeBlock k e d s).cport.respPos = s.cport.respPos ∧ (placeBlock k e d s).cport.pdo = s.cport.pdo ∧
    (placeBlock k e d s).isRun = s.isRun ∧ (placeBlock k e d s).image = s.image ∧
    (placeBlock k e d s).address = s.address := by
  simp only [placeBlock]
  (repeat' split) <;> simp [State.isRun, State.image, State.address]

@[simp] theorem removeBlock_frame (k : BlockKey) (s : State) :
    (removeBlock k s).now = s.now ∧ (removeBlock k s).resetHeld = s.resetHeld ∧ (removeBlock k s).meas = s.meas ∧
    (removeBlock k s).elem = s.elem ∧ (removeBlock k s).fin.position = s.fin.position ∧
    (removeBlock k s).fin.fieldDemand = s.fin.fieldDemand ∧ (removeBlock k s).fin.discrepancy = s.fin.discrepancy ∧
    (removeBlock k s).fin.discAt = s.fin.discAt ∧ (removeBlock k s).fin.nextPeriodAt = s.fin.nextPeriodAt ∧
    (removeBlock k s).fin.sense = s.fin.sense ∧ (removeBlock k s).blk.watches = s.blk.watches ∧
    (removeBlock k s).link = s.link ∧ (removeBlock k s).tripco.records = s.tripco.records ∧
    (removeBlock k s).hunt = s.hunt ∧ (removeBlock k s).pending = s.pending ∧
    (removeBlock k s).freeCount = s.freeCount ∧ (removeBlock k s).cport.part = s.cport.part ∧
    (removeBlock k s).cport.staging = s.cport.staging ∧ (removeBlock k s).cport.locked = s.cport.locked ∧
    (removeBlock k s).cport.trans = s.cport.trans ∧ (removeBlock k s).cport.rxBuf = s.cport.rxBuf ∧
    (removeBlock k s).cport.resp = s.cport.resp ∧ (removeBlock k s).cport.respPos = s.cport.respPos ∧
    (removeBlock k s).cport.pdo = s.cport.pdo ∧ (removeBlock k s).isRun = s.isRun ∧
    (removeBlock k s).image = s.image ∧ (removeBlock k s).address = s.address := by
  simp only [removeBlock]
  (repeat' split) <;> simp [State.isRun, State.image, State.address]

@[simp] theorem removeBlocks_frame (ks : List BlockKey) (s : State) :
    (removeBlocks ks s).now = s.now ∧ (removeBlocks ks s).resetHeld = s.resetHeld ∧
    (removeBlocks ks s).meas = s.meas ∧ (removeBlocks ks s).elem = s.elem ∧
    (removeBlocks ks s).fin.position = s.fin.position ∧ (removeBlocks ks s).fin.fieldDemand = s.fin.fieldDemand ∧
    (removeBlocks ks s).fin.discrepancy = s.fin.discrepancy ∧ (removeBlocks ks s).fin.discAt = s.fin.discAt ∧
    (removeBlocks ks s).fin.nextPeriodAt = s.fin.nextPeriodAt ∧ (removeBlocks ks s).fin.sense = s.fin.sense ∧
    (removeBlocks ks s).blk.watches = s.blk.watches ∧ (removeBlocks ks s).link = s.link ∧
    (removeBlocks ks s).tripco.records = s.tripco.records ∧ (removeBlocks ks s).hunt = s.hunt ∧
    (removeBlocks ks s).pending = s.pending ∧ (removeBlocks ks s).freeCount = s.freeCount ∧
    (removeBlocks ks s).cport.part = s.cport.part ∧ (removeBlocks ks s).cport.staging = s.cport.staging ∧
    (removeBlocks ks s).cport.locked = s.cport.locked ∧ (removeBlocks ks s).cport.trans = s.cport.trans ∧
    (removeBlocks ks s).cport.rxBuf = s.cport.rxBuf ∧ (removeBlocks ks s).cport.resp = s.cport.resp ∧
    (removeBlocks ks s).cport.respPos = s.cport.respPos ∧ (removeBlocks ks s).cport.pdo = s.cport.pdo ∧
    (removeBlocks ks s).isRun = s.isRun ∧ (removeBlocks ks s).image = s.image ∧
    (removeBlocks ks s).address = s.address := by
  simp only [removeBlocks]
  induction ks generalizing s with
  | nil => simp
  | cons k ks ih => simp [ih]

@[simp] theorem removeSource_frame (c : BlockSource) (s : State) :
    (removeSource c s).now = s.now ∧ (removeSource c s).resetHeld = s.resetHeld ∧ (removeSource c s).meas = s.meas ∧
    (removeSource c s).elem = s.elem ∧ (removeSource c s).fin.position = s.fin.position ∧
    (removeSource c s).fin.fieldDemand = s.fin.fieldDemand ∧ (removeSource c s).fin.discrepancy = s.fin.discrepancy ∧
    (removeSource c s).fin.discAt = s.fin.discAt ∧ (removeSource c s).fin.nextPeriodAt = s.fin.nextPeriodAt ∧
    (removeSource c s).fin.sense = s.fin.sense ∧ (removeSource c s).blk.watches = s.blk.watches ∧
    (removeSource c s).link = s.link ∧ (removeSource c s).tripco.records = s.tripco.records ∧
    (removeSource c s).hunt = s.hunt ∧ (removeSource c s).pending = s.pending ∧
    (removeSource c s).freeCount = s.freeCount ∧ (removeSource c s).cport.part = s.cport.part ∧
    (removeSource c s).cport.staging = s.cport.staging ∧ (removeSource c s).cport.locked = s.cport.locked ∧
    (removeSource c s).cport.trans = s.cport.trans ∧ (removeSource c s).cport.rxBuf = s.cport.rxBuf ∧
    (removeSource c s).cport.resp = s.cport.resp ∧ (removeSource c s).cport.respPos = s.cport.respPos ∧
    (removeSource c s).cport.pdo = s.cport.pdo ∧ (removeSource c s).isRun = s.isRun ∧
    (removeSource c s).image = s.image ∧ (removeSource c s).address = s.address := by
  simp only [removeSource]
  simp [State.isRun, State.image, State.address]

@[simp] theorem removeWatchTag_frame (n : Half) (s : State) :
    (removeWatchTag n s).now = s.now ∧ (removeWatchTag n s).resetHeld = s.resetHeld ∧
    (removeWatchTag n s).meas = s.meas ∧ (removeWatchTag n s).elem = s.elem ∧
    (removeWatchTag n s).fin.position = s.fin.position ∧ (removeWatchTag n s).fin.fieldDemand = s.fin.fieldDemand ∧
    (removeWatchTag n s).fin.discrepancy = s.fin.discrepancy ∧ (removeWatchTag n s).fin.discAt = s.fin.discAt ∧
    (removeWatchTag n s).fin.nextPeriodAt = s.fin.nextPeriodAt ∧ (removeWatchTag n s).fin.sense = s.fin.sense ∧
    (removeWatchTag n s).blk.watches = s.blk.watches ∧ (removeWatchTag n s).link = s.link ∧
    (removeWatchTag n s).tripco.records = s.tripco.records ∧ (removeWatchTag n s).hunt = s.hunt ∧
    (removeWatchTag n s).pending = s.pending ∧ (removeWatchTag n s).freeCount = s.freeCount ∧
    (removeWatchTag n s).cport.part = s.cport.part ∧ (removeWatchTag n s).cport.staging = s.cport.staging ∧
    (removeWatchTag n s).cport.locked = s.cport.locked ∧ (removeWatchTag n s).cport.trans = s.cport.trans ∧
    (removeWatchTag n s).cport.rxBuf = s.cport.rxBuf ∧ (removeWatchTag n s).cport.resp = s.cport.resp ∧
    (removeWatchTag n s).cport.respPos = s.cport.respPos ∧ (removeWatchTag n s).cport.pdo = s.cport.pdo ∧
    (removeWatchTag n s).isRun = s.isRun ∧ (removeWatchTag n s).image = s.image ∧
    (removeWatchTag n s).address = s.address := by
  simp only [removeWatchTag]
  simp [State.isRun, State.image, State.address]

end Sys2Proof.Machine
end

