-- ==== Sys2Proof/Laws/Above.lean ====
section
/-! SUPPORT. What the operations of PROF, HUNT, ELEM, MEAS and FIN leave unchanged:
one frame lemma for each, so that no later proof unfolds it. -/

namespace Sys2Proof.Machine

@[simp] theorem handRaise_frame (p : Profile) (s : State) :
    (handRaise p s).now = s.now ∧ (handRaise p s).resetHeld = s.resetHeld ∧ (handRaise p s).meas = s.meas ∧
    (handRaise p s).elem = s.elem ∧ (handRaise p s).fin.position = s.fin.position ∧
    (handRaise p s).fin.fieldDemand = s.fin.fieldDemand ∧ (handRaise p s).fin.discrepancy = s.fin.discrepancy ∧
    (handRaise p s).fin.discAt = s.fin.discAt ∧ (handRaise p s).fin.nextPeriodAt = s.fin.nextPeriodAt ∧
    (handRaise p s).fin.sense = s.fin.sense ∧ (handRaise p s).blk = s.blk ∧ (handRaise p s).prof = s.prof ∧
    (handRaise p s).link = s.link ∧ (handRaise p s).tripco.records = s.tripco.records ∧
    (handRaise p s).hunt = s.hunt ∧ (handRaise p s).pending = s.pending ∧ (handRaise p s).cport.part = s.cport.part ∧
    (handRaise p s).cport.staging = s.cport.staging ∧ (handRaise p s).cport.locked = s.cport.locked ∧
    (handRaise p s).cport.trans = s.cport.trans ∧ (handRaise p s).cport.rxBuf = s.cport.rxBuf ∧
    (handRaise p s).cport.resp = s.cport.resp ∧ (handRaise p s).cport.respPos = s.cport.respPos ∧
    (handRaise p s).cport.pdo = s.cport.pdo ∧ (handRaise p s).isRun = s.isRun ∧ (handRaise p s).image = s.image ∧
    (handRaise p s).address = s.address := by
  simp only [handRaise]
  (repeat' split) <;> simp [State.isRun, State.image, State.address]

@[simp] theorem raiseProfile_frame (s : State) :
    (raiseProfile s).now = s.now ∧ (raiseProfile s).resetHeld = s.resetHeld ∧ (raiseProfile s).meas = s.meas ∧
    (raiseProfile s).elem = s.elem ∧ (raiseProfile s).fin.position = s.fin.position ∧
    (raiseProfile s).fin.fieldDemand = s.fin.fieldDemand ∧ (raiseProfile s).fin.discrepancy = s.fin.discrepancy ∧
    (raiseProfile s).fin.discAt = s.fin.discAt ∧ (raiseProfile s).fin.nextPeriodAt = s.fin.nextPeriodAt ∧
    (raiseProfile s).fin.sense = s.fin.sense ∧ (raiseProfile s).blk = s.blk ∧ (raiseProfile s).link = s.link ∧
    (raiseProfile s).tripco.records = s.tripco.records ∧ (raiseProfile s).hunt = s.hunt ∧
    (raiseProfile s).pending = s.pending ∧ (raiseProfile s).cport.part = s.cport.part ∧
    (raiseProfile s).cport.staging = s.cport.staging ∧ (raiseProfile s).cport.locked = s.cport.locked ∧
    (raiseProfile s).cport.trans = s.cport.trans ∧ (raiseProfile s).cport.rxBuf = s.cport.rxBuf ∧
    (raiseProfile s).cport.resp = s.cport.resp ∧ (raiseProfile s).cport.respPos = s.cport.respPos ∧
    (raiseProfile s).cport.pdo = s.cport.pdo ∧ (raiseProfile s).isRun = s.isRun ∧ (raiseProfile s).image = s.image ∧
    (raiseProfile s).address = s.address := by
  simp only [raiseProfile]
  simp [State.isRun, State.image, State.address]

@[simp] theorem takeTarget_frame (s : State) :
    (takeTarget s).now = s.now ∧ (takeTarget s).resetHeld = s.resetHeld ∧ (takeTarget s).meas = s.meas ∧
    (takeTarget s).elem = s.elem ∧ (takeTarget s).fin.position = s.fin.position ∧
    (takeTarget s).fin.fieldDemand = s.fin.fieldDemand ∧ (takeTarget s).fin.discrepancy = s.fin.discrepancy ∧
    (takeTarget s).fin.discAt = s.fin.discAt ∧ (takeTarget s).fin.nextPeriodAt = s.fin.nextPeriodAt ∧
    (takeTarget s).fin.sense = s.fin.sense ∧ (takeTarget s).blk = s.blk ∧ (takeTarget s).link = s.link ∧
    (takeTarget s).tripco.records = s.tripco.records ∧ (takeTarget s).hunt = s.hunt ∧
    (takeTarget s).pending = s.pending ∧ (takeTarget s).cport.part = s.cport.part ∧
    (takeTarget s).cport.staging = s.cport.staging ∧ (takeTarget s).cport.locked = s.cport.locked ∧
    (takeTarget s).cport.trans = s.cport.trans ∧ (takeTarget s).cport.rxBuf = s.cport.rxBuf ∧
    (takeTarget s).cport.resp = s.cport.resp ∧ (takeTarget s).cport.respPos = s.cport.respPos ∧
    (takeTarget s).cport.pdo = s.cport.pdo ∧ (takeTarget s).isRun = s.isRun ∧ (takeTarget s).image = s.image ∧
    (takeTarget s).address = s.address := by
  simp only [takeTarget]
  (repeat' split) <;> simp [State.isRun, State.image, State.address]

@[simp] theorem followTarget_frame (s : State) :
    (followTarget s).now = s.now ∧ (followTarget s).resetHeld = s.resetHeld ∧ (followTarget s).meas = s.meas ∧
    (followTarget s).elem = s.elem ∧ (followTarget s).fin = s.fin ∧ (followTarget s).sequencer = s.sequencer ∧
    (followTarget s).blk = s.blk ∧ (followTarget s).link = s.link ∧ (followTarget s).tripco = s.tripco ∧
    (followTarget s).hunt = s.hunt ∧ (followTarget s).handovers = s.handovers ∧
    (followTarget s).pending = s.pending ∧ (followTarget s).freeCount = s.freeCount ∧
    (followTarget s).cport.part = s.cport.part ∧ (followTarget s).cport.staging = s.cport.staging ∧
    (followTarget s).cport.locked = s.cport.locked ∧ (followTarget s).cport.trans = s.cport.trans ∧
    (followTarget s).cport.rxBuf = s.cport.rxBuf ∧ (followTarget s).cport.resp = s.cport.resp ∧
    (followTarget s).cport.respPos = s.cport.respPos ∧ (followTarget s).cport.pdo = s.cport.pdo ∧
    (followTarget s).isRun = s.isRun ∧ (followTarget s).image = s.image ∧ (followTarget s).address = s.address := by
  simp only [followTarget]
  (repeat' split) <;> simp [State.isRun, State.image, State.address]

@[simp] theorem askIfChanged_frame (p : ProfState) (s : State) :
    (askIfChanged p s).now = s.now ∧ (askIfChanged p s).resetHeld = s.resetHeld ∧ (askIfChanged p s).meas = s.meas ∧
    (askIfChanged p s).elem = s.elem ∧ (askIfChanged p s).fin = s.fin ∧ (askIfChanged p s).sequencer = s.sequencer ∧
    (askIfChanged p s).blk = s.blk ∧ (askIfChanged p s).prof = s.prof ∧ (askIfChanged p s).link = s.link ∧
    (askIfChanged p s).tripco = s.tripco ∧ (askIfChanged p s).hunt = s.hunt ∧
    (askIfChanged p s).pending = s.pending ∧ (askIfChanged p s).freeCount = s.freeCount ∧
    (askIfChanged p s).cport = s.cport ∧ (askIfChanged p s).isRun = s.isRun ∧ (askIfChanged p s).image = s.image ∧
    (askIfChanged p s).address = s.address := by
  simp only [askIfChanged]
  (repeat' split) <;> simp [State.isRun, State.image, State.address]

@[simp] theorem settle_frame (a b c : Profile) (s : State) :
    (settle a b c s).now = s.now ∧ (settle a b c s).resetHeld = s.resetHeld ∧ (settle a b c s).meas = s.meas ∧
    (settle a b c s).elem = s.elem ∧ (settle a b c s).fin.position = s.fin.position ∧
    (settle a b c s).fin.fieldDemand = s.fin.fieldDemand ∧ (settle a b c s).fin.discrepancy = s.fin.discrepancy ∧
    (settle a b c s).fin.discAt = s.fin.discAt ∧ (settle a b c s).fin.nextPeriodAt = s.fin.nextPeriodAt ∧
    (settle a b c s).fin.sense = s.fin.sense ∧ (settle a b c s).blk = s.blk ∧ (settle a b c s).link = s.link ∧
    (settle a b c s).tripco.records = s.tripco.records ∧ (settle a b c s).hunt = s.hunt ∧
    (settle a b c s).pending = s.pending ∧ (settle a b c s).cport.part = s.cport.part ∧
    (settle a b c s).cport.staging = s.cport.staging ∧ (settle a b c s).cport.locked = s.cport.locked ∧
    (settle a b c s).cport.trans = s.cport.trans ∧ (settle a b c s).cport.rxBuf = s.cport.rxBuf ∧
    (settle a b c s).cport.resp = s.cport.resp ∧ (settle a b c s).cport.respPos = s.cport.respPos ∧
    (settle a b c s).cport.pdo = s.cport.pdo ∧ (settle a b c s).isRun = s.isRun ∧ (settle a b c s).image = s.image ∧
    (settle a b c s).address = s.address := by
  simp only [settle]
  (repeat' split) <;> simp [State.isRun, State.image, State.address]

@[simp] theorem setPortDemand_frame (p : Profile) (s : State) :
    (setPortDemand p s).now = s.now ∧ (setPortDemand p s).resetHeld = s.resetHeld ∧
    (setPortDemand p s).meas = s.meas ∧ (setPortDemand p s).elem = s.elem ∧
    (setPortDemand p s).fin.position = s.fin.position ∧ (setPortDemand p s).fin.fieldDemand = s.fin.fieldDemand ∧
    (setPortDemand p s).fin.discrepancy = s.fin.discrepancy ∧ (setPortDemand p s).fin.discAt = s.fin.discAt ∧
    (setPortDemand p s).fin.nextPeriodAt = s.fin.nextPeriodAt ∧ (setPortDemand p s).fin.sense = s.fin.sense ∧
    (setPortDemand p s).blk = s.blk ∧ (setPortDemand p s).link = s.link ∧
    (setPortDemand p s).tripco.records = s.tripco.records ∧ (setPortDemand p s).hunt = s.hunt ∧
    (setPortDemand p s).pending = s.pending ∧ (setPortDemand p s).cport.part = s.cport.part ∧
    (setPortDemand p s).cport.staging = s.cport.staging ∧ (setPortDemand p s).cport.locked = s.cport.locked ∧
    (setPortDemand p s).cport.trans = s.cport.trans ∧ (setPortDemand p s).cport.rxBuf = s.cport.rxBuf ∧
    (setPortDemand p s).cport.resp = s.cport.resp ∧ (setPortDemand p s).cport.respPos = s.cport.respPos ∧
    (setPortDemand p s).cport.pdo = s.cport.pdo ∧ (setPortDemand p s).isRun = s.isRun ∧
    (setPortDemand p s).image = s.image ∧ (setPortDemand p s).address = s.address := by
  simp only [setPortDemand]
  simp [State.isRun, State.image, State.address]

@[simp] theorem setFieldDemand_frame (p : Profile) (s : State) :
    (setFieldDemand p s).now = s.now ∧ (setFieldDemand p s).resetHeld = s.resetHeld ∧
    (setFieldDemand p s).meas = s.meas ∧ (setFieldDemand p s).elem = s.elem ∧
    (setFieldDemand p s).fin.position = s.fin.position ∧ (setFieldDemand p s).fin.fieldDemand = s.fin.fieldDemand ∧
    (setFieldDemand p s).fin.discrepancy = s.fin.discrepancy ∧ (setFieldDemand p s).fin.discAt = s.fin.discAt ∧
    (setFieldDemand p s).fin.nextPeriodAt = s.fin.nextPeriodAt ∧ (setFieldDemand p s).fin.sense = s.fin.sense ∧
    (setFieldDemand p s).blk = s.blk ∧ (setFieldDemand p s).link = s.link ∧
    (setFieldDemand p s).tripco.records = s.tripco.records ∧ (setFieldDemand p s).hunt = s.hunt ∧
    (setFieldDemand p s).pending = s.pending ∧ (setFieldDemand p s).cport.part = s.cport.part ∧
    (setFieldDemand p s).cport.staging = s.cport.staging ∧ (setFieldDemand p s).cport.locked = s.cport.locked ∧
    (setFieldDemand p s).cport.trans = s.cport.trans ∧ (setFieldDemand p s).cport.rxBuf = s.cport.rxBuf ∧
    (setFieldDemand p s).cport.resp = s.cport.resp ∧ (setFieldDemand p s).cport.respPos = s.cport.respPos ∧
    (setFieldDemand p s).cport.pdo = s.cport.pdo ∧ (setFieldDemand p s).isRun = s.isRun ∧
    (setFieldDemand p s).image = s.image ∧ (setFieldDemand p s).address = s.address := by
  simp only [setFieldDemand]
  simp [State.isRun, State.image, State.address]

@[simp] theorem refreshPeerDemand_frame (s : State) :
    (refreshPeerDemand s).now = s.now ∧ (refreshPeerDemand s).resetHeld = s.resetHeld ∧
    (refreshPeerDemand s).meas = s.meas ∧ (refreshPeerDemand s).elem = s.elem ∧
    (refreshPeerDemand s).fin.position = s.fin.position ∧ (refreshPeerDemand s).fin.fieldDemand = s.fin.fieldDemand ∧
    (refreshPeerDemand s).fin.discrepancy = s.fin.discrepancy ∧ (refreshPeerDemand s).fin.discAt = s.fin.discAt ∧
    (refreshPeerDemand s).fin.nextPeriodAt = s.fin.nextPeriodAt ∧ (refreshPeerDemand s).fin.sense = s.fin.sense ∧
    (refreshPeerDemand s).blk = s.blk ∧ (refreshPeerDemand s).link = s.link ∧
    (refreshPeerDemand s).tripco.records = s.tripco.records ∧ (refreshPeerDemand s).hunt = s.hunt ∧
    (refreshPeerDemand s).pending = s.pending ∧ (refreshPeerDemand s).cport.part = s.cport.part ∧
    (refreshPeerDemand s).cport.staging = s.cport.staging ∧ (refreshPeerDemand s).cport.locked = s.cport.locked ∧
    (refreshPeerDemand s).cport.trans = s.cport.trans ∧ (refreshPeerDemand s).cport.rxBuf = s.cport.rxBuf ∧
    (refreshPeerDemand s).cport.resp = s.cport.resp ∧ (refreshPeerDemand s).cport.respPos = s.cport.respPos ∧
    (refreshPeerDemand s).cport.pdo = s.cport.pdo ∧ (refreshPeerDemand s).isRun = s.isRun ∧
    (refreshPeerDemand s).image = s.image ∧ (refreshPeerDemand s).address = s.address := by
  simp only [refreshPeerDemand]
  simp [State.isRun, State.image, State.address]

@[simp] theorem watchPlace_frame (a : Byte) (w : Watch) (s : State) :
    (watchPlace a w s).now = s.now ∧ (watchPlace a w s).resetHeld = s.resetHeld ∧ (watchPlace a w s).meas = s.meas ∧
    (watchPlace a w s).elem = s.elem ∧ (watchPlace a w s).fin.position = s.fin.position ∧
    (watchPlace a w s).fin.fieldDemand = s.fin.fieldDemand ∧ (watchPlace a w s).fin.discrepancy = s.fin.discrepancy ∧
    (watchPlace a w s).fin.discAt = s.fin.discAt ∧ (watchPlace a w s).fin.nextPeriodAt = s.fin.nextPeriodAt ∧
    (watchPlace a w s).fin.sense = s.fin.sense ∧ (watchPlace a w s).blk.watches = s.blk.watches ∧
    (watchPlace a w s).link = s.link ∧ (watchPlace a w s).tripco.records = s.tripco.records ∧
    (watchPlace a w s).hunt = s.hunt ∧ (watchPlace a w s).pending = s.pending ∧
    (watchPlace a w s).freeCount = s.freeCount ∧ (watchPlace a w s).cport.part = s.cport.part ∧
    (watchPlace a w s).cport.staging = s.cport.staging ∧ (watchPlace a w s).cport.locked = s.cport.locked ∧
    (watchPlace a w s).cport.trans = s.cport.trans ∧ (watchPlace a w s).cport.rxBuf = s.cport.rxBuf ∧
    (watchPlace a w s).cport.resp = s.cport.resp ∧ (watchPlace a w s).cport.respPos = s.cport.respPos ∧
    (watchPlace a w s).cport.pdo = s.cport.pdo ∧ (watchPlace a w s).isRun = s.isRun ∧
    (watchPlace a w s).image = s.image ∧ (watchPlace a w s).address = s.address := by
  simp only [watchPlace]
  (repeat' split) <;> simp [State.isRun, State.image, State.address]

@[simp] theorem watchIntertrip_frame (s : State) :
    (watchIntertrip s).now = s.now ∧ (watchIntertrip s).resetHeld = s.resetHeld ∧ (watchIntertrip s).meas = s.meas ∧
    (watchIntertrip s).elem = s.elem ∧ (watchIntertrip s).fin.position = s.fin.position ∧
    (watchIntertrip s).fin.fieldDemand = s.fin.fieldDemand ∧ (watchIntertrip s).fin.discrepancy = s.fin.discrepancy ∧
    (watchIntertrip s).fin.discAt = s.fin.discAt ∧ (watchIntertrip s).fin.nextPeriodAt = s.fin.nextPeriodAt ∧
    (watchIntertrip s).fin.sense = s.fin.sense ∧ (watchIntertrip s).blk.watches = s.blk.watches ∧
    (watchIntertrip s).link = s.link ∧ (watchIntertrip s).tripco.records = s.tripco.records ∧
    (watchIntertrip s).hunt = s.hunt ∧ (watchIntertrip s).pending = s.pending ∧
    (watchIntertrip s).cport.part = s.cport.part ∧ (watchIntertrip s).cport.staging = s.cport.staging ∧
    (watchIntertrip s).cport.locked = s.cport.locked ∧ (watchIntertrip s).cport.trans = s.cport.trans ∧
    (watchIntertrip s).cport.rxBuf = s.cport.rxBuf ∧ (watchIntertrip s).cport.resp = s.cport.resp ∧
    (watchIntertrip s).cport.respPos = s.cport.respPos ∧ (watchIntertrip s).cport.pdo = s.cport.pdo ∧
    (watchIntertrip s).isRun = s.isRun ∧ (watchIntertrip s).image = s.image ∧
    (watchIntertrip s).address = s.address := by
  simp only [watchIntertrip]
  (repeat' split) <;> simp [State.isRun, State.image, State.address]

@[simp] theorem watchAct_frame (a : Byte) (w : Watch) (x : WatchAction) (s : State) :
    (watchAct a w x s).now = s.now ∧ (watchAct a w x s).resetHeld = s.resetHeld ∧ (watchAct a w x s).meas = s.meas ∧
    (watchAct a w x s).elem = s.elem ∧ (watchAct a w x s).fin.position = s.fin.position ∧
    (watchAct a w x s).fin.fieldDemand = s.fin.fieldDemand ∧ (watchAct a w x s).fin.discrepancy = s.fin.discrepancy ∧
    (watchAct a w x s).fin.discAt = s.fin.discAt ∧ (watchAct a w x s).fin.nextPeriodAt = s.fin.nextPeriodAt ∧
    (watchAct a w x s).fin.sense = s.fin.sense ∧ (watchAct a w x s).blk.watches = s.blk.watches ∧
    (watchAct a w x s).link = s.link ∧ (watchAct a w x s).tripco.records = s.tripco.records ∧
    (watchAct a w x s).hunt = s.hunt ∧ (watchAct a w x s).pending = s.pending ∧
    (watchAct a w x s).cport.part = s.cport.part ∧ (watchAct a w x s).cport.staging = s.cport.staging ∧
    (watchAct a w x s).cport.locked = s.cport.locked ∧ (watchAct a w x s).cport.trans = s.cport.trans ∧
    (watchAct a w x s).cport.rxBuf = s.cport.rxBuf ∧ (watchAct a w x s).cport.resp = s.cport.resp ∧
    (watchAct a w x s).cport.respPos = s.cport.respPos ∧ (watchAct a w x s).cport.pdo = s.cport.pdo ∧
    (watchAct a w x s).isRun = s.isRun ∧ (watchAct a w x s).image = s.image ∧
    (watchAct a w x s).address = s.address := by
  simp only [watchAct]
  (repeat' split) <;> simp [State.isRun, State.image, State.address]

@[simp] theorem retireWatch_frame (w : Watch) (s : State) :
    (retireWatch w s).now = s.now ∧ (retireWatch w s).resetHeld = s.resetHeld ∧ (retireWatch w s).meas = s.meas ∧
    (retireWatch w s).elem = s.elem ∧ (retireWatch w s).fin = s.fin ∧ (retireWatch w s).sequencer = s.sequencer ∧
    (retireWatch w s).prof = s.prof ∧ (retireWatch w s).link = s.link ∧ (retireWatch w s).tripco = s.tripco ∧
    (retireWatch w s).hunt = s.hunt ∧ (retireWatch w s).handovers = s.handovers ∧
    (retireWatch w s).pending = s.pending ∧ (retireWatch w s).freeCount = s.freeCount ∧
    (retireWatch w s).cport = s.cport ∧ (retireWatch w s).isRun = s.isRun ∧ (retireWatch w s).image = s.image ∧
    (retireWatch w s).address = s.address := by
  simp only [retireWatch]
  (repeat' split) <;> simp [State.isRun, State.image, State.address]

@[simp] theorem queueMatch_frame (a : Byte) (b : FrameBody) (w : Watch) (x : Bool) (s : State) :
    (queueMatch a b w x s).now = s.now ∧ (queueMatch a b w x s).resetHeld = s.resetHeld ∧
    (queueMatch a b w x s).meas = s.meas ∧ (queueMatch a b w x s).elem = s.elem ∧
    (queueMatch a b w x s).fin = s.fin ∧ (queueMatch a b w x s).sequencer = s.sequencer ∧
    (queueMatch a b w x s).blk = s.blk ∧ (queueMatch a b w x s).prof = s.prof ∧
    (queueMatch a b w x s).link = s.link ∧ (queueMatch a b w x s).tripco = s.tripco ∧
    (queueMatch a b w x s).hunt = s.hunt ∧ (queueMatch a b w x s).handovers = s.handovers ∧
    (queueMatch a b w x s).pending = s.pending ∧ (queueMatch a b w x s).freeCount = s.freeCount ∧
    (queueMatch a b w x s).cport.part = s.cport.part ∧ (queueMatch a b w x s).cport.staging = s.cport.staging ∧
    (queueMatch a b w x s).cport.locked = s.cport.locked ∧ (queueMatch a b w x s).cport.trans = s.cport.trans ∧
    (queueMatch a b w x s).cport.rxBuf = s.cport.rxBuf ∧ (queueMatch a b w x s).cport.resp = s.cport.resp ∧
    (queueMatch a b w x s).cport.respPos = s.cport.respPos ∧ (queueMatch a b w x s).cport.pdo = s.cport.pdo ∧
    (queueMatch a b w x s).isRun = s.isRun ∧ (queueMatch a b w x s).image = s.image ∧
    (queueMatch a b w x s).address = s.address := by
  simp only [queueMatch]
  (repeat' split) <;> simp [State.isRun, State.image, State.address]

@[simp] theorem watchMatch_frame (a : Byte) (b : FrameBody) (w : Watch) (s : State) :
    (watchMatch a b w s).now = s.now ∧ (watchMatch a b w s).resetHeld = s.resetHeld ∧
    (watchMatch a b w s).meas = s.meas ∧ (watchMatch a b w s).elem = s.elem ∧
    (watchMatch a b w s).fin.position = s.fin.position ∧ (watchMatch a b w s).fin.fieldDemand = s.fin.fieldDemand ∧
    (watchMatch a b w s).fin.discrepancy = s.fin.discrepancy ∧ (watchMatch a b w s).fin.discAt = s.fin.discAt ∧
    (watchMatch a b w s).fin.nextPeriodAt = s.fin.nextPeriodAt ∧ (watchMatch a b w s).fin.sense = s.fin.sense ∧
    (watchMatch a b w s).link = s.link ∧ (watchMatch a b w s).tripco.records = s.tripco.records ∧
    (watchMatch a b w s).hunt = s.hunt ∧ (watchMatch a b w s).pending = s.pending ∧
    (watchMatch a b w s).cport.part = s.cport.part ∧ (watchMatch a b w s).cport.staging = s.cport.staging ∧
    (watchMatch a b w s).cport.locked = s.cport.locked ∧ (watchMatch a b w s).cport.trans = s.cport.trans ∧
    (watchMatch a b w s).cport.rxBuf = s.cport.rxBuf ∧ (watchMatch a b w s).cport.resp = s.cport.resp ∧
    (watchMatch a b w s).cport.respPos = s.cport.respPos ∧ (watchMatch a b w s).cport.pdo = s.cport.pdo ∧
    (watchMatch a b w s).isRun = s.isRun ∧ (watchMatch a b w s).image = s.image ∧
    (watchMatch a b w s).address = s.address := by
  simp only [watchMatch]
  simp [State.isRun, State.image, State.address]

@[simp] theorem storeReport_frame (r : HuntReport) (s : State) :
    (storeReport r s).now = s.now ∧ (storeReport r s).resetHeld = s.resetHeld ∧ (storeReport r s).meas = s.meas ∧
    (storeReport r s).elem = s.elem ∧ (storeReport r s).fin = s.fin ∧ (storeReport r s).sequencer = s.sequencer ∧
    (storeReport r s).blk = s.blk ∧ (storeReport r s).prof = s.prof ∧ (storeReport r s).link = s.link ∧
    (storeReport r s).tripco = s.tripco ∧ (storeReport r s).handovers = s.handovers ∧
    (storeReport r s).pending = s.pending ∧ (storeReport r s).freeCount = s.freeCount ∧
    (storeReport r s).cport = s.cport ∧ (storeReport r s).isRun = s.isRun ∧ (storeReport r s).image = s.image ∧
    (storeReport r s).address = s.address := by
  simp only [storeReport]
  simp [State.isRun, State.image, State.address]

@[simp] theorem report_frame (r : OwnReport) (s : State) :
    (report r s).now = s.now ∧ (report r s).resetHeld = s.resetHeld ∧ (report r s).meas = s.meas ∧
    (report r s).elem = s.elem ∧ (report r s).fin = s.fin ∧ (report r s).sequencer = s.sequencer ∧
    (report r s).blk = s.blk ∧ (report r s).prof = s.prof ∧ (report r s).link = s.link ∧
    (report r s).tripco = s.tripco ∧ (report r s).pending = s.pending ∧ (report r s).freeCount = s.freeCount ∧
    (report r s).cport = s.cport ∧ (report r s).isRun = s.isRun ∧ (report r s).image = s.image ∧
    (report r s).address = s.address := by
  simp only [report]
  simp [State.isRun, State.image, State.address]

@[simp] theorem endCapture_frame (r : OwnReport) (s : State) :
    (endCapture r s).now = s.now ∧ (endCapture r s).resetHeld = s.resetHeld ∧ (endCapture r s).meas = s.meas ∧
    (endCapture r s).elem = s.elem ∧ (endCapture r s).fin = s.fin ∧ (endCapture r s).sequencer = s.sequencer ∧
    (endCapture r s).blk = s.blk ∧ (endCapture r s).prof = s.prof ∧ (endCapture r s).link = s.link ∧
    (endCapture r s).tripco = s.tripco ∧ (endCapture r s).pending = s.pending ∧
    (endCapture r s).freeCount = s.freeCount ∧ (endCapture r s).cport = s.cport ∧ (endCapture r s).isRun = s.isRun ∧
    (endCapture r s).image = s.image ∧ (endCapture r s).address = s.address := by
  simp only [endCapture]
  simp [State.isRun, State.image, State.address]

@[simp] theorem checkCapture_frame (s : State) :
    (checkCapture s).now = s.now ∧ (checkCapture s).resetHeld = s.resetHeld ∧ (checkCapture s).meas = s.meas ∧
    (checkCapture s).elem = s.elem ∧ (checkCapture s).fin = s.fin ∧ (checkCapture s).sequencer = s.sequencer ∧
    (checkCapture s).blk = s.blk ∧ (checkCapture s).prof = s.prof ∧ (checkCapture s).link = s.link ∧
    (checkCapture s).tripco = s.tripco ∧ (checkCapture s).pending = s.pending ∧
    (checkCapture s).freeCount = s.freeCount ∧ (checkCapture s).cport = s.cport ∧ (checkCapture s).isRun = s.isRun ∧
    (checkCapture s).image = s.image ∧ (checkCapture s).address = s.address := by
  simp only [checkCapture]
  (repeat' split) <;> simp [State.isRun, State.image, State.address]

@[simp] theorem onCapture_frame (f : Capture → Capture) (s : State) :
    (onCapture f s).now = s.now ∧ (onCapture f s).resetHeld = s.resetHeld ∧ (onCapture f s).meas = s.meas ∧
    (onCapture f s).elem = s.elem ∧ (onCapture f s).fin = s.fin ∧ (onCapture f s).sequencer = s.sequencer ∧
    (onCapture f s).blk = s.blk ∧ (onCapture f s).prof = s.prof ∧ (onCapture f s).link = s.link ∧
    (onCapture f s).tripco = s.tripco ∧ (onCapture f s).handovers = s.handovers ∧
    (onCapture f s).pending = s.pending ∧ (onCapture f s).freeCount = s.freeCount ∧ (onCapture f s).cport = s.cport ∧
    (onCapture f s).isRun = s.isRun ∧ (onCapture f s).image = s.image ∧ (onCapture f s).address = s.address := by
  simp only [onCapture]
  simp [State.isRun, State.image, State.address]

@[simp] theorem huntCycle_frame (s : State) :
    (huntCycle s).now = s.now ∧ (huntCycle s).resetHeld = s.resetHeld ∧ (huntCycle s).meas = s.meas ∧
    (huntCycle s).elem = s.elem ∧ (huntCycle s).fin = s.fin ∧ (huntCycle s).sequencer = s.sequencer ∧
    (huntCycle s).blk = s.blk ∧ (huntCycle s).prof = s.prof ∧ (huntCycle s).link = s.link ∧
    (huntCycle s).tripco = s.tripco ∧ (huntCycle s).pending = s.pending ∧ (huntCycle s).freeCount = s.freeCount ∧
    (huntCycle s).cport = s.cport ∧ (huntCycle s).isRun = s.isRun ∧ (huntCycle s).image = s.image ∧
    (huntCycle s).address = s.address := by
  simp only [huntCycle]
  (repeat' split) <;> simp [State.isRun, State.image, State.address]

@[simp] theorem huntLost_frame (s : State) :
    (huntLost s).now = s.now ∧ (huntLost s).resetHeld = s.resetHeld ∧ (huntLost s).meas = s.meas ∧
    (huntLost s).elem = s.elem ∧ (huntLost s).fin = s.fin ∧ (huntLost s).sequencer = s.sequencer ∧
    (huntLost s).blk = s.blk ∧ (huntLost s).prof = s.prof ∧ (huntLost s).link = s.link ∧
    (huntLost s).tripco = s.tripco ∧ (huntLost s).pending = s.pending ∧ (huntLost s).freeCount = s.freeCount ∧
    (huntLost s).cport = s.cport ∧ (huntLost s).isRun = s.isRun ∧ (huntLost s).image = s.image ∧
    (huntLost s).address = s.address := by
  simp only [huntLost]
  (repeat' split) <;> simp [State.isRun, State.image, State.address]

@[simp] theorem huntPosition_frame (s : State) :
    (huntPosition s).now = s.now ∧ (huntPosition s).resetHeld = s.resetHeld ∧ (huntPosition s).meas = s.meas ∧
    (huntPosition s).elem = s.elem ∧ (huntPosition s).fin = s.fin ∧ (huntPosition s).sequencer = s.sequencer ∧
    (huntPosition s).blk = s.blk ∧ (huntPosition s).prof = s.prof ∧ (huntPosition s).link = s.link ∧
    (huntPosition s).tripco = s.tripco ∧ (huntPosition s).pending = s.pending ∧
    (huntPosition s).freeCount = s.freeCount ∧ (huntPosition s).cport = s.cport ∧ (huntPosition s).isRun = s.isRun ∧
    (huntPosition s).image = s.image ∧ (huntPosition s).address = s.address := by
  simp only [huntPosition]
  (repeat' split) <;> simp [State.isRun, State.image, State.address]

@[simp] theorem enterCapture_frame (s : State) :
    (enterCapture s).now = s.now ∧ (enterCapture s).resetHeld = s.resetHeld ∧ (enterCapture s).meas = s.meas ∧
    (enterCapture s).elem = s.elem ∧ (enterCapture s).fin = s.fin ∧ (enterCapture s).sequencer = s.sequencer ∧
    (enterCapture s).blk = s.blk ∧ (enterCapture s).prof = s.prof ∧ (enterCapture s).link = s.link ∧
    (enterCapture s).tripco = s.tripco ∧ (enterCapture s).pending = s.pending ∧
    (enterCapture s).freeCount = s.freeCount ∧ (enterCapture s).cport = s.cport ∧ (enterCapture s).isRun = s.isRun ∧
    (enterCapture s).image = s.image ∧ (enterCapture s).address = s.address := by
  simp only [enterCapture]
  simp [State.isRun, State.image, State.address]

@[simp] theorem joinRound_frame (r : Round) (s : State) :
    (joinRound r s).now = s.now ∧ (joinRound r s).resetHeld = s.resetHeld ∧ (joinRound r s).meas = s.meas ∧
    (joinRound r s).elem = s.elem ∧ (joinRound r s).fin.position = s.fin.position ∧
    (joinRound r s).fin.fieldDemand = s.fin.fieldDemand ∧ (joinRound r s).fin.discrepancy = s.fin.discrepancy ∧
    (joinRound r s).fin.discAt = s.fin.discAt ∧ (joinRound r s).fin.nextPeriodAt = s.fin.nextPeriodAt ∧
    (joinRound r s).fin.sense = s.fin.sense ∧ (joinRound r s).blk.watches = s.blk.watches ∧
    (joinRound r s).link = s.link ∧ (joinRound r s).tripco.records = s.tripco.records ∧
    (joinRound r s).pending = s.pending ∧ (joinRound r s).freeCount = s.freeCount ∧
    (joinRound r s).cport.part = s.cport.part ∧ (joinRound r s).cport.staging = s.cport.staging ∧
    (joinRound r s).cport.locked = s.cport.locked ∧ (joinRound r s).cport.trans = s.cport.trans ∧
    (joinRound r s).cport.rxBuf = s.cport.rxBuf ∧ (joinRound r s).cport.resp = s.cport.resp ∧
    (joinRound r s).cport.respPos = s.cport.respPos ∧ (joinRound r s).cport.pdo = s.cport.pdo ∧
    (joinRound r s).isRun = s.isRun ∧ (joinRound r s).image = s.image ∧ (joinRound r s).address = s.address := by
  simp only [joinRound]
  simp [State.isRun, State.image, State.address]

@[simp] theorem callRound_frame (s : State) :
    (callRound s).now = s.now ∧ (callRound s).resetHeld = s.resetHeld ∧ (callRound s).meas = s.meas ∧
    (callRound s).elem = s.elem ∧ (callRound s).fin.position = s.fin.position ∧
    (callRound s).fin.fieldDemand = s.fin.fieldDemand ∧ (callRound s).fin.discrepancy = s.fin.discrepancy ∧
    (callRound s).fin.discAt = s.fin.discAt ∧ (callRound s).fin.nextPeriodAt = s.fin.nextPeriodAt ∧
    (callRound s).fin.sense = s.fin.sense ∧ (callRound s).blk.watches = s.blk.watches ∧ (callRound s).link = s.link ∧
    (callRound s).tripco.records = s.tripco.records ∧ (callRound s).pending = s.pending ∧
    (callRound s).freeCount = s.freeCount ∧ (callRound s).cport.part = s.cport.part ∧
    (callRound s).cport.staging = s.cport.staging ∧ (callRound s).cport.locked = s.cport.locked ∧
    (callRound s).cport.trans = s.cport.trans ∧ (callRound s).cport.rxBuf = s.cport.rxBuf ∧
    (callRound s).cport.resp = s.cport.resp ∧ (callRound s).cport.respPos = s.cport.respPos ∧
    (callRound s).cport.pdo = s.cport.pdo ∧ (callRound s).isRun = s.isRun ∧ (callRound s).image = s.image ∧
    (callRound s).address = s.address := by
  simp only [callRound, callRoundBy]
  simp [State.isRun, State.image, State.address]

@[simp] theorem huntStep_frame (s : State) :
    (huntStep s).now = s.now ∧ (huntStep s).resetHeld = s.resetHeld ∧ (huntStep s).meas = s.meas ∧
    (huntStep s).elem = s.elem ∧ (huntStep s).fin.position = s.fin.position ∧
    (huntStep s).fin.fieldDemand = s.fin.fieldDemand ∧ (huntStep s).fin.discrepancy = s.fin.discrepancy ∧
    (huntStep s).fin.discAt = s.fin.discAt ∧ (huntStep s).fin.nextPeriodAt = s.fin.nextPeriodAt ∧
    (huntStep s).fin.sense = s.fin.sense ∧ (huntStep s).blk.watches = s.blk.watches ∧ (huntStep s).link = s.link ∧
    (huntStep s).tripco.records = s.tripco.records ∧ (huntStep s).pending = s.pending ∧
    (huntStep s).freeCount = s.freeCount ∧ (huntStep s).cport.part = s.cport.part ∧
    (huntStep s).cport.staging = s.cport.staging ∧ (huntStep s).cport.locked = s.cport.locked ∧
    (huntStep s).cport.trans = s.cport.trans ∧ (huntStep s).cport.rxBuf = s.cport.rxBuf ∧
    (huntStep s).cport.resp = s.cport.resp ∧ (huntStep s).cport.respPos = s.cport.respPos ∧
    (huntStep s).cport.pdo = s.cport.pdo ∧ (huntStep s).isRun = s.isRun ∧ (huntStep s).image = s.image ∧
    (huntStep s).address = s.address := by
  simp only [huntStep]
  (repeat' split) <;> simp [State.isRun, State.image, State.address]

@[simp] theorem queueVerdict_frame (a : Byte) (s : State) :
    (queueVerdict a s).now = s.now ∧ (queueVerdict a s).resetHeld = s.resetHeld ∧ (queueVerdict a s).meas = s.meas ∧
    (queueVerdict a s).elem = s.elem ∧ (queueVerdict a s).fin = s.fin ∧ (queueVerdict a s).sequencer = s.sequencer ∧
    (queueVerdict a s).blk = s.blk ∧ (queueVerdict a s).prof = s.prof ∧ (queueVerdict a s).link = s.link ∧
    (queueVerdict a s).tripco = s.tripco ∧ (queueVerdict a s).hunt = s.hunt ∧
    (queueVerdict a s).handovers = s.handovers ∧ (queueVerdict a s).pending = s.pending ∧
    (queueVerdict a s).freeCount = s.freeCount ∧ (queueVerdict a s).cport.part = s.cport.part ∧
    (queueVerdict a s).cport.staging = s.cport.staging ∧ (queueVerdict a s).cport.locked = s.cport.locked ∧
    (queueVerdict a s).cport.trans = s.cport.trans ∧ (queueVerdict a s).cport.rxBuf = s.cport.rxBuf ∧
    (queueVerdict a s).cport.resp = s.cport.resp ∧ (queueVerdict a s).cport.respPos = s.cport.respPos ∧
    (queueVerdict a s).cport.pdo = s.cport.pdo ∧ (queueVerdict a s).isRun = s.isRun ∧
    (queueVerdict a s).image = s.image ∧ (queueVerdict a s).address = s.address := by
  simp only [queueVerdict]
  simp [State.isRun, State.image, State.address]

@[simp] theorem setDeferral_frame (s : State) :
    (setDeferral s).now = s.now ∧ (setDeferral s).resetHeld = s.resetHeld ∧ (setDeferral s).meas = s.meas ∧
    (setDeferral s).fin = s.fin ∧ (setDeferral s).sequencer = s.sequencer ∧ (setDeferral s).blk = s.blk ∧
    (setDeferral s).prof = s.prof ∧ (setDeferral s).link = s.link ∧ (setDeferral s).tripco = s.tripco ∧
    (setDeferral s).hunt = s.hunt ∧ (setDeferral s).handovers = s.handovers ∧ (setDeferral s).pending = s.pending ∧
    (setDeferral s).freeCount = s.freeCount ∧ (setDeferral s).cport = s.cport ∧ (setDeferral s).isRun = s.isRun ∧
    (setDeferral s).image = s.image ∧ (setDeferral s).address = s.address := by
  simp only [setDeferral]
  simp [State.isRun, State.image, State.address]

@[simp] theorem requestOwnerTrip_frame (st : SeqState) (s : State) :
    (requestOwnerTrip st s).now = s.now ∧ (requestOwnerTrip st s).resetHeld = s.resetHeld ∧
    (requestOwnerTrip st s).meas = s.meas ∧ (requestOwnerTrip st s).elem = s.elem ∧
    (requestOwnerTrip st s).fin = s.fin ∧ (requestOwnerTrip st s).sequencer = s.sequencer ∧
    (requestOwnerTrip st s).blk = s.blk ∧ (requestOwnerTrip st s).prof = s.prof ∧
    (requestOwnerTrip st s).link = s.link ∧ (requestOwnerTrip st s).tripco = s.tripco ∧
    (requestOwnerTrip st s).hunt = s.hunt ∧ (requestOwnerTrip st s).pending = s.pending ∧
    (requestOwnerTrip st s).cport = s.cport ∧ (requestOwnerTrip st s).isRun = s.isRun ∧
    (requestOwnerTrip st s).image = s.image ∧ (requestOwnerTrip st s).address = s.address := by
  simp only [requestOwnerTrip]
  (repeat' split) <;> simp [State.isRun, State.image, State.address]

@[simp] theorem actAsOwner_frame (st : SeqState) (s : State) :
    (actAsOwner st s).now = s.now ∧ (actAsOwner st s).resetHeld = s.resetHeld ∧ (actAsOwner st s).meas = s.meas ∧
    (actAsOwner st s).elem = s.elem ∧ (actAsOwner st s).fin = s.fin ∧ (actAsOwner st s).sequencer = s.sequencer ∧
    (actAsOwner st s).blk = s.blk ∧ (actAsOwner st s).prof = s.prof ∧ (actAsOwner st s).link = s.link ∧
    (actAsOwner st s).tripco = s.tripco ∧ (actAsOwner st s).hunt = s.hunt ∧ (actAsOwner st s).pending = s.pending ∧
    (actAsOwner st s).cport = s.cport ∧ (actAsOwner st s).isRun = s.isRun ∧ (actAsOwner st s).image = s.image ∧
    (actAsOwner st s).address = s.address := by
  simp only [actAsOwner]
  (repeat' split) <;> simp [State.isRun, State.image, State.address]

@[simp] theorem actOnVerdict_frame (v : Verdict) (st : SeqState) (s : State) :
    (actOnVerdict v st s).now = s.now ∧ (actOnVerdict v st s).resetHeld = s.resetHeld ∧
    (actOnVerdict v st s).meas = s.meas ∧ (actOnVerdict v st s).fin = s.fin ∧
    (actOnVerdict v st s).sequencer = s.sequencer ∧ (actOnVerdict v st s).blk = s.blk ∧
    (actOnVerdict v st s).prof = s.prof ∧ (actOnVerdict v st s).link = s.link ∧
    (actOnVerdict v st s).tripco = s.tripco ∧ (actOnVerdict v st s).hunt = s.hunt ∧
    (actOnVerdict v st s).pending = s.pending ∧ (actOnVerdict v st s).cport = s.cport ∧
    (actOnVerdict v st s).isRun = s.isRun ∧ (actOnVerdict v st s).image = s.image ∧
    (actOnVerdict v st s).address = s.address := by
  simp only [actOnVerdict]
  (repeat' split) <;> simp [State.isRun, State.image, State.address]

@[simp] theorem enterCooldown_frame (s : State) :
    (enterCooldown s).now = s.now ∧ (enterCooldown s).resetHeld = s.resetHeld ∧ (enterCooldown s).meas = s.meas ∧
    (enterCooldown s).elem = s.elem ∧ (enterCooldown s).fin = s.fin ∧ (enterCooldown s).sequencer = s.sequencer ∧
    (enterCooldown s).blk = s.blk ∧ (enterCooldown s).prof = s.prof ∧ (enterCooldown s).link = s.link ∧
    (enterCooldown s).tripco = s.tripco ∧ (enterCooldown s).handovers = s.handovers ∧
    (enterCooldown s).pending = s.pending ∧ (enterCooldown s).freeCount = s.freeCount ∧
    (enterCooldown s).cport = s.cport ∧ (enterCooldown s).isRun = s.isRun ∧ (enterCooldown s).image = s.image ∧
    (enterCooldown s).address = s.address := by
  simp only [enterCooldown]
  simp [State.isRun, State.image, State.address]

@[simp] theorem giveVerdict_frame (v : Verdict) (s : State) :
    (giveVerdict v s).now = s.now ∧ (giveVerdict v s).resetHeld = s.resetHeld ∧ (giveVerdict v s).meas = s.meas ∧
    (giveVerdict v s).fin.position = s.fin.position ∧ (giveVerdict v s).fin.fieldDemand = s.fin.fieldDemand ∧
    (giveVerdict v s).fin.discrepancy = s.fin.discrepancy ∧ (giveVerdict v s).fin.discAt = s.fin.discAt ∧
    (giveVerdict v s).fin.nextPeriodAt = s.fin.nextPeriodAt ∧ (giveVerdict v s).fin.sense = s.fin.sense ∧
    (giveVerdict v s).blk.watches = s.blk.watches ∧ (giveVerdict v s).link = s.link ∧
    (giveVerdict v s).tripco.records = s.tripco.records ∧ (giveVerdict v s).pending = s.pending ∧
    (giveVerdict v s).cport.part = s.cport.part ∧ (giveVerdict v s).cport.staging = s.cport.staging ∧
    (giveVerdict v s).cport.locked = s.cport.locked ∧ (giveVerdict v s).cport.trans = s.cport.trans ∧
    (giveVerdict v s).cport.rxBuf = s.cport.rxBuf ∧ (giveVerdict v s).cport.resp = s.cport.resp ∧
    (giveVerdict v s).cport.respPos = s.cport.respPos ∧ (giveVerdict v s).cport.pdo = s.cport.pdo ∧
    (giveVerdict v s).isRun = s.isRun ∧ (giveVerdict v s).image = s.image ∧
    (giveVerdict v s).address = s.address := by
  simp only [giveVerdict]
  simp [State.isRun, State.image, State.address]

@[simp] theorem reachDeadline_frame (s : State) :
    (reachDeadline s).now = s.now ∧ (reachDeadline s).resetHeld = s.resetHeld ∧ (reachDeadline s).meas = s.meas ∧
    (reachDeadline s).fin.position = s.fin.position ∧ (reachDeadline s).fin.fieldDemand = s.fin.fieldDemand ∧
    (reachDeadline s).fin.discrepancy = s.fin.discrepancy ∧ (reachDeadline s).fin.discAt = s.fin.discAt ∧
    (reachDeadline s).fin.nextPeriodAt = s.fin.nextPeriodAt ∧ (reachDeadline s).fin.sense = s.fin.sense ∧
    (reachDeadline s).blk.watches = s.blk.watches ∧ (reachDeadline s).link = s.link ∧
    (reachDeadline s).tripco.records = s.tripco.records ∧ (reachDeadline s).pending = s.pending ∧
    (reachDeadline s).cport.part = s.cport.part ∧ (reachDeadline s).cport.staging = s.cport.staging ∧
    (reachDeadline s).cport.locked = s.cport.locked ∧ (reachDeadline s).cport.trans = s.cport.trans ∧
    (reachDeadline s).cport.rxBuf = s.cport.rxBuf ∧ (reachDeadline s).cport.resp = s.cport.resp ∧
    (reachDeadline s).cport.respPos = s.cport.respPos ∧ (reachDeadline s).cport.pdo = s.cport.pdo ∧
    (reachDeadline s).isRun = s.isRun ∧ (reachDeadline s).image = s.image ∧
    (reachDeadline s).address = s.address := by
  simp only [reachDeadline]
  (repeat' split) <;> simp [State.isRun, State.image, State.address]

@[simp] theorem takeCall_frame (r : Round) (s : State) :
    (takeCall r s).now = s.now ∧ (takeCall r s).resetHeld = s.resetHeld ∧ (takeCall r s).meas = s.meas ∧
    (takeCall r s).elem = s.elem ∧ (takeCall r s).fin.position = s.fin.position ∧
    (takeCall r s).fin.fieldDemand = s.fin.fieldDemand ∧ (takeCall r s).fin.discrepancy = s.fin.discrepancy ∧
    (takeCall r s).fin.discAt = s.fin.discAt ∧ (takeCall r s).fin.nextPeriodAt = s.fin.nextPeriodAt ∧
    (takeCall r s).fin.sense = s.fin.sense ∧ (takeCall r s).blk.watches = s.blk.watches ∧
    (takeCall r s).link = s.link ∧ (takeCall r s).tripco.records = s.tripco.records ∧
    (takeCall r s).pending = s.pending ∧ (takeCall r s).freeCount = s.freeCount ∧
    (takeCall r s).cport.part = s.cport.part ∧ (takeCall r s).cport.staging = s.cport.staging ∧
    (takeCall r s).cport.locked = s.cport.locked ∧ (takeCall r s).cport.trans = s.cport.trans ∧
    (takeCall r s).cport.rxBuf = s.cport.rxBuf ∧ (takeCall r s).cport.resp = s.cport.resp ∧
    (takeCall r s).cport.respPos = s.cport.respPos ∧ (takeCall r s).cport.pdo = s.cport.pdo ∧
    (takeCall r s).isRun = s.isRun ∧ (takeCall r s).image = s.image ∧ (takeCall r s).address = s.address := by
  simp only [takeCall]
  (repeat' split) <;> simp [State.isRun, State.image, State.address]

@[simp] theorem takeReport_frame (a : Byte) (r : ReportInfo) (s : State) :
    (takeReport a r s).now = s.now ∧ (takeReport a r s).resetHeld = s.resetHeld ∧ (takeReport a r s).meas = s.meas ∧
    (takeReport a r s).elem = s.elem ∧ (takeReport a r s).fin = s.fin ∧ (takeReport a r s).sequencer = s.sequencer ∧
    (takeReport a r s).blk = s.blk ∧ (takeReport a r s).prof = s.prof ∧ (takeReport a r s).link = s.link ∧
    (takeReport a r s).tripco = s.tripco ∧ (takeReport a r s).handovers = s.handovers ∧
    (takeReport a r s).pending = s.pending ∧ (takeReport a r s).freeCount = s.freeCount ∧
    (takeReport a r s).cport = s.cport ∧ (takeReport a r s).isRun = s.isRun ∧ (takeReport a r s).image = s.image ∧
    (takeReport a r s).address = s.address := by
  simp only [takeReport]
  (repeat' split) <;> simp [State.isRun, State.image, State.address]

@[simp] theorem resolveUncertain_frame (a : Byte) (s : State) :
    (resolveUncertain a s).now = s.now ∧ (resolveUncertain a s).resetHeld = s.resetHeld ∧
    (resolveUncertain a s).meas = s.meas ∧ (resolveUncertain a s).fin = s.fin ∧
    (resolveUncertain a s).sequencer = s.sequencer ∧ (resolveUncertain a s).blk = s.blk ∧
    (resolveUncertain a s).prof = s.prof ∧ (resolveUncertain a s).link = s.link ∧
    (resolveUncertain a s).tripco = s.tripco ∧ (resolveUncertain a s).handovers = s.handovers ∧
    (resolveUncertain a s).pending = s.pending ∧ (resolveUncertain a s).freeCount = s.freeCount ∧
    (resolveUncertain a s).cport.part = s.cport.part ∧ (resolveUncertain a s).cport.staging = s.cport.staging ∧
    (resolveUncertain a s).cport.locked = s.cport.locked ∧ (resolveUncertain a s).cport.trans = s.cport.trans ∧
    (resolveUncertain a s).cport.rxBuf = s.cport.rxBuf ∧ (resolveUncertain a s).cport.resp = s.cport.resp ∧
    (resolveUncertain a s).cport.respPos = s.cport.respPos ∧ (resolveUncertain a s).cport.pdo = s.cport.pdo ∧
    (resolveUncertain a s).isRun = s.isRun ∧ (resolveUncertain a s).image = s.image ∧
    (resolveUncertain a s).address = s.address := by
  simp only [resolveUncertain]
  simp [State.isRun, State.image, State.address]

@[simp] theorem takeVerdict_frame (a : Byte) (s : State) :
    (takeVerdict a s).now = s.now ∧ (takeVerdict a s).resetHeld = s.resetHeld ∧ (takeVerdict a s).meas = s.meas ∧
    (takeVerdict a s).fin = s.fin ∧ (takeVerdict a s).sequencer = s.sequencer ∧ (takeVerdict a s).blk = s.blk ∧
    (takeVerdict a s).prof = s.prof ∧ (takeVerdict a s).link = s.link ∧ (takeVerdict a s).tripco = s.tripco ∧
    (takeVerdict a s).handovers = s.handovers ∧ (takeVerdict a s).pending = s.pending ∧
    (takeVerdict a s).freeCount = s.freeCount ∧ (takeVerdict a s).cport.part = s.cport.part ∧
    (takeVerdict a s).cport.staging = s.cport.staging ∧ (takeVerdict a s).cport.locked = s.cport.locked ∧
    (takeVerdict a s).cport.trans = s.cport.trans ∧ (takeVerdict a s).cport.rxBuf = s.cport.rxBuf ∧
    (takeVerdict a s).cport.resp = s.cport.resp ∧ (takeVerdict a s).cport.respPos = s.cport.respPos ∧
    (takeVerdict a s).cport.pdo = s.cport.pdo ∧ (takeVerdict a s).isRun = s.isRun ∧
    (takeVerdict a s).image = s.image ∧ (takeVerdict a s).address = s.address := by
  simp only [takeVerdict]
  (repeat' split) <;> simp [State.isRun, State.image, State.address]

@[simp] theorem endCooldown_frame (s : State) :
    (endCooldown s).now = s.now ∧ (endCooldown s).resetHeld = s.resetHeld ∧ (endCooldown s).meas = s.meas ∧
    (endCooldown s).elem = s.elem ∧ (endCooldown s).fin = s.fin ∧ (endCooldown s).sequencer = s.sequencer ∧
    (endCooldown s).blk = s.blk ∧ (endCooldown s).link = s.link ∧ (endCooldown s).tripco = s.tripco ∧
    (endCooldown s).pending = s.pending ∧ (endCooldown s).freeCount = s.freeCount ∧
    (endCooldown s).cport.part = s.cport.part ∧ (endCooldown s).cport.staging = s.cport.staging ∧
    (endCooldown s).cport.locked = s.cport.locked ∧ (endCooldown s).cport.trans = s.cport.trans ∧
    (endCooldown s).cport.rxBuf = s.cport.rxBuf ∧ (endCooldown s).cport.resp = s.cport.resp ∧
    (endCooldown s).cport.respPos = s.cport.respPos ∧ (endCooldown s).cport.pdo = s.cport.pdo ∧
    (endCooldown s).isRun = s.isRun ∧ (endCooldown s).image = s.image ∧ (endCooldown s).address = s.address := by
  simp only [endCooldown]
  simp [State.isRun, State.image, State.address]

@[simp] theorem requestTrip_frame (c : Option ProtCause) (s : State) :
    (requestTrip c s).now = s.now ∧ (requestTrip c s).resetHeld = s.resetHeld ∧ (requestTrip c s).meas = s.meas ∧
    (requestTrip c s).elem = s.elem ∧ (requestTrip c s).fin = s.fin ∧ (requestTrip c s).sequencer = s.sequencer ∧
    (requestTrip c s).blk = s.blk ∧ (requestTrip c s).prof = s.prof ∧ (requestTrip c s).link = s.link ∧
    (requestTrip c s).tripco = s.tripco ∧ (requestTrip c s).hunt = s.hunt ∧ (requestTrip c s).pending = s.pending ∧
    (requestTrip c s).freeCount = s.freeCount ∧ (requestTrip c s).cport = s.cport ∧
    (requestTrip c s).isRun = s.isRun ∧ (requestTrip c s).image = s.image ∧
    (requestTrip c s).address = s.address := by
  cases c <;> simp [requestTrip]

@[simp] theorem alarmSef_frame (b : State) (s : State) :
    (alarmSef b s).now = s.now ∧ (alarmSef b s).resetHeld = s.resetHeld ∧ (alarmSef b s).meas = s.meas ∧
    (alarmSef b s).elem = s.elem ∧ (alarmSef b s).fin = s.fin ∧ (alarmSef b s).sequencer = s.sequencer ∧
    (alarmSef b s).blk = s.blk ∧ (alarmSef b s).prof = s.prof ∧ (alarmSef b s).link = s.link ∧
    (alarmSef b s).tripco = s.tripco ∧ (alarmSef b s).hunt = s.hunt ∧ (alarmSef b s).handovers = s.handovers ∧
    (alarmSef b s).pending = s.pending ∧ (alarmSef b s).freeCount = s.freeCount ∧
    (alarmSef b s).cport.part = s.cport.part ∧ (alarmSef b s).cport.staging = s.cport.staging ∧
    (alarmSef b s).cport.locked = s.cport.locked ∧ (alarmSef b s).cport.trans = s.cport.trans ∧
    (alarmSef b s).cport.rxBuf = s.cport.rxBuf ∧ (alarmSef b s).cport.resp = s.cport.resp ∧
    (alarmSef b s).cport.respPos = s.cport.respPos ∧ (alarmSef b s).cport.pdo = s.cport.pdo ∧
    (alarmSef b s).isRun = s.isRun ∧ (alarmSef b s).image = s.image ∧ (alarmSef b s).address = s.address := by
  simp only [alarmSef]
  (repeat' split) <;> simp [State.isRun, State.image, State.address]

@[simp] theorem handIndications_frame (s : State) :
    (handIndications s).now = s.now ∧ (handIndications s).resetHeld = s.resetHeld ∧
    (handIndications s).meas = s.meas ∧ (handIndications s).elem = s.elem ∧
    (handIndications s).fin.position = s.fin.position ∧ (handIndications s).fin.fieldDemand = s.fin.fieldDemand ∧
    (handIndications s).fin.discrepancy = s.fin.discrepancy ∧ (handIndications s).fin.discAt = s.fin.discAt ∧
    (handIndications s).fin.nextPeriodAt = s.fin.nextPeriodAt ∧ (handIndications s).fin.sense = s.fin.sense ∧
    (handIndications s).blk.watches = s.blk.watches ∧ (handIndications s).link = s.link ∧
    (handIndications s).tripco.records = s.tripco.records ∧ (handIndications s).pending = s.pending ∧
    (handIndications s).freeCount = s.freeCount ∧ (handIndications s).cport.part = s.cport.part ∧
    (handIndications s).cport.staging = s.cport.staging ∧ (handIndications s).cport.locked = s.cport.locked ∧
    (handIndications s).cport.trans = s.cport.trans ∧ (handIndications s).cport.rxBuf = s.cport.rxBuf ∧
    (handIndications s).cport.resp = s.cport.resp ∧ (handIndications s).cport.respPos = s.cport.respPos ∧
    (handIndications s).cport.pdo = s.cport.pdo ∧ (handIndications s).isRun = s.isRun ∧
    (handIndications s).image = s.image ∧ (handIndications s).address = s.address := by
  simp only [handIndications]
  simp [State.isRun, State.image, State.address]

@[simp] theorem elemStep_frame (s : State) :
    (elemStep s).now = s.now ∧ (elemStep s).resetHeld = s.resetHeld ∧ (elemStep s).meas = s.meas ∧
    (elemStep s).fin.position = s.fin.position ∧ (elemStep s).fin.fieldDemand = s.fin.fieldDemand ∧
    (elemStep s).fin.discrepancy = s.fin.discrepancy ∧ (elemStep s).fin.discAt = s.fin.discAt ∧
    (elemStep s).fin.nextPeriodAt = s.fin.nextPeriodAt ∧ (elemStep s).fin.sense = s.fin.sense ∧
    (elemStep s).blk.watches = s.blk.watches ∧ (elemStep s).link = s.link ∧
    (elemStep s).tripco.records = s.tripco.records ∧ (elemStep s).pending = s.pending ∧
    (elemStep s).freeCount = s.freeCount ∧ (elemStep s).cport.part = s.cport.part ∧
    (elemStep s).cport.staging = s.cport.staging ∧ (elemStep s).cport.locked = s.cport.locked ∧
    (elemStep s).cport.trans = s.cport.trans ∧ (elemStep s).cport.rxBuf = s.cport.rxBuf ∧
    (elemStep s).cport.resp = s.cport.resp ∧ (elemStep s).cport.respPos = s.cport.respPos ∧
    (elemStep s).cport.pdo = s.cport.pdo ∧ (elemStep s).isRun = s.isRun ∧ (elemStep s).image = s.image ∧
    (elemStep s).address = s.address := by
  simp only [elemStep]
  simp [State.isRun, State.image, State.address]

@[simp] theorem failSnapshot_frame (s : State) :
    (failSnapshot s).now = s.now ∧ (failSnapshot s).resetHeld = s.resetHeld ∧ (failSnapshot s).elem = s.elem ∧
    (failSnapshot s).fin = s.fin ∧ (failSnapshot s).sequencer = s.sequencer ∧ (failSnapshot s).blk = s.blk ∧
    (failSnapshot s).prof = s.prof ∧ (failSnapshot s).link = s.link ∧ (failSnapshot s).tripco = s.tripco ∧
    (failSnapshot s).hunt = s.hunt ∧ (failSnapshot s).handovers = s.handovers ∧
    (failSnapshot s).pending = s.pending ∧ (failSnapshot s).freeCount = s.freeCount ∧
    (failSnapshot s).cport = s.cport ∧ (failSnapshot s).isRun = s.isRun ∧ (failSnapshot s).image = s.image ∧
    (failSnapshot s).address = s.address := by
  simp only [failSnapshot]
  (repeat' split) <;> simp [State.isRun, State.image, State.address]

@[simp] theorem placeSelf_frame (s : State) :
    (placeSelf s).now = s.now ∧ (placeSelf s).resetHeld = s.resetHeld ∧ (placeSelf s).meas = s.meas ∧
    (placeSelf s).elem = s.elem ∧ (placeSelf s).fin.position = s.fin.position ∧
    (placeSelf s).fin.fieldDemand = s.fin.fieldDemand ∧ (placeSelf s).fin.discrepancy = s.fin.discrepancy ∧
    (placeSelf s).fin.discAt = s.fin.discAt ∧ (placeSelf s).fin.nextPeriodAt = s.fin.nextPeriodAt ∧
    (placeSelf s).fin.sense = s.fin.sense ∧ (placeSelf s).blk.watches = s.blk.watches ∧ (placeSelf s).link = s.link ∧
    (placeSelf s).tripco.records = s.tripco.records ∧ (placeSelf s).hunt = s.hunt ∧
    (placeSelf s).pending = s.pending ∧ (placeSelf s).freeCount = s.freeCount ∧
    (placeSelf s).cport.part = s.cport.part ∧ (placeSelf s).cport.staging = s.cport.staging ∧
    (placeSelf s).cport.locked = s.cport.locked ∧ (placeSelf s).cport.trans = s.cport.trans ∧
    (placeSelf s).cport.rxBuf = s.cport.rxBuf ∧ (placeSelf s).cport.resp = s.cport.resp ∧
    (placeSelf s).cport.respPos = s.cport.respPos ∧ (placeSelf s).cport.pdo = s.cport.pdo ∧
    (placeSelf s).isRun = s.isRun ∧ (placeSelf s).image = s.image ∧ (placeSelf s).address = s.address := by
  simp only [placeSelf]
  (repeat' split) <;> simp [State.isRun, State.image, State.address]

@[simp] theorem removeSelf_frame (s : State) :
    (removeSelf s).now = s.now ∧ (removeSelf s).resetHeld = s.resetHeld ∧ (removeSelf s).meas = s.meas ∧
    (removeSelf s).elem = s.elem ∧ (removeSelf s).fin.position = s.fin.position ∧
    (removeSelf s).fin.fieldDemand = s.fin.fieldDemand ∧ (removeSelf s).fin.discrepancy = s.fin.discrepancy ∧
    (removeSelf s).fin.discAt = s.fin.discAt ∧ (removeSelf s).fin.nextPeriodAt = s.fin.nextPeriodAt ∧
    (removeSelf s).fin.sense = s.fin.sense ∧ (removeSelf s).blk.watches = s.blk.watches ∧
    (removeSelf s).link = s.link ∧ (removeSelf s).tripco.records = s.tripco.records ∧ (removeSelf s).hunt = s.hunt ∧
    (removeSelf s).pending = s.pending ∧ (removeSelf s).freeCount = s.freeCount ∧
    (removeSelf s).cport.part = s.cport.part ∧ (removeSelf s).cport.staging = s.cport.staging ∧
    (removeSelf s).cport.locked = s.cport.locked ∧ (removeSelf s).cport.trans = s.cport.trans ∧
    (removeSelf s).cport.rxBuf = s.cport.rxBuf ∧ (removeSelf s).cport.resp = s.cport.resp ∧
    (removeSelf s).cport.respPos = s.cport.respPos ∧ (removeSelf s).cport.pdo = s.cport.pdo ∧
    (removeSelf s).isRun = s.isRun ∧ (removeSelf s).image = s.image ∧ (removeSelf s).address = s.address := by
  simp only [removeSelf]
  (repeat' split) <;> simp [State.isRun, State.image, State.address]

@[simp] theorem becomeStale_frame (c : StaleCause) (s : State) :
    (becomeStale c s).now = s.now ∧ (becomeStale c s).resetHeld = s.resetHeld ∧ (becomeStale c s).elem = s.elem ∧
    (becomeStale c s).fin.position = s.fin.position ∧ (becomeStale c s).fin.fieldDemand = s.fin.fieldDemand ∧
    (becomeStale c s).fin.discrepancy = s.fin.discrepancy ∧ (becomeStale c s).fin.discAt = s.fin.discAt ∧
    (becomeStale c s).fin.nextPeriodAt = s.fin.nextPeriodAt ∧ (becomeStale c s).fin.sense = s.fin.sense ∧
    (becomeStale c s).blk.watches = s.blk.watches ∧ (becomeStale c s).link = s.link ∧
    (becomeStale c s).tripco.records = s.tripco.records ∧ (becomeStale c s).hunt = s.hunt ∧
    (becomeStale c s).pending = s.pending ∧ (becomeStale c s).freeCount = s.freeCount ∧
    (becomeStale c s).cport.part = s.cport.part ∧ (becomeStale c s).cport.staging = s.cport.staging ∧
    (becomeStale c s).cport.locked = s.cport.locked ∧ (becomeStale c s).cport.trans = s.cport.trans ∧
    (becomeStale c s).cport.rxBuf = s.cport.rxBuf ∧ (becomeStale c s).cport.resp = s.cport.resp ∧
    (becomeStale c s).cport.respPos = s.cport.respPos ∧ (becomeStale c s).cport.pdo = s.cport.pdo ∧
    (becomeStale c s).isRun = s.isRun ∧ (becomeStale c s).image = s.image ∧
    (becomeStale c s).address = s.address := by
  simp only [becomeStale]
  (repeat' split) <;> simp [State.isRun, State.image, State.address]

@[simp] theorem becomeFresh_frame (s : State) :
    (becomeFresh s).now = s.now ∧ (becomeFresh s).resetHeld = s.resetHeld ∧ (becomeFresh s).elem = s.elem ∧
    (becomeFresh s).fin.position = s.fin.position ∧ (becomeFresh s).fin.fieldDemand = s.fin.fieldDemand ∧
    (becomeFresh s).fin.discrepancy = s.fin.discrepancy ∧ (becomeFresh s).fin.discAt = s.fin.discAt ∧
    (becomeFresh s).fin.nextPeriodAt = s.fin.nextPeriodAt ∧ (becomeFresh s).fin.sense = s.fin.sense ∧
    (becomeFresh s).blk.watches = s.blk.watches ∧ (becomeFresh s).link = s.link ∧
    (becomeFresh s).tripco.records = s.tripco.records ∧ (becomeFresh s).hunt = s.hunt ∧
    (becomeFresh s).pending = s.pending ∧ (becomeFresh s).freeCount = s.freeCount ∧
    (becomeFresh s).cport.part = s.cport.part ∧ (becomeFresh s).cport.staging = s.cport.staging ∧
    (becomeFresh s).cport.locked = s.cport.locked ∧ (becomeFresh s).cport.trans = s.cport.trans ∧
    (becomeFresh s).cport.rxBuf = s.cport.rxBuf ∧ (becomeFresh s).cport.resp = s.cport.resp ∧
    (becomeFresh s).cport.respPos = s.cport.respPos ∧ (becomeFresh s).cport.pdo = s.cport.pdo ∧
    (becomeFresh s).isRun = s.isRun ∧ (becomeFresh s).image = s.image ∧ (becomeFresh s).address = s.address := by
  simp only [becomeFresh]
  (repeat' split) <;> simp [State.isRun, State.image, State.address]

@[simp] theorem loseCycle_frame (s : State) :
    (loseCycle s).now = s.now ∧ (loseCycle s).resetHeld = s.resetHeld ∧ (loseCycle s).elem = s.elem ∧
    (loseCycle s).fin = s.fin ∧ (loseCycle s).sequencer = s.sequencer ∧ (loseCycle s).blk = s.blk ∧
    (loseCycle s).prof = s.prof ∧ (loseCycle s).link = s.link ∧ (loseCycle s).tripco = s.tripco ∧
    (loseCycle s).pending = s.pending ∧ (loseCycle s).freeCount = s.freeCount ∧ (loseCycle s).cport = s.cport ∧
    (loseCycle s).isRun = s.isRun ∧ (loseCycle s).image = s.image ∧ (loseCycle s).address = s.address := by
  simp only [loseCycle]
  simp [State.isRun, State.image, State.address]

@[simp] theorem loseCycleInOrder_frame (s : State) :
    (loseCycleInOrder s).now = s.now ∧ (loseCycleInOrder s).resetHeld = s.resetHeld ∧
    (loseCycleInOrder s).elem = s.elem ∧ (loseCycleInOrder s).fin.position = s.fin.position ∧
    (loseCycleInOrder s).fin.fieldDemand = s.fin.fieldDemand ∧
    (loseCycleInOrder s).fin.discrepancy = s.fin.discrepancy ∧ (loseCycleInOrder s).fin.discAt = s.fin.discAt ∧
    (loseCycleInOrder s).fin.nextPeriodAt = s.fin.nextPeriodAt ∧ (loseCycleInOrder s).fin.sense = s.fin.sense ∧
    (loseCycleInOrder s).blk.watches = s.blk.watches ∧ (loseCycleInOrder s).link = s.link ∧
    (loseCycleInOrder s).tripco.records = s.tripco.records ∧ (loseCycleInOrder s).pending = s.pending ∧
    (loseCycleInOrder s).freeCount = s.freeCount ∧ (loseCycleInOrder s).cport.part = s.cport.part ∧
    (loseCycleInOrder s).cport.staging = s.cport.staging ∧ (loseCycleInOrder s).cport.locked = s.cport.locked ∧
    (loseCycleInOrder s).cport.trans = s.cport.trans ∧ (loseCycleInOrder s).cport.rxBuf = s.cport.rxBuf ∧
    (loseCycleInOrder s).cport.resp = s.cport.resp ∧ (loseCycleInOrder s).cport.respPos = s.cport.respPos ∧
    (loseCycleInOrder s).cport.pdo = s.cport.pdo ∧ (loseCycleInOrder s).isRun = s.isRun ∧
    (loseCycleInOrder s).image = s.image ∧ (loseCycleInOrder s).address = s.address := by
  simp only [loseCycleInOrder]
  (repeat' split) <;> simp [State.isRun, State.image, State.address]

@[simp] theorem fillSnapshot_frame (c : Option ProtCause) (s : State) :
    (fillSnapshot c s).now = s.now ∧ (fillSnapshot c s).resetHeld = s.resetHeld ∧ (fillSnapshot c s).elem = s.elem ∧
    (fillSnapshot c s).fin = s.fin ∧ (fillSnapshot c s).sequencer = s.sequencer ∧ (fillSnapshot c s).blk = s.blk ∧
    (fillSnapshot c s).prof = s.prof ∧ (fillSnapshot c s).link = s.link ∧ (fillSnapshot c s).tripco = s.tripco ∧
    (fillSnapshot c s).hunt = s.hunt ∧ (fillSnapshot c s).handovers = s.handovers ∧
    (fillSnapshot c s).pending = s.pending ∧ (fillSnapshot c s).cport = s.cport ∧
    (fillSnapshot c s).isRun = s.isRun ∧ (fillSnapshot c s).image = s.image ∧
    (fillSnapshot c s).address = s.address := by
  simp only [fillSnapshot]
  (repeat' split) <;> simp [State.isRun, State.image, State.address]

@[simp] theorem storeCycle_frame (l : List Sample) (s : State) :
    (storeCycle l s).now = s.now ∧ (storeCycle l s).resetHeld = s.resetHeld ∧ (storeCycle l s).elem = s.elem ∧
    (storeCycle l s).fin = s.fin ∧ (storeCycle l s).sequencer = s.sequencer ∧ (storeCycle l s).blk = s.blk ∧
    (storeCycle l s).prof = s.prof ∧ (storeCycle l s).link = s.link ∧ (storeCycle l s).tripco = s.tripco ∧
    (storeCycle l s).hunt = s.hunt ∧ (storeCycle l s).handovers = s.handovers ∧
    (storeCycle l s).pending = s.pending ∧ (storeCycle l s).freeCount = s.freeCount ∧
    (storeCycle l s).cport = s.cport ∧ (storeCycle l s).isRun = s.isRun ∧ (storeCycle l s).image = s.image ∧
    (storeCycle l s).address = s.address := by
  simp only [storeCycle]
  simp [State.isRun, State.image, State.address]

@[simp] theorem completeCycle_frame (l : List Sample) (s : State) :
    (completeCycle l s).now = s.now ∧ (completeCycle l s).resetHeld = s.resetHeld ∧
    (completeCycle l s).fin.position = s.fin.position ∧ (completeCycle l s).fin.fieldDemand = s.fin.fieldDemand ∧
    (completeCycle l s).fin.discrepancy = s.fin.discrepancy ∧ (completeCycle l s).fin.discAt = s.fin.discAt ∧
    (completeCycle l s).fin.nextPeriodAt = s.fin.nextPeriodAt ∧ (completeCycle l s).fin.sense = s.fin.sense ∧
    (completeCycle l s).blk.watches = s.blk.watches ∧ (completeCycle l s).link = s.link ∧
    (completeCycle l s).tripco.records = s.tripco.records ∧ (completeCycle l s).pending = s.pending ∧
    (completeCycle l s).cport.part = s.cport.part ∧ (completeCycle l s).cport.staging = s.cport.staging ∧
    (completeCycle l s).cport.locked = s.cport.locked ∧ (completeCycle l s).cport.trans = s.cport.trans ∧
    (completeCycle l s).cport.rxBuf = s.cport.rxBuf ∧ (completeCycle l s).cport.resp = s.cport.resp ∧
    (completeCycle l s).cport.respPos = s.cport.respPos ∧ (completeCycle l s).cport.pdo = s.cport.pdo ∧
    (completeCycle l s).isRun = s.isRun ∧ (completeCycle l s).image = s.image ∧
    (completeCycle l s).address = s.address := by
  simp only [completeCycle, handCycle]
  (repeat' split) <;> simp [State.isRun, State.image, State.address]

@[simp] theorem handPosition_frame (s : State) :
    (handPosition s).now = s.now ∧ (handPosition s).resetHeld = s.resetHeld ∧ (handPosition s).meas = s.meas ∧
    (handPosition s).elem = s.elem ∧ (handPosition s).fin.position = s.fin.position ∧
    (handPosition s).fin.fieldDemand = s.fin.fieldDemand ∧ (handPosition s).fin.discrepancy = s.fin.discrepancy ∧
    (handPosition s).fin.discAt = s.fin.discAt ∧ (handPosition s).fin.nextPeriodAt = s.fin.nextPeriodAt ∧
    (handPosition s).fin.sense = s.fin.sense ∧ (handPosition s).blk = s.blk ∧ (handPosition s).link = s.link ∧
    (handPosition s).tripco.records = s.tripco.records ∧ (handPosition s).pending = s.pending ∧
    (handPosition s).freeCount = s.freeCount ∧ (handPosition s).cport.part = s.cport.part ∧
    (handPosition s).cport.staging = s.cport.staging ∧ (handPosition s).cport.locked = s.cport.locked ∧
    (handPosition s).cport.trans = s.cport.trans ∧ (handPosition s).cport.rxBuf = s.cport.rxBuf ∧
    (handPosition s).cport.resp = s.cport.resp ∧ (handPosition s).cport.respPos = s.cport.respPos ∧
    (handPosition s).cport.pdo = s.cport.pdo ∧ (handPosition s).isRun = s.isRun ∧ (handPosition s).image = s.image ∧
    (handPosition s).address = s.address := by
  simp only [handPosition]
  simp [State.isRun, State.image, State.address]

@[simp] theorem setPosition_frame (p : Position) (s : State) :
    (setPosition p s).now = s.now ∧ (setPosition p s).resetHeld = s.resetHeld ∧ (setPosition p s).meas = s.meas ∧
    (setPosition p s).elem = s.elem ∧ (setPosition p s).blk = s.blk ∧ (setPosition p s).link = s.link ∧
    (setPosition p s).tripco.records = s.tripco.records ∧ (setPosition p s).pending = s.pending ∧
    (setPosition p s).freeCount = s.freeCount ∧ (setPosition p s).cport.part = s.cport.part ∧
    (setPosition p s).cport.staging = s.cport.staging ∧ (setPosition p s).cport.locked = s.cport.locked ∧
    (setPosition p s).cport.trans = s.cport.trans ∧ (setPosition p s).cport.rxBuf = s.cport.rxBuf ∧
    (setPosition p s).cport.resp = s.cport.resp ∧ (setPosition p s).cport.respPos = s.cport.respPos ∧
    (setPosition p s).cport.pdo = s.cport.pdo ∧ (setPosition p s).isRun = s.isRun ∧
    (setPosition p s).image = s.image ∧ (setPosition p s).address = s.address := by
  simp only [setPosition]
  (repeat' split) <;> simp [State.isRun, State.image, State.address]

@[simp] theorem beginDiscrepancy_frame (s : State) :
    (beginDiscrepancy s).now = s.now ∧ (beginDiscrepancy s).resetHeld = s.resetHeld ∧
    (beginDiscrepancy s).meas = s.meas ∧ (beginDiscrepancy s).elem = s.elem ∧
    (beginDiscrepancy s).sequencer = s.sequencer ∧ (beginDiscrepancy s).blk = s.blk ∧
    (beginDiscrepancy s).prof = s.prof ∧ (beginDiscrepancy s).link = s.link ∧
    (beginDiscrepancy s).tripco = s.tripco ∧ (beginDiscrepancy s).hunt = s.hunt ∧
    (beginDiscrepancy s).handovers = s.handovers ∧ (beginDiscrepancy s).pending = s.pending ∧
    (beginDiscrepancy s).freeCount = s.freeCount ∧ (beginDiscrepancy s).cport = s.cport ∧
    (beginDiscrepancy s).isRun = s.isRun ∧ (beginDiscrepancy s).image = s.image ∧
    (beginDiscrepancy s).address = s.address := by
  simp only [beginDiscrepancy]
  (repeat' split) <;> simp [State.isRun, State.image, State.address]

@[simp] theorem derivePosition_frame (s : State) :
    (derivePosition s).now = s.now ∧ (derivePosition s).resetHeld = s.resetHeld ∧ (derivePosition s).meas = s.meas ∧
    (derivePosition s).elem = s.elem ∧ (derivePosition s).blk = s.blk ∧ (derivePosition s).link = s.link ∧
    (derivePosition s).tripco.records = s.tripco.records ∧ (derivePosition s).pending = s.pending ∧
    (derivePosition s).freeCount = s.freeCount ∧ (derivePosition s).cport.part = s.cport.part ∧
    (derivePosition s).cport.staging = s.cport.staging ∧ (derivePosition s).cport.locked = s.cport.locked ∧
    (derivePosition s).cport.trans = s.cport.trans ∧ (derivePosition s).cport.rxBuf = s.cport.rxBuf ∧
    (derivePosition s).cport.resp = s.cport.resp ∧ (derivePosition s).cport.respPos = s.cport.respPos ∧
    (derivePosition s).cport.pdo = s.cport.pdo ∧ (derivePosition s).isRun = s.isRun ∧
    (derivePosition s).image = s.image ∧ (derivePosition s).address = s.address := by
  simp only [derivePosition]
  (repeat' split) <;> simp [State.isRun, State.image, State.address]

@[simp] theorem expireDiscrepancy_frame (s : State) :
    (expireDiscrepancy s).now = s.now ∧ (expireDiscrepancy s).resetHeld = s.resetHeld ∧
    (expireDiscrepancy s).meas = s.meas ∧ (expireDiscrepancy s).elem = s.elem ∧ (expireDiscrepancy s).blk = s.blk ∧
    (expireDiscrepancy s).link = s.link ∧ (expireDiscrepancy s).tripco.records = s.tripco.records ∧
    (expireDiscrepancy s).pending = s.pending ∧ (expireDiscrepancy s).freeCount = s.freeCount ∧
    (expireDiscrepancy s).cport.part = s.cport.part ∧ (expireDiscrepancy s).cport.staging = s.cport.staging ∧
    (expireDiscrepancy s).cport.locked = s.cport.locked ∧ (expireDiscrepancy s).cport.trans = s.cport.trans ∧
    (expireDiscrepancy s).cport.rxBuf = s.cport.rxBuf ∧ (expireDiscrepancy s).cport.resp = s.cport.resp ∧
    (expireDiscrepancy s).cport.respPos = s.cport.respPos ∧ (expireDiscrepancy s).cport.pdo = s.cport.pdo ∧
    (expireDiscrepancy s).isRun = s.isRun ∧ (expireDiscrepancy s).image = s.image ∧
    (expireDiscrepancy s).address = s.address := by
  simp only [expireDiscrepancy]
  (repeat' split) <;> simp [State.isRun, State.image, State.address]

@[simp] theorem deriveDemand_frame (s : State) :
    (deriveDemand s).now = s.now ∧ (deriveDemand s).resetHeld = s.resetHeld ∧ (deriveDemand s).meas = s.meas ∧
    (deriveDemand s).elem = s.elem ∧ (deriveDemand s).blk = s.blk ∧ (deriveDemand s).link = s.link ∧
    (deriveDemand s).tripco.records = s.tripco.records ∧ (deriveDemand s).hunt = s.hunt ∧
    (deriveDemand s).pending = s.pending ∧ (deriveDemand s).cport.part = s.cport.part ∧
    (deriveDemand s).cport.staging = s.cport.staging ∧ (deriveDemand s).cport.locked = s.cport.locked ∧
    (deriveDemand s).cport.trans = s.cport.trans ∧ (deriveDemand s).cport.rxBuf = s.cport.rxBuf ∧
    (deriveDemand s).cport.resp = s.cport.resp ∧ (deriveDemand s).cport.respPos = s.cport.respPos ∧
    (deriveDemand s).cport.pdo = s.cport.pdo ∧ (deriveDemand s).isRun = s.isRun ∧ (deriveDemand s).image = s.image ∧
    (deriveDemand s).address = s.address := by
  simp only [deriveDemand]
  (repeat' split) <;> simp [State.isRun, State.image, State.address]

@[simp] theorem queueInputChange_frame (n : Nat) (a b : Bool) (s : State) :
    (queueInputChange n a b s).now = s.now ∧ (queueInputChange n a b s).resetHeld = s.resetHeld ∧
    (queueInputChange n a b s).meas = s.meas ∧ (queueInputChange n a b s).elem = s.elem ∧
    (queueInputChange n a b s).fin = s.fin ∧ (queueInputChange n a b s).sequencer = s.sequencer ∧
    (queueInputChange n a b s).blk = s.blk ∧ (queueInputChange n a b s).prof = s.prof ∧
    (queueInputChange n a b s).link = s.link ∧ (queueInputChange n a b s).tripco = s.tripco ∧
    (queueInputChange n a b s).hunt = s.hunt ∧ (queueInputChange n a b s).handovers = s.handovers ∧
    (queueInputChange n a b s).pending = s.pending ∧ (queueInputChange n a b s).freeCount = s.freeCount ∧
    (queueInputChange n a b s).cport.part = s.cport.part ∧
    (queueInputChange n a b s).cport.staging = s.cport.staging ∧
    (queueInputChange n a b s).cport.locked = s.cport.locked ∧
    (queueInputChange n a b s).cport.trans = s.cport.trans ∧ (queueInputChange n a b s).cport.rxBuf = s.cport.rxBuf ∧
    (queueInputChange n a b s).cport.resp = s.cport.resp ∧
    (queueInputChange n a b s).cport.respPos = s.cport.respPos ∧ (queueInputChange n a b s).cport.pdo = s.cport.pdo ∧
    (queueInputChange n a b s).isRun = s.isRun ∧ (queueInputChange n a b s).image = s.image ∧
    (queueInputChange n a b s).address = s.address := by
  simp only [queueInputChange]
  simp [State.isRun, State.image, State.address]

@[simp] theorem handFieldRecord_frame (n : Nat) (a b : Bool) (s : State) :
    (handFieldRecord n a b s).now = s.now ∧ (handFieldRecord n a b s).resetHeld = s.resetHeld ∧
    (handFieldRecord n a b s).meas = s.meas ∧ (handFieldRecord n a b s).elem = s.elem ∧
    (handFieldRecord n a b s).fin.position = s.fin.position ∧
    (handFieldRecord n a b s).fin.fieldDemand = s.fin.fieldDemand ∧
    (handFieldRecord n a b s).fin.discrepancy = s.fin.discrepancy ∧
    (handFieldRecord n a b s).fin.discAt = s.fin.discAt ∧
    (handFieldRecord n a b s).fin.nextPeriodAt = s.fin.nextPeriodAt ∧
    (handFieldRecord n a b s).fin.sense = s.fin.sense ∧ (handFieldRecord n a b s).blk.watches = s.blk.watches ∧
    (handFieldRecord n a b s).link = s.link ∧ (handFieldRecord n a b s).tripco.records = s.tripco.records ∧
    (handFieldRecord n a b s).hunt = s.hunt ∧ (handFieldRecord n a b s).pending = s.pending ∧
    (handFieldRecord n a b s).freeCount = s.freeCount ∧ (handFieldRecord n a b s).cport.part = s.cport.part ∧
    (handFieldRecord n a b s).cport.staging = s.cport.staging ∧
    (handFieldRecord n a b s).cport.locked = s.cport.locked ∧ (handFieldRecord n a b s).cport.trans = s.cport.trans ∧
    (handFieldRecord n a b s).cport.rxBuf = s.cport.rxBuf ∧ (handFieldRecord n a b s).cport.resp = s.cport.resp ∧
    (handFieldRecord n a b s).cport.respPos = s.cport.respPos ∧ (handFieldRecord n a b s).cport.pdo = s.cport.pdo ∧
    (handFieldRecord n a b s).isRun = s.isRun ∧ (handFieldRecord n a b s).image = s.image ∧
    (handFieldRecord n a b s).address = s.address := by
  simp only [handFieldRecord]
  (repeat' split) <;> simp [State.isRun, State.image, State.address]

end Sys2Proof.Machine
end

