-- ==== Sys2Proof/Laws/Codec.lean ====
section
/-! SUPPORT. The codec, in one place: bytes and halves, the check codes bit by bit, the payload of a frame and what its
reader makes of it, and the taking apart of the bytes of a frame. -/

namespace Sys2Proof.Machine

theorem toNat_byteOf (n : Nat) (h : n < 256) : (byteOf n).toNat = n := by
  rw [byteOf, BitVec.toNat_ofNat]; exact Nat.mod_eq_of_lt h

theorem toNat_byteOf_mod (n : Nat) : (byteOf n).toNat = n % 256 := by
  rw [byteOf, BitVec.toNat_ofNat]

theorem toNat_satByte (n : Nat) : (satByte n).toNat = min n 255 := by
  simp only [satByte, BitVec.toNat_ofNat]; omega

/-- The two bytes of a half, as numbers. -/
theorem toNat_half_bytes (h : Half) :
    (BitVec.extractLsb' 8 8 h).toNat = h.toNat / 256 ∧ (BitVec.extractLsb' 0 8 h).toNat = h.toNat % 256 := by
  simp [Nat.shiftRight_eq_div_pow]; omega

theorem instantBytes_getD (t : Option Ms) : instantBytes t = be32 (t.getD 0).toNat := by cases t <;> rfl

/-! ### Check codes -/

/-- A CRC is linear: a bit of the message enters at the top, and the bits behind it move up. -/
theorem crcBit_xor {w : Nat} (poly r c : BitVec w) : crcBit poly (r ^^^ c) =
    (if r.msb = c.msb then r <<< 1 else (r <<< 1) ^^^ poly) ^^^ (c <<< 1) := by
  simp only [crcBit, BitVec.msb_xor, BitVec.shiftLeft_xor_distrib]
  cases r.msb <;> cases c.msb <;> simp [BitVec.xor_comm] <;>
    rw [← BitVec.xor_assoc, BitVec.xor_comm]

theorem crcBits_succ {w : Nat} (poly : BitVec w) (n : Nat) (r : BitVec w) :
    crcBits poly (n + 1) r = crcBits poly n (crcBit poly r) := by
  rw [crcBits, forced_eq]

theorem crcOver_cons {w : Nat} (poly : BitVec w) (enter : BitVec w → Byte → BitVec w) (b : Byte) (l : List Byte)
    (r : BitVec w) : crcOver poly enter (b :: l) r = crcOver poly enter l (crcBits poly 8 (enter r b)) := by
  rw [crcOver, forced_eq]

/-! ### Bytes and halves -/

/-- The two bytes of a half, most significant first, are that half. -/
theorem half_of_bytes (h : Half) : (h.extractLsb' 8 8 ++ h.extractLsb' 0 8 : BitVec 16) = h := by
  apply BitVec.eq_of_getLsbD_eq
  intro i hi
  rw [BitVec.getLsbD_append]
  simp only [BitVec.getLsbD_extractLsb']
  split
  · simp [*]
  · have : 8 + (i - 8) = i := by omega
    have hlt : i - 8 < 8 := by omega
    simp [this, hlt]

theorem linkCrc_length (feeder : Half) (l : List Byte) : (linkCrc feeder l).length = 2 := rfl

/-- A payload has at most seven bytes (11.3). -/
theorem bodyPayload_length (b : FrameBody) : (bodyPayload b).length ≤ 7 := by
  cases b with
  | beacon b => simp [bodyPayload, beaconPayload]
  | owned f => cases f <;> simp [bodyPayload, ownedPayload, be16]

/-- The kind byte names the kind and carries the fresh-start flag (R116). -/
theorem kindByte_read (k : FrameKind) (fresh : Bool) :
    kindOfCode ((kindByte k fresh).toNat % 16) = some k ∧ (kindByte k fresh).msb = fresh := by
  cases k <;> cases fresh <;> decide

/-! The codes of a field read back as the field. -/

theorem profileOfCode_code (x : Profile) : profileOfCode (byteOf (profileCode x)).toNat = some x := by
  cases x <;> decide
theorem seqStateOfCode_code (x : SeqState) : seqStateOfCode (byteOf (seqStateCode x)).toNat = some x := by
  cases x <;> decide
theorem positionOfCode_code (x : Position) : positionOfCode (byteOf (positionCode x)).toNat = some x := by
  cases x <;> decide
theorem causeOfCode_code (x : Cause) (h : x ≠ .none) : causeOfCode (byteOf (causeCode x)).toNat = some x := by
  cases x <;> first | exact absurd rfl h | decide
theorem directionOfCode_code (x : Direction) : directionOfCode (byteOf (directionCode x)).toNat = some x := by
  cases x <;> decide
theorem phaseOfCode_code (x : HuntPhase) : phaseOfCode (byteOf (phaseCode x)).toNat = some x := by
  cases x <;> decide

/-- The payload of a well-formed frame reads back as that frame. -/
theorem parseBody_bodyPayload (b : FrameBody) (h : b.wf = true) : parseBody (bodyKind b) (bodyPayload b) = some b := by
  cases b with
  | beacon b =>
    obtain ⟨d, e, st, p, m, ph, i⟩ := b
    simp [FrameBody.wf, BeaconInfo.wf] at h
    simp only [bodyKind, bodyPayload, beaconPayload, parseBody, parseBeacon]
    rw [toNat_byteOf i (by omega), profileOfCode_code, profileOfCode_code, seqStateOfCode_code, positionOfCode_code,
      phaseOfCode_code]
    simp [inRange, h]
    cases m <;> rfl
  | owned f =>
    cases f with
    | breakerFail op => cases op <;> rfl
    | trip t =>
      obtain ⟨c, n, f⟩ := t
      simp [FrameBody.wf, OwnedFrame.wf, TripInfo.wf] at h
      simp only [bodyKind, ownedKind, bodyPayload, ownedPayload, parseBody, parseTrip]
      rw [toNat_byteOf n (by omega), toNat_byteOf f (by omega)]
      simp [inRange, h]
      cases c <;> simp_all <;> rfl
    | restrain r =>
      obtain ⟨a, b, c, n⟩ := r
      simp [FrameBody.wf, OwnedFrame.wf, RestrainInfo.wf] at h
      simp only [bodyKind, ownedKind, bodyPayload, ownedPayload, parseBody, parseRestrain]
      rw [toNat_byteOf n (by omega)]
      simp [inRange, h]
      cases a <;> cases b <;> cases c <;> simp_all <;> rfl
    | release => rfl
    | state x =>
      obtain ⟨c, p, n⟩ := x
      simp [FrameBody.wf, OwnedFrame.wf, StateInfo.wf] at h
      simp only [bodyKind, ownedKind, bodyPayload, ownedPayload, parseBody, parseState]
      rw [toNat_byteOf n (by omega)]
      simp [inRange, h]
      cases c <;> simp_all [SeqState.announced] <;> cases p <;> rfl
    | huntCall n => rfl
    | huntReport r =>
      obtain ⟨⟨c, q⟩, m, d, o, i⟩ := r
      simp [FrameBody.wf, OwnedFrame.wf, ReportInfo.wf, Byte.isAddress] at h
      simp only [bodyKind, ownedKind, bodyPayload, ownedPayload, parseBody, parseReport, be16, parseRound,
        List.cons_append, List.nil_append]
      rw [toNat_byteOf (m / 256) (by omega), toNat_byteOf_mod m, Nat.div_add_mod' m 256]
      simp [inRange, h]
      cases d <;> cases o <;> cases i <;> rfl
    | huntVerdict r =>
      obtain ⟨c, q⟩ := r
      simp [FrameBody.wf, OwnedFrame.wf, Byte.isAddress] at h
      simp [bodyKind, ownedKind, bodyPayload, ownedPayload, parseBody, parseVerdict, parseRound, inRange, h]
      simp [verdictCode, byteOf]

/-- The bytes of a frame from its length byte on are taken apart into its fields (R119). -/
theorem splitFrame_bytes (feeder : Half) (source k sol : Byte) (payload : List Byte) (h : payload.length ≤ 10) :
    splitFrame ([byteOf (6 + payload.length), source, k, sol] ++ payload ++
        linkCrc feeder ([byteOf (6 + payload.length), source, k, sol] ++ payload)) =
      some { source := source, kindFlags := k, sol := sol, payload := payload,
             checked := [byteOf (6 + payload.length), source, k, sol] ++ payload,
             crc := linkCrc feeder ([byteOf (6 + payload.length), source, k, sol] ++ payload) } := by
  have h₂ : (byteOf (6 + payload.length)).toNat = 6 + payload.length := toNat_byteOf _ (by omega)
  simp [splitFrame, linkCrc_length, h₂]
  omega

end Sys2Proof.Machine
end

