-- ==== Sys2Proof/Laws/Demands.lean ====
section
/-! SUPPORT. The levels and demands of the model are those that the invariants write out: a proof over an invariant
rewrites with these and unfolds neither side. -/

namespace Sys2Proof.Safety

open Sys2Proof Sys2Proof.Machine

theorem profileCode_injective {p q : Profile} (h : profileCode p = profileCode q) : p = q := by
  cases p <;> cases q <;> first | rfl | exact absurd h (by decide)

theorem isLarger_iff (m p q : Profile) : IsLarger m p q ↔ m = profileMax p q := by
  cases m <;> cases p <;> cases q <;> decide

/-- What the fold over the table reaches, from a profile `p` on. -/
theorem tableDemand_spec (t : List Neighbour) (p : Profile) :
    let d := t.foldl (fun p e => if e.status = .lost then p else profileMax p e.ownDemand) p
    profileCode p ≤ profileCode d ∧ (∀ e ∈ t, e.status ≠ .lost → profileCode e.ownDemand ≤ profileCode d) ∧
      (d = p ∨ ∃ e ∈ t, e.status ≠ .lost ∧ d = e.ownDemand) := by
  induction t generalizing p with
  | nil => simp
  | cons a l ih =>
    simp only [List.foldl_cons]
    by_cases h : a.status = .lost
    · simpa [h] using ih p
    · obtain ⟨h1, h2, h3⟩ := ih (profileMax p a.ownDemand)
      obtain ⟨m1, m2, m3⟩ := (isLarger_iff _ p a.ownDemand).2 rfl
      simp only [h, if_false] at h1 h2 h3 ⊢
      refine ⟨Nat.le_trans m1 h1, ?_, ?_⟩
      · intro e he hl
        rcases List.mem_cons.1 he with rfl | he
        · exact Nat.le_trans m2 h1
        · exact h2 e he hl
      · rcases h3 with h3 | ⟨e, he, hl, h3⟩
        · rcases m3 with m3 | m3
          · exact Or.inl (h3.trans m3)
          · exact Or.inr ⟨a, by simp, h, h3.trans m3⟩
        · exact Or.inr ⟨e, by simp [he], hl, h3⟩

theorem isPeerDemand_peerDemand (s : State) : IsPeerDemand (peerDemand s) s := by
  obtain ⟨-, h2, h3⟩ := tableDemand_spec s.link.table .ordinary
  constructor <;> intro h
  · have hp : peerDemand s = tableDemand s.link.table := by simp [peerDemand, State.followPeers, h]
    rw [hp]; exact ⟨h2, h3⟩
  · simp [peerDemand, State.followPeers, h]

/-- R102 determines the peer demand. -/
theorem isPeerDemand_unique {d d' : Profile} {s : State} (h : IsPeerDemand d s) (h' : IsPeerDemand d' s) : d = d' := by
  have le : ∀ {x y : Profile}, IsPeerDemand x s → IsPeerDemand y s → profileCode x ≤ profileCode y := by
    intro x y hx hy
    by_cases f : s.image.followPeers = 1
    · rcases (hx.1 f).2 with rfl | ⟨e, he, hl, rfl⟩
      · exact Nat.zero_le _
      · exact (hy.1 f).1 e he hl
    · rw [hx.2 f]; exact Nat.zero_le _
  exact profileCode_injective (Nat.le_antisymm (le h h') (le h' h))

theorem isPeerDemand_iff (d : Profile) (s : State) : IsPeerDemand d s ↔ d = peerDemand s :=
  ⟨fun h => isPeerDemand_unique h (isPeerDemand_peerDemand s), fun h => h ▸ isPeerDemand_peerDemand s⟩

theorem enabledQueued_iff (mask : Nat) (l : List Notice) : EnabledQueued mask l ↔ attnLevel mask l = true := by
  simp [attnLevel]

theorem healthyInv_iff (s : State) : HealthyInv s ↔ s.fin.healthy = healthyLevel s := by
  have h : healthyLevel s = true ↔ s.isRun = true ∧ s.meas.status = .fresh ∧ s.sequencer.st ≠ .failed := by
    simp [healthyLevel, and_assoc]
  rw [HealthyInv, ← h, ← Bool.eq_iff_iff]

end Sys2Proof.Safety
end

