-- ==== Sys2Proof/Laws/Link.lean ====
section
/-! SUPPORT. What the operations of LINK leave unchanged:
one frame lemma for each, so that no later proof unfolds it. -/

namespace Sys2Proof.Machine

@[simp] theorem onRecord_frame (a : Byte) (f : Restraint → Restraint) (s : State) :
    (onRecord a f s).now = s.now ∧ (onRecord a f s).resetHeld = s.resetHeld ∧ (onRecord a f s).meas = s.meas ∧
    (onRecord a f s).elem = s.elem ∧ (onRecord a f s).fin = s.fin ∧ (onRecord a f s).sequencer = s.sequencer ∧
    (onRecord a f s).blk = s.blk ∧ (onRecord a f s).prof = s.prof ∧ (onRecord a f s).link = s.link ∧
    (onRecord a f s).hunt = s.hunt ∧ (onRecord a f s).handovers = s.handovers ∧
    (onRecord a f s).pending = s.pending ∧ (onRecord a f s).freeCount = s.freeCount ∧
    (onRecord a f s).cport = s.cport ∧ (onRecord a f s).isRun = s.isRun ∧ (onRecord a f s).image = s.image ∧
    (onRecord a f s).address = s.address := by
  simp only [onRecord]
  simp [State.isRun, State.image, State.address]

@[simp] theorem setLost_frame (a : Byte) (b : Bool) (s : State) :
    (setLost a b s).now = s.now ∧ (setLost a b s).resetHeld = s.resetHeld ∧ (setLost a b s).meas = s.meas ∧
    (setLost a b s).elem = s.elem ∧ (setLost a b s).fin = s.fin ∧ (setLost a b s).sequencer = s.sequencer ∧
    (setLost a b s).blk = s.blk ∧ (setLost a b s).prof = s.prof ∧ (setLost a b s).link = s.link ∧
    (setLost a b s).hunt = s.hunt ∧ (setLost a b s).handovers = s.handovers ∧ (setLost a b s).pending = s.pending ∧
    (setLost a b s).freeCount = s.freeCount ∧ (setLost a b s).cport = s.cport ∧ (setLost a b s).isRun = s.isRun ∧
    (setLost a b s).image = s.image ∧ (setLost a b s).address = s.address := by
  simp only [setLost]
  simp [State.isRun, State.image, State.address]

@[simp] theorem queuePeerStatus_frame (o : NbrStatus) (e : Neighbour) (s : State) :
    (queuePeerStatus o e s).now = s.now ∧ (queuePeerStatus o e s).resetHeld = s.resetHeld ∧
    (queuePeerStatus o e s).meas = s.meas ∧ (queuePeerStatus o e s).elem = s.elem ∧
    (queuePeerStatus o e s).fin = s.fin ∧ (queuePeerStatus o e s).sequencer = s.sequencer ∧
    (queuePeerStatus o e s).blk = s.blk ∧ (queuePeerStatus o e s).prof = s.prof ∧
    (queuePeerStatus o e s).link = s.link ∧ (queuePeerStatus o e s).tripco = s.tripco ∧
    (queuePeerStatus o e s).hunt = s.hunt ∧ (queuePeerStatus o e s).handovers = s.handovers ∧
    (queuePeerStatus o e s).pending = s.pending ∧ (queuePeerStatus o e s).freeCount = s.freeCount ∧
    (queuePeerStatus o e s).cport.part = s.cport.part ∧ (queuePeerStatus o e s).cport.staging = s.cport.staging ∧
    (queuePeerStatus o e s).cport.locked = s.cport.locked ∧ (queuePeerStatus o e s).cport.trans = s.cport.trans ∧
    (queuePeerStatus o e s).cport.rxBuf = s.cport.rxBuf ∧ (queuePeerStatus o e s).cport.resp = s.cport.resp ∧
    (queuePeerStatus o e s).cport.respPos = s.cport.respPos ∧ (queuePeerStatus o e s).cport.pdo = s.cport.pdo ∧
    (queuePeerStatus o e s).isRun = s.isRun ∧ (queuePeerStatus o e s).image = s.image ∧
    (queuePeerStatus o e s).address = s.address := by
  simp only [queuePeerStatus]
  (repeat' split) <;> simp [State.isRun, State.image, State.address]

@[simp] theorem handLost_frame (o : NbrStatus) (e : Neighbour) (s : State) :
    (handLost o e s).now = s.now ∧ (handLost o e s).resetHeld = s.resetHeld ∧ (handLost o e s).meas = s.meas ∧
    (handLost o e s).elem = s.elem ∧ (handLost o e s).fin = s.fin ∧ (handLost o e s).sequencer = s.sequencer ∧
    (handLost o e s).blk = s.blk ∧ (handLost o e s).prof = s.prof ∧ (handLost o e s).link = s.link ∧
    (handLost o e s).hunt = s.hunt ∧ (handLost o e s).handovers = s.handovers ∧
    (handLost o e s).pending = s.pending ∧ (handLost o e s).freeCount = s.freeCount ∧
    (handLost o e s).cport = s.cport ∧ (handLost o e s).isRun = s.isRun ∧ (handLost o e s).image = s.image ∧
    (handLost o e s).address = s.address := by
  simp only [handLost]
  (repeat' split) <;> simp [State.isRun, State.image, State.address]

@[simp] theorem changeStatus_frame (o : NbrStatus) (e : Neighbour) (s : State) :
    (changeStatus o e s).now = s.now ∧ (changeStatus o e s).resetHeld = s.resetHeld ∧
    (changeStatus o e s).meas = s.meas ∧ (changeStatus o e s).elem = s.elem ∧
    (changeStatus o e s).fin.position = s.fin.position ∧ (changeStatus o e s).fin.fieldDemand = s.fin.fieldDemand ∧
    (changeStatus o e s).fin.discrepancy = s.fin.discrepancy ∧ (changeStatus o e s).fin.discAt = s.fin.discAt ∧
    (changeStatus o e s).fin.nextPeriodAt = s.fin.nextPeriodAt ∧ (changeStatus o e s).fin.sense = s.fin.sense ∧
    (changeStatus o e s).blk = s.blk ∧ (changeStatus o e s).hunt = s.hunt ∧
    (changeStatus o e s).pending = s.pending ∧ (changeStatus o e s).cport.part = s.cport.part ∧
    (changeStatus o e s).cport.staging = s.cport.staging ∧ (changeStatus o e s).cport.locked = s.cport.locked ∧
    (changeStatus o e s).cport.trans = s.cport.trans ∧ (changeStatus o e s).cport.rxBuf = s.cport.rxBuf ∧
    (changeStatus o e s).cport.resp = s.cport.resp ∧ (changeStatus o e s).cport.respPos = s.cport.respPos ∧
    (changeStatus o e s).cport.pdo = s.cport.pdo ∧ (changeStatus o e s).isRun = s.isRun ∧
    (changeStatus o e s).image = s.image ∧ (changeStatus o e s).address = s.address := by
  simp only [changeStatus]
  simp [State.isRun, State.image, State.address]

@[simp] theorem dispatchFrame_frame (a : Byte) (b : FrameBody) (s : State) :
    (dispatchFrame a b s).now = s.now ∧ (dispatchFrame a b s).resetHeld = s.resetHeld ∧
    (dispatchFrame a b s).meas = s.meas ∧ (dispatchFrame a b s).elem = s.elem ∧ (dispatchFrame a b s).fin = s.fin ∧
    (dispatchFrame a b s).sequencer = s.sequencer ∧ (dispatchFrame a b s).blk = s.blk ∧
    (dispatchFrame a b s).prof = s.prof ∧ (dispatchFrame a b s).link = s.link ∧
    (dispatchFrame a b s).tripco = s.tripco ∧ (dispatchFrame a b s).hunt = s.hunt ∧
    (dispatchFrame a b s).pending = s.pending ∧ (dispatchFrame a b s).freeCount = s.freeCount ∧
    (dispatchFrame a b s).cport = s.cport ∧ (dispatchFrame a b s).isRun = s.isRun ∧
    (dispatchFrame a b s).image = s.image ∧ (dispatchFrame a b s).address = s.address := by
  simp only [dispatchFrame]
  (repeat' split) <;> simp [State.isRun, State.image, State.address]

@[simp] theorem ensureNeighbour_frame (a : Byte) (s : State) :
    (ensureNeighbour a s).now = s.now ∧ (ensureNeighbour a s).resetHeld = s.resetHeld ∧
    (ensureNeighbour a s).meas = s.meas ∧ (ensureNeighbour a s).elem = s.elem ∧ (ensureNeighbour a s).fin = s.fin ∧
    (ensureNeighbour a s).sequencer = s.sequencer ∧ (ensureNeighbour a s).blk = s.blk ∧
    (ensureNeighbour a s).prof = s.prof ∧ (ensureNeighbour a s).tripco = s.tripco ∧
    (ensureNeighbour a s).hunt = s.hunt ∧ (ensureNeighbour a s).handovers = s.handovers ∧
    (ensureNeighbour a s).pending = s.pending ∧ (ensureNeighbour a s).freeCount = s.freeCount ∧
    (ensureNeighbour a s).cport = s.cport ∧ (ensureNeighbour a s).isRun = s.isRun ∧
    (ensureNeighbour a s).image = s.image ∧ (ensureNeighbour a s).address = s.address := by
  simp only [ensureNeighbour]
  (repeat' split) <;> simp [State.isRun, State.image, State.address]

@[simp] theorem acceptFrame_frame (f : RawFrame) (b : FrameBody) (s : State) :
    (acceptFrame f b s).now = s.now ∧ (acceptFrame f b s).resetHeld = s.resetHeld ∧
    (acceptFrame f b s).meas = s.meas ∧ (acceptFrame f b s).elem = s.elem ∧
    (acceptFrame f b s).fin.position = s.fin.position ∧ (acceptFrame f b s).fin.fieldDemand = s.fin.fieldDemand ∧
    (acceptFrame f b s).fin.discrepancy = s.fin.discrepancy ∧ (acceptFrame f b s).fin.discAt = s.fin.discAt ∧
    (acceptFrame f b s).fin.nextPeriodAt = s.fin.nextPeriodAt ∧ (acceptFrame f b s).fin.sense = s.fin.sense ∧
    (acceptFrame f b s).blk = s.blk ∧ (acceptFrame f b s).hunt = s.hunt ∧ (acceptFrame f b s).pending = s.pending ∧
    (acceptFrame f b s).cport.part = s.cport.part ∧ (acceptFrame f b s).cport.staging = s.cport.staging ∧
    (acceptFrame f b s).cport.locked = s.cport.locked ∧ (acceptFrame f b s).cport.trans = s.cport.trans ∧
    (acceptFrame f b s).cport.rxBuf = s.cport.rxBuf ∧ (acceptFrame f b s).cport.resp = s.cport.resp ∧
    (acceptFrame f b s).cport.respPos = s.cport.respPos ∧ (acceptFrame f b s).cport.pdo = s.cport.pdo ∧
    (acceptFrame f b s).isRun = s.isRun ∧ (acceptFrame f b s).image = s.image ∧
    (acceptFrame f b s).address = s.address := by
  simp only [acceptFrame]
  (repeat' split) <;> simp [State.isRun, State.image, State.address]

@[simp] theorem takeOwnAddress_frame (f : RawFrame) (s : State) :
    (takeOwnAddress f s).now = s.now ∧ (takeOwnAddress f s).resetHeld = s.resetHeld ∧
    (takeOwnAddress f s).meas = s.meas ∧ (takeOwnAddress f s).elem = s.elem ∧ (takeOwnAddress f s).fin = s.fin ∧
    (takeOwnAddress f s).sequencer = s.sequencer ∧ (takeOwnAddress f s).blk = s.blk ∧
    (takeOwnAddress f s).prof = s.prof ∧ (takeOwnAddress f s).link = s.link ∧
    (takeOwnAddress f s).tripco = s.tripco ∧ (takeOwnAddress f s).hunt = s.hunt ∧
    (takeOwnAddress f s).handovers = s.handovers ∧ (takeOwnAddress f s).pending = s.pending ∧
    (takeOwnAddress f s).freeCount = s.freeCount ∧ (takeOwnAddress f s).cport.part = s.cport.part ∧
    (takeOwnAddress f s).cport.staging = s.cport.staging ∧ (takeOwnAddress f s).cport.locked = s.cport.locked ∧
    (takeOwnAddress f s).cport.trans = s.cport.trans ∧ (takeOwnAddress f s).cport.rxBuf = s.cport.rxBuf ∧
    (takeOwnAddress f s).cport.resp = s.cport.resp ∧ (takeOwnAddress f s).cport.respPos = s.cport.respPos ∧
    (takeOwnAddress f s).cport.pdo = s.cport.pdo ∧ (takeOwnAddress f s).isRun = s.isRun ∧
    (takeOwnAddress f s).image = s.image ∧ (takeOwnAddress f s).address = s.address := by
  simp only [takeOwnAddress]
  (repeat' split) <;> simp [State.isRun, State.image, State.address]

@[simp] theorem takeForeign_frame (f : RawFrame) (s : State) :
    (takeForeign f s).now = s.now ∧ (takeForeign f s).resetHeld = s.resetHeld ∧ (takeForeign f s).meas = s.meas ∧
    (takeForeign f s).elem = s.elem ∧ (takeForeign f s).fin.position = s.fin.position ∧
    (takeForeign f s).fin.fieldDemand = s.fin.fieldDemand ∧ (takeForeign f s).fin.discrepancy = s.fin.discrepancy ∧
    (takeForeign f s).fin.discAt = s.fin.discAt ∧ (takeForeign f s).fin.nextPeriodAt = s.fin.nextPeriodAt ∧
    (takeForeign f s).fin.sense = s.fin.sense ∧ (takeForeign f s).blk = s.blk ∧ (takeForeign f s).hunt = s.hunt ∧
    (takeForeign f s).pending = s.pending ∧ (takeForeign f s).cport.part = s.cport.part ∧
    (takeForeign f s).cport.staging = s.cport.staging ∧ (takeForeign f s).cport.locked = s.cport.locked ∧
    (takeForeign f s).cport.trans = s.cport.trans ∧ (takeForeign f s).cport.rxBuf = s.cport.rxBuf ∧
    (takeForeign f s).cport.resp = s.cport.resp ∧ (takeForeign f s).cport.respPos = s.cport.respPos ∧
    (takeForeign f s).cport.pdo = s.cport.pdo ∧ (takeForeign f s).isRun = s.isRun ∧
    (takeForeign f s).image = s.image ∧ (takeForeign f s).address = s.address := by
  simp only [takeForeign]
  (repeat' split) <;> simp [State.isRun, State.image, State.address]

@[simp] theorem checkFrame_frame (f : RawFrame) (s : State) :
    (checkFrame f s).now = s.now ∧ (checkFrame f s).resetHeld = s.resetHeld ∧ (checkFrame f s).meas = s.meas ∧
    (checkFrame f s).elem = s.elem ∧ (checkFrame f s).fin.position = s.fin.position ∧
    (checkFrame f s).fin.fieldDemand = s.fin.fieldDemand ∧ (checkFrame f s).fin.discrepancy = s.fin.discrepancy ∧
    (checkFrame f s).fin.discAt = s.fin.discAt ∧ (checkFrame f s).fin.nextPeriodAt = s.fin.nextPeriodAt ∧
    (checkFrame f s).fin.sense = s.fin.sense ∧ (checkFrame f s).blk = s.blk ∧ (checkFrame f s).hunt = s.hunt ∧
    (checkFrame f s).pending = s.pending ∧ (checkFrame f s).cport.part = s.cport.part ∧
    (checkFrame f s).cport.staging = s.cport.staging ∧ (checkFrame f s).cport.locked = s.cport.locked ∧
    (checkFrame f s).cport.trans = s.cport.trans ∧ (checkFrame f s).cport.rxBuf = s.cport.rxBuf ∧
    (checkFrame f s).cport.resp = s.cport.resp ∧ (checkFrame f s).cport.respPos = s.cport.respPos ∧
    (checkFrame f s).cport.pdo = s.cport.pdo ∧ (checkFrame f s).isRun = s.isRun ∧ (checkFrame f s).image = s.image ∧
    (checkFrame f s).address = s.address := by
  simp only [checkFrame]
  (repeat' split) <;> simp [State.isRun, State.image, State.address]

@[simp] theorem receiveFrame_frame (l : List Byte) (s : State) :
    (receiveFrame l s).now = s.now ∧ (receiveFrame l s).resetHeld = s.resetHeld ∧ (receiveFrame l s).meas = s.meas ∧
    (receiveFrame l s).elem = s.elem ∧ (receiveFrame l s).fin.position = s.fin.position ∧
    (receiveFrame l s).fin.fieldDemand = s.fin.fieldDemand ∧ (receiveFrame l s).fin.discrepancy = s.fin.discrepancy ∧
    (receiveFrame l s).fin.discAt = s.fin.discAt ∧ (receiveFrame l s).fin.nextPeriodAt = s.fin.nextPeriodAt ∧
    (receiveFrame l s).fin.sense = s.fin.sense ∧ (receiveFrame l s).blk = s.blk ∧ (receiveFrame l s).hunt = s.hunt ∧
    (receiveFrame l s).pending = s.pending ∧ (receiveFrame l s).cport.part = s.cport.part ∧
    (receiveFrame l s).cport.staging = s.cport.staging ∧ (receiveFrame l s).cport.locked = s.cport.locked ∧
    (receiveFrame l s).cport.trans = s.cport.trans ∧ (receiveFrame l s).cport.rxBuf = s.cport.rxBuf ∧
    (receiveFrame l s).cport.resp = s.cport.resp ∧ (receiveFrame l s).cport.respPos = s.cport.respPos ∧
    (receiveFrame l s).cport.pdo = s.cport.pdo ∧ (receiveFrame l s).isRun = s.isRun ∧
    (receiveFrame l s).image = s.image ∧ (receiveFrame l s).address = s.address := by
  simp only [receiveFrame]
  (repeat' split) <;> simp [State.isRun, State.image, State.address]

@[simp] theorem txEnter_frame (st : TxState) (d : Option Ms) (s : State) :
    (txEnter st d s).now = s.now ∧ (txEnter st d s).resetHeld = s.resetHeld ∧ (txEnter st d s).meas = s.meas ∧
    (txEnter st d s).elem = s.elem ∧ (txEnter st d s).fin = s.fin ∧ (txEnter st d s).sequencer = s.sequencer ∧
    (txEnter st d s).blk = s.blk ∧ (txEnter st d s).prof = s.prof ∧ (txEnter st d s).tripco = s.tripco ∧
    (txEnter st d s).hunt = s.hunt ∧ (txEnter st d s).handovers = s.handovers ∧
    (txEnter st d s).pending = s.pending ∧ (txEnter st d s).freeCount = s.freeCount ∧
    (txEnter st d s).cport = s.cport ∧ (txEnter st d s).isRun = s.isRun ∧ (txEnter st d s).image = s.image ∧
    (txEnter st d s).address = s.address := by
  simp only [txEnter]
  simp [State.isRun, State.image, State.address]

@[simp] theorem enterDefer_frame (s : State) :
    (enterDefer s).now = s.now ∧ (enterDefer s).resetHeld = s.resetHeld ∧ (enterDefer s).meas = s.meas ∧
    (enterDefer s).elem = s.elem ∧ (enterDefer s).fin = s.fin ∧ (enterDefer s).sequencer = s.sequencer ∧
    (enterDefer s).blk = s.blk ∧ (enterDefer s).prof = s.prof ∧ (enterDefer s).tripco = s.tripco ∧
    (enterDefer s).hunt = s.hunt ∧ (enterDefer s).handovers = s.handovers ∧ (enterDefer s).pending = s.pending ∧
    (enterDefer s).freeCount = s.freeCount ∧ (enterDefer s).cport = s.cport ∧ (enterDefer s).isRun = s.isRun ∧
    (enterDefer s).image = s.image ∧ (enterDefer s).address = s.address := by
  simp only [enterDefer]
  (repeat' split) <;> simp [State.isRun, State.image, State.address]

@[simp] theorem enterSending_frame (s : State) :
    (enterSending s).now = s.now ∧ (enterSending s).resetHeld = s.resetHeld ∧ (enterSending s).meas = s.meas ∧
    (enterSending s).elem = s.elem ∧ (enterSending s).fin = s.fin ∧ (enterSending s).sequencer = s.sequencer ∧
    (enterSending s).blk = s.blk ∧ (enterSending s).prof = s.prof ∧ (enterSending s).tripco = s.tripco ∧
    (enterSending s).hunt = s.hunt ∧ (enterSending s).handovers = s.handovers ∧
    (enterSending s).pending = s.pending ∧ (enterSending s).freeCount = s.freeCount ∧
    (enterSending s).cport = s.cport ∧ (enterSending s).isRun = s.isRun ∧ (enterSending s).image = s.image ∧
    (enterSending s).address = s.address := by
  simp only [enterSending]
  simp [State.isRun, State.image, State.address]

@[simp] theorem keyUp_frame (p : Placement) (r : Slots) (s : State) :
    (keyUp p r s).now = s.now ∧ (keyUp p r s).resetHeld = s.resetHeld ∧ (keyUp p r s).meas = s.meas ∧
    (keyUp p r s).elem = s.elem ∧ (keyUp p r s).fin = s.fin ∧ (keyUp p r s).sequencer = s.sequencer ∧
    (keyUp p r s).blk = s.blk ∧ (keyUp p r s).prof = s.prof ∧ (keyUp p r s).tripco = s.tripco ∧
    (keyUp p r s).hunt = s.hunt ∧ (keyUp p r s).handovers = s.handovers ∧ (keyUp p r s).pending = s.pending ∧
    (keyUp p r s).freeCount = s.freeCount ∧ (keyUp p r s).cport = s.cport ∧ (keyUp p r s).isRun = s.isRun ∧
    (keyUp p r s).image = s.image ∧ (keyUp p r s).address = s.address := by
  simp only [keyUp]
  (repeat' split) <;> simp [State.isRun, State.image, State.address]

@[simp] theorem endBackoff_frame (s : State) :
    (endBackoff s).now = s.now ∧ (endBackoff s).resetHeld = s.resetHeld ∧ (endBackoff s).meas = s.meas ∧
    (endBackoff s).elem = s.elem ∧ (endBackoff s).fin = s.fin ∧ (endBackoff s).sequencer = s.sequencer ∧
    (endBackoff s).blk = s.blk ∧ (endBackoff s).prof = s.prof ∧ (endBackoff s).tripco = s.tripco ∧
    (endBackoff s).hunt = s.hunt ∧ (endBackoff s).handovers = s.handovers ∧ (endBackoff s).pending = s.pending ∧
    (endBackoff s).freeCount = s.freeCount ∧ (endBackoff s).cport = s.cport ∧ (endBackoff s).isRun = s.isRun ∧
    (endBackoff s).image = s.image ∧ (endBackoff s).address = s.address := by
  simp only [endBackoff]
  (repeat' split) <;> simp [State.isRun, State.image, State.address]

@[simp] theorem enterBackoff_frame (s : State) :
    (enterBackoff s).now = s.now ∧ (enterBackoff s).resetHeld = s.resetHeld ∧ (enterBackoff s).meas = s.meas ∧
    (enterBackoff s).elem = s.elem ∧ (enterBackoff s).fin = s.fin ∧ (enterBackoff s).sequencer = s.sequencer ∧
    (enterBackoff s).blk = s.blk ∧ (enterBackoff s).prof = s.prof ∧ (enterBackoff s).tripco = s.tripco ∧
    (enterBackoff s).hunt = s.hunt ∧ (enterBackoff s).handovers = s.handovers ∧
    (enterBackoff s).pending = s.pending ∧ (enterBackoff s).freeCount = s.freeCount ∧
    (enterBackoff s).cport = s.cport ∧ (enterBackoff s).isRun = s.isRun ∧ (enterBackoff s).image = s.image ∧
    (enterBackoff s).address = s.address := by
  simp only [enterBackoff]
  (repeat' split) <;> simp [State.isRun, State.image, State.address]

@[simp] theorem finishSending_frame (s : State) :
    (finishSending s).now = s.now ∧ (finishSending s).resetHeld = s.resetHeld ∧ (finishSending s).meas = s.meas ∧
    (finishSending s).elem = s.elem ∧ (finishSending s).fin = s.fin ∧ (finishSending s).sequencer = s.sequencer ∧
    (finishSending s).blk = s.blk ∧ (finishSending s).prof = s.prof ∧ (finishSending s).tripco = s.tripco ∧
    (finishSending s).hunt = s.hunt ∧ (finishSending s).handovers = s.handovers ∧
    (finishSending s).pending = s.pending ∧ (finishSending s).freeCount = s.freeCount ∧
    (finishSending s).cport = s.cport ∧ (finishSending s).isRun = s.isRun ∧ (finishSending s).image = s.image ∧
    (finishSending s).address = s.address := by
  simp only [finishSending]
  simp [State.isRun, State.image, State.address]

@[simp] theorem keyDown_frame (s : State) :
    (keyDown s).now = s.now ∧ (keyDown s).resetHeld = s.resetHeld ∧ (keyDown s).meas = s.meas ∧
    (keyDown s).elem = s.elem ∧ (keyDown s).fin = s.fin ∧ (keyDown s).sequencer = s.sequencer ∧
    (keyDown s).blk = s.blk ∧ (keyDown s).prof = s.prof ∧ (keyDown s).tripco = s.tripco ∧ (keyDown s).hunt = s.hunt ∧
    (keyDown s).handovers = s.handovers ∧ (keyDown s).pending = s.pending ∧ (keyDown s).freeCount = s.freeCount ∧
    (keyDown s).cport = s.cport ∧ (keyDown s).isRun = s.isRun ∧ (keyDown s).image = s.image ∧
    (keyDown s).address = s.address := by
  simp only [keyDown]
  (repeat' split) <;> simp [State.isRun, State.image, State.address]

@[simp] theorem startTransmitter_frame (s : State) :
    (startTransmitter s).now = s.now ∧ (startTransmitter s).resetHeld = s.resetHeld ∧
    (startTransmitter s).meas = s.meas ∧ (startTransmitter s).elem = s.elem ∧ (startTransmitter s).fin = s.fin ∧
    (startTransmitter s).sequencer = s.sequencer ∧ (startTransmitter s).blk = s.blk ∧
    (startTransmitter s).prof = s.prof ∧ (startTransmitter s).tripco = s.tripco ∧
    (startTransmitter s).hunt = s.hunt ∧ (startTransmitter s).handovers = s.handovers ∧
    (startTransmitter s).pending = s.pending ∧ (startTransmitter s).freeCount = s.freeCount ∧
    (startTransmitter s).cport = s.cport ∧ (startTransmitter s).isRun = s.isRun ∧
    (startTransmitter s).image = s.image ∧ (startTransmitter s).address = s.address := by
  simp only [startTransmitter]
  (repeat' split) <;> simp [State.isRun, State.image, State.address]

@[simp] theorem placeBeacon_frame (s : State) :
    (placeBeacon s).now = s.now ∧ (placeBeacon s).resetHeld = s.resetHeld ∧ (placeBeacon s).meas = s.meas ∧
    (placeBeacon s).elem = s.elem ∧ (placeBeacon s).fin = s.fin ∧ (placeBeacon s).sequencer = s.sequencer ∧
    (placeBeacon s).blk = s.blk ∧ (placeBeacon s).prof = s.prof ∧ (placeBeacon s).tripco = s.tripco ∧
    (placeBeacon s).hunt = s.hunt ∧ (placeBeacon s).handovers = s.handovers ∧ (placeBeacon s).pending = s.pending ∧
    (placeBeacon s).freeCount = s.freeCount ∧ (placeBeacon s).cport = s.cport ∧ (placeBeacon s).isRun = s.isRun ∧
    (placeBeacon s).image = s.image ∧ (placeBeacon s).address = s.address := by
  simp only [placeBeacon]
  simp [State.isRun, State.image, State.address]

@[simp] theorem putFrame_frame (f : OwnedFrame) (s : State) :
    (putFrame f s).now = s.now ∧ (putFrame f s).resetHeld = s.resetHeld ∧ (putFrame f s).meas = s.meas ∧
    (putFrame f s).elem = s.elem ∧ (putFrame f s).fin = s.fin ∧ (putFrame f s).sequencer = s.sequencer ∧
    (putFrame f s).blk = s.blk ∧ (putFrame f s).prof = s.prof ∧ (putFrame f s).tripco = s.tripco ∧
    (putFrame f s).hunt = s.hunt ∧ (putFrame f s).handovers = s.handovers ∧ (putFrame f s).pending = s.pending ∧
    (putFrame f s).freeCount = s.freeCount ∧ (putFrame f s).cport = s.cport ∧ (putFrame f s).isRun = s.isRun ∧
    (putFrame f s).image = s.image ∧ (putFrame f s).address = s.address := by
  simp only [putFrame]
  simp [State.isRun, State.image, State.address]

@[simp] theorem takePlacement_frame (p : Placement) (s : State) :
    (takePlacement p s).now = s.now ∧ (takePlacement p s).resetHeld = s.resetHeld ∧
    (takePlacement p s).meas = s.meas ∧ (takePlacement p s).elem = s.elem ∧ (takePlacement p s).fin = s.fin ∧
    (takePlacement p s).sequencer = s.sequencer ∧ (takePlacement p s).blk = s.blk ∧
    (takePlacement p s).prof = s.prof ∧ (takePlacement p s).tripco = s.tripco ∧ (takePlacement p s).hunt = s.hunt ∧
    (takePlacement p s).handovers = s.handovers ∧ (takePlacement p s).pending = s.pending ∧
    (takePlacement p s).freeCount = s.freeCount ∧ (takePlacement p s).cport = s.cport ∧
    (takePlacement p s).isRun = s.isRun ∧ (takePlacement p s).image = s.image ∧
    (takePlacement p s).address = s.address := by
  simp only [takePlacement]
  (repeat' split) <;> simp [State.isRun, State.image, State.address]

@[simp] theorem takeCarrier_frame (b : Bool) (s : State) :
    (takeCarrier b s).now = s.now ∧ (takeCarrier b s).resetHeld = s.resetHeld ∧ (takeCarrier b s).meas = s.meas ∧
    (takeCarrier b s).elem = s.elem ∧ (takeCarrier b s).fin = s.fin ∧ (takeCarrier b s).sequencer = s.sequencer ∧
    (takeCarrier b s).blk = s.blk ∧ (takeCarrier b s).prof = s.prof ∧ (takeCarrier b s).tripco = s.tripco ∧
    (takeCarrier b s).hunt = s.hunt ∧ (takeCarrier b s).handovers = s.handovers ∧
    (takeCarrier b s).pending = s.pending ∧ (takeCarrier b s).freeCount = s.freeCount ∧
    (takeCarrier b s).cport = s.cport ∧ (takeCarrier b s).isRun = s.isRun ∧ (takeCarrier b s).image = s.image ∧
    (takeCarrier b s).address = s.address := by
  simp only [takeCarrier]
  (repeat' split) <;> simp [State.isRun, State.image, State.address]

end Sys2Proof.Machine
end

