-- ==== Sys2Proof/Laws/State.lean ====
section
/-! SUPPORT. The updates of the whole state that have a name: each field after each update. -/

namespace Sys2Proof.Machine

/-! ### The queue of commands replaced -/

@[simp] theorem withPending_now (l : List Instr) (s : State) : (s.withPending l).now = s.now := rfl

@[simp] theorem withPending_resetHeld (l : List Instr) (s : State) : (s.withPending l).resetHeld = s.resetHeld := rfl

@[simp] theorem withPending_meas (l : List Instr) (s : State) : (s.withPending l).meas = s.meas := rfl

@[simp] theorem withPending_elem (l : List Instr) (s : State) : (s.withPending l).elem = s.elem := rfl

@[simp] theorem withPending_fin (l : List Instr) (s : State) : (s.withPending l).fin = s.fin := rfl

@[simp] theorem withPending_sequencer (l : List Instr) (s : State) : (s.withPending l).sequencer = s.sequencer := rfl

@[simp] theorem withPending_blk (l : List Instr) (s : State) : (s.withPending l).blk = s.blk := rfl

@[simp] theorem withPending_prof (l : List Instr) (s : State) : (s.withPending l).prof = s.prof := rfl

@[simp] theorem withPending_link (l : List Instr) (s : State) : (s.withPending l).link = s.link := rfl

@[simp] theorem withPending_tripco (l : List Instr) (s : State) : (s.withPending l).tripco = s.tripco := rfl

@[simp] theorem withPending_hunt (l : List Instr) (s : State) : (s.withPending l).hunt = s.hunt := rfl

@[simp] theorem withPending_cport (l : List Instr) (s : State) : (s.withPending l).cport = s.cport := rfl

@[simp] theorem withPending_handovers (l : List Instr) (s : State) : (s.withPending l).handovers = s.handovers := rfl

@[simp] theorem withPending_pending (l : List Instr) (s : State) : (s.withPending l).pending = l := rfl

@[simp] theorem withPending_freeCount (l : List Instr) (s : State) : (s.withPending l).freeCount = s.freeCount := rfl

/-! ### The count at an instant -/

theorem arriveAt_now (t : Ms) (s : State) : (s.arriveAt t).now = if reached s.now t then s.now else t := rfl

@[simp] theorem arriveAt_resetHeld (t : Ms) (s : State) : (s.arriveAt t).resetHeld = s.resetHeld := rfl

@[simp] theorem arriveAt_meas (t : Ms) (s : State) : (s.arriveAt t).meas = s.meas := rfl

@[simp] theorem arriveAt_elem (t : Ms) (s : State) : (s.arriveAt t).elem = s.elem := rfl

@[simp] theorem arriveAt_fin (t : Ms) (s : State) : (s.arriveAt t).fin = s.fin := rfl

@[simp] theorem arriveAt_sequencer (t : Ms) (s : State) : (s.arriveAt t).sequencer = s.sequencer := rfl

@[simp] theorem arriveAt_blk (t : Ms) (s : State) : (s.arriveAt t).blk = s.blk := rfl

@[simp] theorem arriveAt_prof (t : Ms) (s : State) : (s.arriveAt t).prof = s.prof := rfl

@[simp] theorem arriveAt_link (t : Ms) (s : State) : (s.arriveAt t).link = s.link := rfl

@[simp] theorem arriveAt_tripco (t : Ms) (s : State) : (s.arriveAt t).tripco = s.tripco := rfl

@[simp] theorem arriveAt_hunt (t : Ms) (s : State) : (s.arriveAt t).hunt = s.hunt := rfl

@[simp] theorem arriveAt_cport (t : Ms) (s : State) : (s.arriveAt t).cport = s.cport := rfl

@[simp] theorem arriveAt_handovers (t : Ms) (s : State) : (s.arriveAt t).handovers = s.handovers := rfl

@[simp] theorem arriveAt_pending (t : Ms) (s : State) : (s.arriveAt t).pending = s.pending := rfl

@[simp] theorem arriveAt_freeCount (t : Ms) (s : State) : (s.arriveAt t).freeCount = s.freeCount := rfl

@[simp] theorem arriveAt_isRun (t : Ms) (s : State) : (s.arriveAt t).isRun = s.isRun := rfl

@[simp] theorem arriveAt_image (t : Ms) (s : State) : (s.arriveAt t).image = s.image := rfl

@[simp] theorem arriveAt_address (t : Ms) (s : State) : (s.arriveAt t).address = s.address := rfl

@[simp] theorem arriveAt_input (t : Ms) (s : State) (n : Nat) : (s.arriveAt t).input n = s.input n := rfl

/-! ### Events handed over -/

@[simp] theorem handOver_handovers (e : Instr) (s : State) : (handOver e s).handovers = s.handovers ++ [e] := rfl

@[simp] theorem takeHandOver_handovers (e : Instr) (s : State) :
    (takeHandOver e s).handovers = s.handovers.erase e := rfl

@[simp] theorem placeFrame_handovers (f : OwnedFrame) (s : State) :
    (placeFrame f s).handovers = s.handovers ++ [.framePlacement (.owned f)] := rfl

@[simp] theorem askBeacon_handovers (s : State) :
    (askBeacon s).handovers = s.handovers ++ [.framePlacement .beaconRequest] := rfl

@[simp] theorem advanceFree_freeCount (s : State) : (advanceFree s).freeCount = s.freeCount + 1 := rfl

/-! ### The response -/

@[simp] theorem enterResponse_now (b : Byte) (r : Result) (l : List Byte) (s : State) :
    (enterResponse b r l s).now = s.now := rfl

@[simp] theorem enterResponse_resetHeld (b : Byte) (r : Result) (l : List Byte) (s : State) :
    (enterResponse b r l s).resetHeld = s.resetHeld := rfl

@[simp] theorem enterResponse_meas (b : Byte) (r : Result) (l : List Byte) (s : State) :
    (enterResponse b r l s).meas = s.meas := rfl

@[simp] theorem enterResponse_elem (b : Byte) (r : Result) (l : List Byte) (s : State) :
    (enterResponse b r l s).elem = s.elem := rfl

@[simp] theorem enterResponse_fin (b : Byte) (r : Result) (l : List Byte) (s : State) :
    (enterResponse b r l s).fin = s.fin := rfl

@[simp] theorem enterResponse_sequencer (b : Byte) (r : Result) (l : List Byte) (s : State) :
    (enterResponse b r l s).sequencer = s.sequencer := rfl

@[simp] theorem enterResponse_blk (b : Byte) (r : Result) (l : List Byte) (s : State) :
    (enterResponse b r l s).blk = s.blk := rfl

@[simp] theorem enterResponse_prof (b : Byte) (r : Result) (l : List Byte) (s : State) :
    (enterResponse b r l s).prof = s.prof := rfl

@[simp] theorem enterResponse_link (b : Byte) (r : Result) (l : List Byte) (s : State) :
    (enterResponse b r l s).link = s.link := rfl

@[simp] theorem enterResponse_tripco (b : Byte) (r : Result) (l : List Byte) (s : State) :
    (enterResponse b r l s).tripco = s.tripco := rfl

@[simp] theorem enterResponse_hunt (b : Byte) (r : Result) (l : List Byte) (s : State) :
    (enterResponse b r l s).hunt = s.hunt := rfl

@[simp] theorem enterResponse_handovers (b : Byte) (r : Result) (l : List Byte) (s : State) :
    (enterResponse b r l s).handovers = s.handovers := rfl

@[simp] theorem enterResponse_pending (b : Byte) (r : Result) (l : List Byte) (s : State) :
    (enterResponse b r l s).pending = s.pending := rfl

@[simp] theorem enterResponse_freeCount (b : Byte) (r : Result) (l : List Byte) (s : State) :
    (enterResponse b r l s).freeCount = s.freeCount := rfl

@[simp] theorem enterResponse_part (b : Byte) (r : Result) (l : List Byte) (s : State) :
    (enterResponse b r l s).cport.part = s.cport.part := rfl

@[simp] theorem enterResponse_staging (b : Byte) (r : Result) (l : List Byte) (s : State) :
    (enterResponse b r l s).cport.staging = s.cport.staging := rfl

@[simp] theorem enterResponse_locked (b : Byte) (r : Result) (l : List Byte) (s : State) :
    (enterResponse b r l s).cport.locked = s.cport.locked := rfl

@[simp] theorem enterResponse_notices (b : Byte) (r : Result) (l : List Byte) (s : State) :
    (enterResponse b r l s).cport.notices = s.cport.notices := rfl

@[simp] theorem enterResponse_overflow (b : Byte) (r : Result) (l : List Byte) (s : State) :
    (enterResponse b r l s).cport.overflow = s.cport.overflow := rfl

@[simp] theorem enterResponse_attn (b : Byte) (r : Result) (l : List Byte) (s : State) :
    (enterResponse b r l s).cport.attn = s.cport.attn := rfl

@[simp] theorem enterResponse_rxBuf (b : Byte) (r : Result) (l : List Byte) (s : State) :
    (enterResponse b r l s).cport.rxBuf = s.cport.rxBuf := rfl

@[simp] theorem enterResponse_isRun (b : Byte) (r : Result) (l : List Byte) (s : State) :
    (enterResponse b r l s).isRun = s.isRun := rfl

@[simp] theorem enterResponse_image (b : Byte) (r : Result) (l : List Byte) (s : State) :
    (enterResponse b r l s).image = s.image := rfl

@[simp] theorem enterResponse_address (b : Byte) (r : Result) (l : List Byte) (s : State) :
    (enterResponse b r l s).address = s.address := rfl

@[simp] theorem enterResponse_input (b : Byte) (r : Result) (l : List Byte) (s : State) (n : Nat) :
    (enterResponse b r l s).input n = s.input n := rfl

/-! ### The response of a command (R170) -/

/-- A command whose effects are all its own is answered with the status byte of the state it leaves. -/
theorem respond_reply (r : Result) (s : State) : respond (reply r s) = enterResponse (statusByte s) r [] s := by
  simp [respond, reply]

theorem respond_replyWith (r : Result) (l : List Byte) (s : State) :
    respond (replyWith r l s) = enterResponse (statusByte s) r l s := by
  simp [respond, replyWith]

/-- Every answer is the state after the command in RESPONSE, with one status byte or another. -/
theorem respond_eq (r : Reply) : ∃ (b : Byte) (n : Nat),
    respond r = { enterResponse b r.result r.payload r.after with freeCount := n } := by
  unfold respond
  split
  · exact ⟨_, r.after.freeCount, rfl⟩
  · split
    · exact ⟨_, r.after.freeCount + 1, rfl⟩
    · exact ⟨_, r.after.freeCount + 1, rfl⟩

@[simp] theorem statusByte_enterResponse (b : Byte) (r : Result) (l : List Byte) (s : State) :
    statusByte (enterResponse b r l s) = statusByte s := rfl

end Sys2Proof.Machine
end

