-- ==== Sys2Proof/Laws/Port.lean ====
section
/-! SUPPORT. The command port: which payloads each reader takes, when a command passes its tests, and what the CRC byte of
a whole command does, and what a response changes. -/

namespace Sys2Proof.Machine

theorem parse0_isSome (c : HostCommand) (l : List Byte) : (parse0 c l).isSome = true ↔ l.length = 0 := by
  unfold parse0; split <;> simp_all

theorem parse1_isSome (f : Byte → HostCommand) (l : List Byte) : (parse1 f l).isSome = true ↔ l.length = 1 := by
  rcases l with _ | ⟨a, _ | ⟨b, l⟩⟩ <;> simp [parse1]

theorem parse2_isSome (f : Byte → Byte → HostCommand) (l : List Byte) :
    (parse2 f l).isSome = true ↔ l.length = 2 := by
  rcases l with _ | ⟨a, _ | ⟨b, _ | ⟨c, l⟩⟩⟩ <;> simp [parse2]

theorem parse3_isSome (f : Byte → Byte → Byte → HostCommand) (l : List Byte) :
    (parse3 f l).isSome = true ↔ l.length = 3 := by
  rcases l with _ | ⟨a, _ | ⟨b, _ | ⟨c, _ | ⟨d, l⟩⟩⟩⟩ <;> simp [parse3]

theorem parse4_isSome (f : Byte → Byte → Byte → Byte → HostCommand) (l : List Byte) :
    (parse4 f l).isSome = true ↔ l.length = 4 := by
  rcases l with _ | ⟨a, _ | ⟨b, _ | ⟨c, _ | ⟨d, _ | ⟨e, l⟩⟩⟩⟩⟩ <;> simp [parse4]

theorem parseWatch_isSome (l : List Byte) : (parseWatch l).isSome = true ↔ l.length = 13 := by
  unfold parseWatch; split
  · simp
  · rename_i no
    refine ⟨fun h => by simp at h, fun h => ?_⟩
    match l, h with
    | [a, b, c, d, e, f, g, h, i, j, k, l, m], _ => exact absurd rfl (no a b c d e f g h i j k l m)

theorem parseLoad_isSome (l : List Byte) : (parseLoad l).isSome = true ↔ 4 ≤ l.length ∧ l.length ≤ 19 := by
  unfold parseLoad; split
  · split <;> simp <;> omega
  · rename_i no
    rcases l with _ | ⟨a, _ | ⟨b, _ | ⟨c, l⟩⟩⟩ <;> simp
    exact absurd rfl (no a b c l)

/-- A command with a known code, a payload that its reader takes, and the CRC of its bytes passes the tests (R170). -/
theorem judge_passed (code length crc : Byte) (payload : List Byte) (c : HostCommand)
    (hcrc : crc = crc8 0xFF ([code, length] ++ payload)) (hlen : payload.length = length.toNat)
    (hcode : code.toNat ∈ commandCodes) (hparse : parseCommand code.toNat payload = some c) :
    judge code length payload crc = .passed c := by
  simp [judge, hcode, hparse, hlen] at hcrc ⊢
  simp [hcrc]

theorem judge_crcError (code length crc : Byte) (payload : List Byte)
    (h : crc ≠ crc8 0xFF ([code, length] ++ payload)) : judge code length payload crc = .rejected .crcError := by
  simp [judge] at h ⊢
  simp [h]

/-- The CRC byte of a command whose other bytes are in the receive buffer is judged and answered (R169, R170). -/
theorem commandByteTaken_crc (s : State) (code length crc : Byte) (payload : List Byte) (awake_ : s.resetHeld = false)
    (phase : s.cport.trans = .command) (buffer : s.cport.rxBuf = [code, length] ++ payload)
    (whole : payload.length = length.toNat) (fits : length.toNat ≤ 24) :
    exec (.commandByteTaken crc) s = .next (answer (judge code length payload crc)
      { s with cport := { s.cport with rxBuf := [code, length] ++ payload ++ [crc] } }) := by
  have h : ¬ 24 < length.toNat := by omega
  simp [exec, execCommandByteTaken, awake, awake_, takePortByte, phase, buffer, takeBuffer, setBuffer, h, whole]

/-- Where no effect at another block changes the status byte, the response carries the one of the part as it is. -/
theorem respond_same (early after_ : State) (r : Result) (l : List Byte) (h : statusByte early = statusByte after_) :
    respond { early := early, after := after_, result := r, payload := l } =
      enterResponse (statusByte after_) r l after_ := by
  simp [respond, h]

/-- Where such effects change it, the response carries one of the two status bytes (R170). -/
theorem respond_differs (early after_ : State) (r : Result) (l : List Byte)
    (h : statusByte early ≠ statusByte after_) :
    ∃ status : Byte, (status = statusByte early ∨ status = statusByte after_) ∧
      respond { early := early, after := after_, result := r, payload := l } =
        enterResponse status r l { after_ with freeCount := after_.freeCount + 1 } := by
  by_cases c : Config.statusSeesFollowOn after_.freeCount = true
  · exact ⟨_, .inr rfl, by simp [respond, h, c]; rfl⟩
  · exact ⟨_, .inl rfl, by simp [respond, h, c]; rfl⟩

end Sys2Proof.Machine
end

