-- ==== Sys2Proof/Laws/Reset.lean ====
section
/-! SUPPORT. START and SOFT RESET: what the placements they take and drop leave outstanding, and what they leave of
FIN. -/

namespace Sys2Proof.Machine

theorem placementOf_eq (e : Instr) (p : Placement) : placementOf e = some p ↔ e = .framePlacement p := by
  cases e <;> simp [placementOf]

/-- A hand-over that no list before it holds is the one that goes. -/
theorem erase_placements (before l : List Instr) (h : ∀ e ∈ before, placementOf e = none) :
    (l.filterMap placementOf).foldl (fun t p => t.erase (.framePlacement p)) (before ++ l) =
      before ++ l.filter (fun e => (placementOf e).isNone) := by
  induction l generalizing before with
  | nil => simp
  | cons e l ih =>
    cases hp : placementOf e with
    | none =>
      have step := ih (before ++ [e]) (by intro x hx; rcases List.mem_append.1 hx with hx | hx; exact h x hx; simp_all)
      simpa [List.filterMap_cons, hp, List.filter_cons] using step
    | some p =>
      obtain rfl : e = .framePlacement p := (placementOf_eq e p).1 hp
      have absent : Instr.framePlacement p ∉ before := fun hx => by simpa [placementOf] using h _ hx
      simpa [List.filterMap_cons, hp, List.filter_cons, List.erase_append_right _ absent] using ih before h

/-- A list of placements taken one by one leaves the hand-overs without them. -/
theorem foldl_takePlacement_handovers (l : List Placement) (s : State) :
    (l.foldl (fun t p => takePlacement p (takeHandOver (.framePlacement p) t)) s).handovers =
      l.foldl (fun t p => t.erase (.framePlacement p)) s.handovers := by
  induction l generalizing s with
  | nil => rfl
  | cons p l ih => rw [List.foldl_cons, ih]; simp [takeHandOver]

/-- Once LINK has taken the placements outstanding, the other hand-overs are left (log 8). -/
theorem takePlacements_handovers (s : State) :
    (takePlacements s).handovers = s.handovers.filter (fun e => (placementOf e).isNone) := by
  rw [takePlacements, foldl_takePlacement_handovers]
  simpa using erase_placements [] s.handovers (by simp)

/-- LINK's taking of the placements stays within LINK and the hand-overs. -/
theorem takePlacements_rest (s : State) :
    (takePlacements s).fin = s.fin ∧ (takePlacements s).sequencer = s.sequencer ∧
      (takePlacements s).blk = s.blk ∧ (takePlacements s).prof = s.prof ∧ (takePlacements s).cport = s.cport ∧
      (takePlacements s).now = s.now := by
  have step : ∀ (l : List Placement) (t : State),
      let u := l.foldl (fun t p => takePlacement p (takeHandOver (.framePlacement p) t)) t
      u.fin = t.fin ∧ u.sequencer = t.sequencer ∧ u.blk = t.blk ∧ u.prof = t.prof ∧ u.cport = t.cport ∧
        u.now = t.now := by
    intro l
    induction l with
    | nil => intro t; exact ⟨rfl, rfl, rfl, rfl, rfl, rfl⟩
    | cons p l ih =>
      intro t
      have h := ih (takePlacement p (takeHandOver (.framePlacement p) t))
      simpa [takeHandOver] using h
  exact step _ s

end Sys2Proof.Machine
end

