-- ==== Sys2Proof/Laws/Sequence.lean ====
section
/-! SUPPORT. What the transitions of SEQ do: its own state, the notices and placements they make, and what FIN and
TRIPCO make of them. -/

namespace Sys2Proof.Machine

/-! ### TRIPCO and PROF at a transition -/

/-- TRIPCO places nothing without an episode in progress and none to begin. -/
theorem tripcoReview_quiet (s : State) (h : s.tripco.restraining = false) (h' : s.elem.summary = false) :
    tripcoReview s = s := by
  simp [tripcoReview, restrainCondition, h, h']

/-- What TRIPCO places comes after what is outstanding. -/
theorem tripcoReview_handovers (s : State) : ∃ more : List Instr, (tripcoReview s).handovers = s.handovers ++ more ∧
    (s.tripco.restraining = false → s.elem.summary = false → more = []) := by
  by_cases h : s.tripco.restraining = false ∧ s.elem.summary = false
  · exact ⟨[], by simp [tripcoReview_quiet s h.1 h.2]⟩
  · have hq : ∀ more : List Instr,
        (s.tripco.restraining = false → s.elem.summary = false → more = []) := fun _ h1 h2 => absurd ⟨h1, h2⟩ h
    unfold tripcoReview
    split
    · split
      · exact ⟨[], by simp [noteTripping]⟩
      · exact ⟨_, rfl, hq _⟩
    · split
      · simp only [endEpisode]
        split
        · exact ⟨[], by simp⟩
        · exact ⟨_, rfl, hq _⟩
      · exact ⟨[], by simp⟩

theorem profRest_of_ne_due (s : State) (h : s.prof.relax ≠ .due) : profRest s = s := by simp [profRest, h]

theorem profRest_of_not_rest (s : State) (h : s.atRest = false) : profRest s = s := by simp [profRest, h]

/-- In a state of SEQ that is not at rest PROF completes no relax (R107). -/
theorem profRest_of_active (s : State) (h : s.sequencer.atRest = false) : profRest s = s :=
  profRest_of_not_rest s (by simp [State.atRest, h])

/-! ### FIN at a transition -/

@[simp] theorem refreshHealthy_inputs (s : State) : (refreshHealthy s).fin.inputs = s.fin.inputs := rfl

theorem confirmed_changeForced (i : Image) (l : List InputState) (n : Nat) :
    ((changeForced i l).getD n InputState.reset).confirmed = (l.getD n InputState.reset).confirmed := by
  simp only [changeForced, List.getD_eq_getElem?_getD, List.getElem?_mapIdx]
  cases l[n]? with
  | none => rfl
  | some x => simp only [Option.map_some, Option.getD_some]; split <;> rfl

/-- R44: the confirmed levels outlast a change of sensing mode. -/
@[simp] theorem forceStatic_input (s : State) (n : Nat) : (forceStatic s).input n = s.input n := by
  unfold forceStatic
  simp only
  split
  · rfl
  · exact confirmed_changeForced _ _ n

@[simp] theorem forceStatic_forced (s : State) :
    (forceStatic s).fin.forced = ((s.sequencer.st == .tripping) || (s.sequencer.st == .closing)) := by
  unfold forceStatic
  simp only
  split <;> simp_all [refreshWet]

/-- With BKR_A and BKR_B forced or not as SEQ's state asks, FIN changes nothing (R44). -/
theorem forceStatic_same (s : State)
    (h : s.fin.forced = ((s.sequencer.st == .tripping) || (s.sequencer.st == .closing))) : forceStatic s = s := by
  simp [forceStatic, h]

/-- Forcing and its end change the two inputs' sensing and the wetting output (R41, R44). -/
theorem forceStatic_changes (s : State)
    (h : s.fin.forced ≠ ((s.sequencer.st == .tripping) || (s.sequencer.st == .closing))) :
    forceStatic s = refreshWet { s with
      fin := { s.fin with
        forced := (s.sequencer.st == .tripping) || (s.sequencer.st == .closing),
        inputs := changeForced s.image s.fin.inputs } } := by
  simp only [forceStatic, if_neg h]

/-- What FIN makes of a transition stays within FIN. -/
theorem forceStatic_only_fin (s : State) : forceStatic s = { s with fin := (forceStatic s).fin } := by
  unfold forceStatic
  simp only
  split <;> rfl

@[simp] theorem handTransition_input (s : State) (n : Nat) : (handTransition s).input n = s.input n := by
  have h : (handTransition s).input n = (forceStatic s).input n := by simp [handTransition, State.input]
  rw [h, forceStatic_input]

@[simp] theorem handTransition_forced (s : State) : (handTransition s).fin.forced =
    ((s.sequencer.st == .tripping) || (s.sequencer.st == .closing)) := by
  simp [handTransition, refreshHealthy]

@[simp] theorem handTransition_healthy (s : State) : (handTransition s).fin.healthy = healthyLevel s := by
  simp [handTransition, refreshHealthy, healthyLevel]

/-! ### TRIPCO's placements at a transition -/

theorem handTransition_handovers (s : State) :
    ∃ more : List Instr, (handTransition s).handovers = s.handovers ++ more ∧
      (s.tripco.restraining = false → s.elem.summary = false → more = []) := by
  obtain ⟨more, h1, h2⟩ := tripcoReview_handovers (refreshHealthy (forceStatic s))
  exact ⟨more, by simpa [handTransition] using h1, by simpa using h2⟩

theorem handTransition_quiet (s : State) (h : s.tripco.restraining = false) (h' : s.elem.summary = false) :
    handTransition s = refreshHealthy (forceStatic s) :=
  tripcoReview_quiet _ (by simpa using h) (by simpa using h')

/-- What a notice of the station's own does to CPORT (R179). -/
theorem queueOwn_cport (k : NoticeKind) (d1 d2 : Half) (s : State) :
    (queueOwn k d1 d2 s).cport = s.cport.queue s.image.attnMask
      { kind := k, time := s.now, station := s.address, detail1 := d1, detail2 := d2, tagA := 0, tagB := 0 } := rfl

/-! ### A transition that is announced (R70) -/

@[simp] theorem seqEnter_sequencer (st : SeqState) (d : Option Ms) (s : State) :
    (seqEnter st d s).sequencer = s.sequencer.enter st d := rfl

theorem input_congr {s t : State} (h : t.fin = s.fin) (n : Nat) : t.input n = s.input n := by
  simp [State.input, h]

@[simp] theorem seqMove_sequencer (st : SeqState) (d : Option Ms) (r : Reason) (s : State) :
    (seqMove st d r s).sequencer = s.sequencer.enter st d := by
  simp [seqMove, announceState, placeStateFrame, seqEnter]

theorem seqMove_cport (st : SeqState) (d : Option Ms) (r : Reason) (s : State) :
    (seqMove st d r s).cport = s.cport.queue s.image.attnMask
      { kind := .seqState, time := s.now, station := s.address, detail1 := half (seqStateCode st),
        detail2 := half (reasonCode r), tagA := 0, tagB := 0 } := by
  simp [seqMove, announceState, queueOwn, queueAbout, queueTagged, SequencerState.enter]

theorem seqMove_handovers (st : SeqState) (d : Option Ms) (r : Reason) (s : State) :
    ∃ more : List Instr, (seqMove st d r s).handovers = s.handovers ++
        [.framePlacement (.owned (.state { st := st, pos := s.fin.position, shot := s.sequencer.shot }))] ++ more ∧
      (s.tripco.restraining = false → s.elem.summary = false → more = []) := by
  obtain ⟨more, h1, h2⟩ := handTransition_handovers (announceState r (seqEnter st d s))
  refine ⟨more, ?_, by simpa using h2⟩
  simp only [seqMove, h1]
  simp [announceState, placeStateFrame, seqEnter, SequencerState.enter]

@[simp] theorem seqMove_input (st : SeqState) (d : Option Ms) (r : Reason) (s : State) (n : Nat) :
    (seqMove st d r s).input n = s.input n := by
  rw [seqMove, handTransition_input]
  exact input_congr (by simp) n

/-! ### A transition that is not announced -/

@[simp] theorem seqSlip_sequencer (st : SeqState) (d : Option Ms) (s : State) :
    (seqSlip st d s).sequencer = s.sequencer.enter st d := by
  simp [seqSlip, seqEnter]

@[simp] theorem seqSlip_cport (st : SeqState) (d : Option Ms) (s : State) : (seqSlip st d s).cport = s.cport := by
  simp [seqSlip]

theorem seqSlip_handovers (st : SeqState) (d : Option Ms) (s : State) :
    ∃ more : List Instr, (seqSlip st d s).handovers = s.handovers ++ more ∧
      (s.tripco.restraining = false → s.elem.summary = false → more = []) := by
  obtain ⟨more, h1, h2⟩ := handTransition_handovers (seqEnter st d s)
  exact ⟨more, by simpa [seqSlip] using h1, by simpa using h2⟩

@[simp] theorem seqSlip_input (st : SeqState) (d : Option Ms) (s : State) (n : Nat) :
    (seqSlip st d s).input n = s.input n := by
  rw [seqSlip, handTransition_input]
  exact input_congr (by simp) n

/-! ### Trips (R59 to R61) -/

theorem announceTrip_cport (s : State) : (announceTrip s).cport = s.cport.queue s.image.attnMask
    { kind := .trip, time := s.now, station := s.address, detail1 := half (causeCode s.sequencer.lastCause),
      detail2 := half s.sequencer.shot, tagA := 0, tagB := 0 } := by
  simp [announceTrip, queueOwn, queueAbout, queueTagged]

theorem announceTrip_handovers (s : State) : (announceTrip s).handovers = s.handovers ++
    [.framePlacement (.owned (.trip
      { cause := s.sequencer.lastCause, shot := s.sequencer.shot, fail10 := (s.image.tripFail + 9) / 10 }))] := by
  simp [announceTrip, tripFail10]

/-- With the breaker not open a trip stays in TRIPPING. -/
theorem finishTrip_of_not_open (s : State) (h : s.fin.position ≠ .opened) :
    finishTrip s = handTransition (announceTrip s) := by
  simp [finishTrip, takeOpenAtOnce, h]

/-- With the breaker open a trip goes on at once (R61). -/
theorem finishTrip_of_open (s : State) (h : s.fin.position = .opened) :
    finishTrip s = seqOpened (handTransition (announceTrip s)) := by
  simp [finishTrip, takeOpenAtOnce, h]

/-! ### A raise (R66, R111) -/

theorem seqRaise_locks (s : State) (h : s.sequencer.st = .deadTime ∨ s.sequencer.st = .deadHold)
    (h' : s.shotLimit < s.sequencer.shot) : seqRaise s = seqMove .lockout none .profileRaise s := by
  unfold seqRaise
  rcases h with h | h <;> simp [h, h']

theorem seqRaise_stays (s : State)
    (h : s.sequencer.st = .deadTime ∨ s.sequencer.st = .deadHold → s.sequencer.shot ≤ s.shotLimit) :
    seqRaise s = s := by
  unfold seqRaise
  split
  · exact if_neg (Nat.not_lt.2 (h (Or.inl ‹_›)))
  · exact if_neg (Nat.not_lt.2 (h (Or.inr ‹_›)))
  · rfl

@[simp] theorem advanceFree_input (s : State) (n : Nat) : (advanceFree s).input n = s.input n := rfl

@[simp] theorem queueProfileChanged_input (k : ProfileChange) (p : Profile) (s : State) (n : Nat) :
    (queueProfileChanged k p s).input n = s.input n := rfl

/-- A raise that leaves SEQ where it is queues PROF's notice. -/
theorem handRaise_stays (q : Profile) (s : State)
    (h : s.sequencer.st = .deadTime ∨ s.sequencer.st = .deadHold → s.sequencer.shot ≤ s.shotLimit) :
    handRaise q s = advanceFree (queueProfileChanged .raised q s) := by
  unfold handRaise
  split
  · rw [seqRaise_stays s h]
  · rw [seqRaise_stays _ (by simpa [State.shotLimit] using h)]

/-- A raise that locks SEQ out: its transition and PROF's notice, in either order (log 5). -/
theorem handRaise_locks (q : Profile) (s : State) (h : s.sequencer.st = .deadTime ∨ s.sequencer.st = .deadHold)
    (h' : s.shotLimit < s.sequencer.shot) :
    handRaise q s = advanceFree (queueProfileChanged .raised q (seqMove .lockout none .profileRaise s)) ∨
      handRaise q s = advanceFree (seqMove .lockout none .profileRaise (queueProfileChanged .raised q s)) := by
  unfold handRaise
  split
  · exact Or.inl (by rw [seqRaise_locks s h h'])
  · exact Or.inr (by rw [seqRaise_locks _ (by simpa using h) (by simpa [State.shotLimit] using h')])

/-! ### Placements (R79, R80) -/

theorem storeBlock_refresh (k : BlockKey) (e : BlockEffect) (d : Option Nat) (s : State)
    (hk : hasKey k s.blk.table = true) : storeBlock k e d s =
      { s with blk := { s.blk with table := refreshRecord k e (expiryAfter s.now d) s.blk.table } } := by
  simp [storeBlock, placeRecord, hk]

theorem storeBlock_new (k : BlockKey) (e : BlockEffect) (d : Option Nat) (s : State)
    (hk : hasKey k s.blk.table = false) (hl : s.blk.table.length < 16) : storeBlock k e d s =
      { s with
        blk := { s.blk with
          table := s.blk.table ++ [{ key := k, effect := e, setTime := s.now, expiry := expiryAfter s.now d }] } } := by
  simp [storeBlock, placeRecord, hk, hl]

theorem storeBlock_full (k : BlockKey) (e : BlockEffect) (d : Option Nat) (s : State)
    (hk : hasKey k s.blk.table = false) (hl : ¬ s.blk.table.length < 16) : storeBlock k e d s =
      queueOwn .blockOverflow (pair (blockSourceCode k.source) k.origin.toNat) k.tag
        { s with blk := { s.blk with overflow := true } } := by
  simp [storeBlock, placeRecord, hk, hl]

theorem hasKey_refreshRecord (k : BlockKey) (e : BlockEffect) (x : Option Ms) (t : List BlockRecord) :
    hasKey k (refreshRecord k e x t) = hasKey k t := by
  induction t with
  | nil => rfl
  | cons r t ih =>
    simp only [hasKey, refreshRecord, List.map_cons, List.any_cons] at ih ⊢
    rw [ih]
    split <;> simp_all

/-- What a placement leaves in the table: the record, or the overflow flag (R79, R80). -/
theorem storeBlock_stored (k : BlockKey) (e : BlockEffect) (d : Option Nat) (s : State) :
    hasKey k (storeBlock k e d s).blk.table = true ∨ (storeBlock k e d s).blk.overflow = true := by
  by_cases hk : hasKey k s.blk.table = true
  · left; rw [storeBlock_refresh k e d s hk]; simpa [hasKey_refreshRecord] using hk
  · rw [Bool.not_eq_true] at hk
    by_cases hl : s.blk.table.length < 16
    · left; rw [storeBlock_new k e d s hk hl]; simp [hasKey]
    · right; rw [storeBlock_full k e d s hk hl]; simp

end Sys2Proof.Machine
end

