-- ==== Sys2Proof/Laws/Sampling.lean ====
section
/-! SUPPORT. What sensing makes of the inputs, one lemma for each operation of a sample row, and what it leaves
unchanged. -/

namespace Sys2Proof.Machine

/-! ### The instants of sensing -/

@[simp] theorem setSense_sense (x : SenseState) (s : State) : (setSense x s).fin.sense = x := rfl

@[simp] theorem setSense_inputs (x : SenseState) (s : State) : (setSense x s).fin.inputs = s.fin.inputs := rfl

@[simp] theorem setSense_nextPeriodAt (x : SenseState) (s : State) :
    (setSense x s).fin.nextPeriodAt = s.fin.nextPeriodAt := rfl

@[simp] theorem setSense_frame (x : SenseState) (s : State) :
    (setSense x s).now = s.now ∧ (setSense x s).resetHeld = s.resetHeld ∧ (setSense x s).meas = s.meas ∧
    (setSense x s).elem = s.elem ∧ (setSense x s).fin.position = s.fin.position ∧
    (setSense x s).fin.fieldDemand = s.fin.fieldDemand ∧ (setSense x s).fin.discrepancy = s.fin.discrepancy ∧
    (setSense x s).fin.discAt = s.fin.discAt ∧ (setSense x s).sequencer = s.sequencer ∧ (setSense x s).blk = s.blk ∧
    (setSense x s).prof = s.prof ∧ (setSense x s).link = s.link ∧ (setSense x s).tripco = s.tripco ∧
    (setSense x s).hunt = s.hunt ∧ (setSense x s).handovers = s.handovers ∧ (setSense x s).pending = s.pending ∧
    (setSense x s).freeCount = s.freeCount ∧ (setSense x s).cport = s.cport ∧ (setSense x s).isRun = s.isRun ∧
    (setSense x s).image = s.image ∧ (setSense x s).address = s.address := by
  simp only [setSense]
  simp [State.isRun, State.image, State.address]

@[simp] theorem beginPeriod_frame (x : Ms) (s : State) :
    (beginPeriod x s).now = s.now ∧ (beginPeriod x s).resetHeld = s.resetHeld ∧ (beginPeriod x s).meas = s.meas ∧
    (beginPeriod x s).elem = s.elem ∧ (beginPeriod x s).fin.position = s.fin.position ∧
    (beginPeriod x s).fin.fieldDemand = s.fin.fieldDemand ∧ (beginPeriod x s).fin.discrepancy = s.fin.discrepancy ∧
    (beginPeriod x s).fin.discAt = s.fin.discAt ∧ (beginPeriod x s).sequencer = s.sequencer ∧
    (beginPeriod x s).blk = s.blk ∧ (beginPeriod x s).prof = s.prof ∧ (beginPeriod x s).link = s.link ∧
    (beginPeriod x s).tripco = s.tripco ∧ (beginPeriod x s).hunt = s.hunt ∧
    (beginPeriod x s).handovers = s.handovers ∧ (beginPeriod x s).pending = s.pending ∧
    (beginPeriod x s).freeCount = s.freeCount ∧ (beginPeriod x s).cport = s.cport ∧
    (beginPeriod x s).isRun = s.isRun ∧ (beginPeriod x s).image = s.image ∧
    (beginPeriod x s).address = s.address := by
  simp only [beginPeriod]
  simp [State.isRun, State.image, State.address]

/-- R41: the wetting output is high while an input is sensed STATIC and during the pulse. -/
theorem wetLevel_iff (s : State) : wetLevel s = true ↔
    (∃ n : Nat, n < 8 ∧ sensedStatic s.image s.fin.forced n = true) ∨ s.fin.sense.pulseEndAt ≠ none := by
  simp only [wetLevel, anyStatic, Bool.or_eq_true, List.any_eq_true, List.mem_range, Option.isSome_iff_ne_none]

theorem sensedStatic_iff (i : Image) (forced : Bool) (n : Nat) :
    sensedStatic i forced n = true ↔ i.inputMode n ≠ 1 ∨ (forced = true ∧ n < 2) := by
  simp [sensedStatic]

/-! ### Samples -/

@[simp] theorem sampledNow_self (row : SampleRow) (s : State) : sampledNow row s row = true := by
  cases row <;> rfl

@[simp] theorem sampleInputs_length (mode : Nat → Bool) (sampled : SampleRow → Bool) (levels : Byte)
    (l : List InputState) : (sampleInputs mode sampled levels l).length = l.length := List.length_mapIdx

/-- R41: an input takes a sample of its own mode where that mode is sampled, and else stays as it is. -/
theorem sampleInputs_getD (mode : Nat → Bool) (sampled : SampleRow → Bool) (levels : Byte) (l : List InputState)
    (n : Nat) (h : n < l.length) :
    (sampleInputs mode sampled levels l).getD n InputState.reset =
      if sampled (if mode n then .static else .cyclic) then
        (l.getD n InputState.reset).sample (mode n) (levels.getLsbD n)
      else l.getD n InputState.reset := by
  simp [sampleInputs, List.getD_eq_getElem?_getD, h]

/-! ### What is confirmed is handed on -/

@[simp] theorem handInput_frame (a b : List InputState) (s : State) (n : Nat) :
    (handInput a b s n).now = s.now ∧ (handInput a b s n).resetHeld = s.resetHeld ∧
    (handInput a b s n).meas = s.meas ∧ (handInput a b s n).elem = s.elem ∧
    (handInput a b s n).blk.watches = s.blk.watches ∧ (handInput a b s n).link = s.link ∧
    (handInput a b s n).tripco.records = s.tripco.records ∧ (handInput a b s n).hunt = s.hunt ∧
    (handInput a b s n).pending = s.pending ∧ (handInput a b s n).cport.part = s.cport.part ∧
    (handInput a b s n).cport.staging = s.cport.staging ∧ (handInput a b s n).cport.locked = s.cport.locked ∧
    (handInput a b s n).cport.trans = s.cport.trans ∧ (handInput a b s n).cport.rxBuf = s.cport.rxBuf ∧
    (handInput a b s n).cport.resp = s.cport.resp ∧ (handInput a b s n).cport.respPos = s.cport.respPos ∧
    (handInput a b s n).cport.pdo = s.cport.pdo ∧ (handInput a b s n).isRun = s.isRun ∧
    (handInput a b s n).image = s.image ∧ (handInput a b s n).address = s.address := by
  simp only [handInput]
  (repeat' split) <;> simp [State.isRun, State.image, State.address]

theorem handInputs_frame (a b : List InputState) (l : List Nat) (s : State) :
    (l.foldl (handInput a b) s).now = s.now ∧ (l.foldl (handInput a b) s).resetHeld = s.resetHeld ∧
    (l.foldl (handInput a b) s).meas = s.meas ∧ (l.foldl (handInput a b) s).elem = s.elem ∧
    (l.foldl (handInput a b) s).link = s.link ∧ (l.foldl (handInput a b) s).hunt = s.hunt ∧
    (l.foldl (handInput a b) s).pending = s.pending ∧
    (l.foldl (handInput a b) s).tripco.records = s.tripco.records := by
  induction l generalizing s with
  | nil => simp
  | cons n l ih =>
    rw [List.foldl_cons]
    obtain ⟨h1, h2, h3, h4, h5, h6, h7, h8⟩ := ih (handInput a b s n)
    simp [h1, h2, h3, h4, h5, h6, h7, h8]

@[simp] theorem handConfirmed_frame (a b : List InputState) (s : State) :
    (handConfirmed a b s).now = s.now ∧ (handConfirmed a b s).resetHeld = s.resetHeld ∧
    (handConfirmed a b s).meas = s.meas ∧ (handConfirmed a b s).elem = s.elem ∧ (handConfirmed a b s).link = s.link ∧
    (handConfirmed a b s).pending = s.pending ∧ (handConfirmed a b s).tripco.records = s.tripco.records := by
  simp only [handConfirmed]
  simp only [handInputs_frame]
  (repeat' split) <;> simp

@[simp] theorem takeInputs_frame (l : List InputState) (s : State) :
    (takeInputs l s).now = s.now ∧ (takeInputs l s).resetHeld = s.resetHeld ∧ (takeInputs l s).meas = s.meas ∧
    (takeInputs l s).elem = s.elem ∧ (takeInputs l s).link = s.link ∧ (takeInputs l s).pending = s.pending ∧
    (takeInputs l s).tripco.records = s.tripco.records := by
  simp [takeInputs]

@[simp] theorem takeSamplesNow_frame (row : SampleRow) (levels : Byte) (s : State) :
    (takeSamplesNow row levels s).now = s.now ∧ (takeSamplesNow row levels s).resetHeld = s.resetHeld ∧
    (takeSamplesNow row levels s).meas = s.meas ∧ (takeSamplesNow row levels s).elem = s.elem ∧
    (takeSamplesNow row levels s).link = s.link ∧ (takeSamplesNow row levels s).pending = s.pending ∧
    (takeSamplesNow row levels s).tripco.records = s.tripco.records := by
  simp [takeSamplesNow]

end Sys2Proof.Machine
end

