-- ==== Sys2Proof/Tests/Slice0.lean ====
section
/-! SUPPORT. Tests of the model: ill-formed commands, the worked examples of the spec, one small step for each command,
and a witness for the hypotheses of each statement. -/

namespace Sys2Proof.Tests

open Sys2Proof Sys2Proof.Machine Sys2Proof.Claims

set_option Elab.async false

/-! ### Small states -/

def bytesOf (l : List Nat) : List Byte := l.map byteOf

/-- A staging image that START accepts: station 7, upstream 4, downstream 9 and 12. -/
def image : Image where
  areaS := bytesOf ([7, 18, 52, 4, 9, 12, 0, 0, 1, 4, 20, 10, 7, 208, 0, 100, 3, 232, 31, 64, 0, 50, 0, 200, 2, 0, 0, 0,
      30, 0, 0, 19, 136, 0, 0, 1, 244, 0, 0, 19, 136, 0, 0, 19, 136, 0, 0, 19, 136, 0, 0, 117, 48, 0, 200, 0, 150] ++
    [0, 0, 39, 16, 1, 44, 7, 208, 2, 88, 0, 0, 0, 0, 0, 0, 0, 0, 200, 0, 100, 15, 76, 100])
  areaF := bytesOf [3, 2, 0, 50, 0, 50, 5, 3, 232, 7, 208, 0, 0, 0, 2, 1, 0, 50, 0, 50, 5, 1, 244, 7, 208, 1, 1, 1, 1, 0,
    0, 50, 0, 50, 5, 1, 244, 3, 232, 1, 1, 1, 95, 60]

/-- The part in CONFIG with that image staged. -/
def staged : State := { State.reset with cport := { CportState.reset with staging := image } }

/-- The part in RUN with that image, its breaker closed, MEAS fresh and SEQ in CLOSED_REST. -/
def live : State := { State.reset with
  cport := { CportState.reset with part := .run, staging := image, locked := some image }
  meas := { MeasState.reset with status := .fresh }
  fin := { FinState.reset with position := .closed, healthy := true }
  sequencer := SequencerState.reset.enter .closedRest none
  link := { LinkState.reset with lfsr := 7, beaconAt := some 10000, table := pinAll 0 image [] }
  tripco := { TripcoState.reset with records := image.downstream.map Restraint.fresh } }

/-- SEQ in a state with shot count 1 and its timer, if any, at 5 ms. -/
def inState (st : SeqState) (s : State) : State :=
  { s with
    sequencer := { s.sequencer.enter st (if Safety.timedState st then some 5 else none) with shot := 1 } }

def withPosition (p : Position) (s : State) : State := { s with fin := { s.fin with position := p } }
def withMeas (f : MeasState → MeasState) (s : State) : State := { s with meas := f s.meas }
def withLink (f : LinkState → LinkState) (s : State) : State := { s with link := f s.link }
def withBlk (f : BlkState → BlkState) (s : State) : State := { s with blk := f s.blk }
def withHunt (f : HuntState → HuntState) (s : State) : State := { s with hunt := f s.hunt }
def withProf (f : ProfState → ProfState) (s : State) : State := { s with prof := f s.prof }
def withPort (f : CportState → CportState) (s : State) : State := { s with cport := f s.cport }
def withInputs (levels : List Bool) (s : State) : State :=
  { s with fin := { s.fin with inputs := levels.map (fun b => InputState.confirm b) } }

/-- The profile, and with it every demand, is Elevated: hunting is enabled and SEF trips. -/
def elevated (s : State) : State := withProf (fun p => { p with
  port := .elevated, ownDemand := .elevated, target := .elevated, effective := .elevated }) s

/-- The state that a command answers, if it answers a next state. -/
def next (c : Instr) (s : State) : Option State :=
  match exec c s with
  | .next t => some t
  | _ => none

def record (src : BlockSource) (origin : Byte) (tag : Half) (e : BlockEffect) : BlockRecord :=
  { key := { source := src, origin := origin, tag := tag }, effect := e, setTime := 0, expiry := none }

/-- A table with `n` records of source HUNT. -/
def filled (n : Nat) : List BlockRecord := (List.range n).map (fun i => record .hunt 1 (half i) .hold)

def entryOf (a : Byte) : Neighbour := Neighbour.create a .other false .fresh 10

/-! ### Ill-formed commands -/

theorem test_wf_sample : (Instr.sampleFrame [] 8).wf = false := by decide
theorem test_wf_load_empty : (Instr.loadSettings 1 0 []).wf = false := by decide
theorem test_wf_load_long : (Instr.loadSettings 1 0 (List.replicate 17 0)).wf = false := by decide
theorem test_wf_rejected_length : (Instr.commandRejected 0 1 [] 0).wf = false := by decide
theorem test_wf_rejected_long : (Instr.commandRejected 0 25 (List.replicate 25 0) 0).wf = false := by decide
theorem test_wf_record : (Instr.blockRecordExpiry { source := .tag, origin := 0, tag := 0 }).wf = false := by decide
theorem test_wf_match : (Instr.watchFrameMatch 63 (.owned .release)).wf = false := by decide
theorem test_wf_match_body : (Instr.watchFrameMatch 1 (.owned (.huntVerdict { caller := 0, seqNo := 0 }))).wf = false := by
  decide
theorem test_wf_link_short : (Instr.linkFrameReceived [5, 0, 0, 0, 0]).wf = false := by decide
theorem test_wf_link_long : (Instr.linkFrameReceived (17 :: List.replicate 16 0)).wf = false := by decide
theorem test_wf_link_length : (Instr.linkFrameReceived [7, 0, 0, 0, 0, 0]).wf = false := by decide
theorem test_wf_quiet : (Instr.neighbourQuietExpiry 0).wf = false := by decide
theorem test_wf_lost : (Instr.neighbourLostExpiry 63).wf = false := by decide
theorem test_wf_trip_cause :
    (Instr.framePlacement (.owned (.trip { cause := .none, shot := 0, fail10 := 6 }))).wf = false := by decide
theorem test_wf_trip_shot :
    (Instr.tripFrameReceived 1 { cause := .ph, shot := 5, fail10 := 6 }).wf = false := by decide
theorem test_wf_trip_fail_low :
    (Instr.tripFrameReceived 1 { cause := .ph, shot := 0, fail10 := 5 }).wf = false := by decide
theorem test_wf_trip_fail_high :
    (Instr.tripFrameReceived 1 { cause := .ph, shot := 0, fail10 := 101 }).wf = false := by decide
theorem test_wf_trip_source :
    (Instr.tripFrameReceived 0 { cause := .ph, shot := 0, fail10 := 6 }).wf = false := by decide
theorem test_wf_restrain_none :
    (Instr.restrainReceived 1 { ph := false, ef := false, phh := false, tripNo := 1 }).wf = false := by decide
theorem test_wf_restrain_low :
    (Instr.restrainReceived 1 { ph := true, ef := false, phh := false, tripNo := 0 }).wf = false := by decide
theorem test_wf_restrain_high :
    (Instr.restrainReceived 1 { ph := true, ef := false, phh := false, tripNo := 6 }).wf = false := by decide
theorem test_wf_release : (Instr.releaseReceived 0).wf = false := by decide
theorem test_wf_state_code :
    (Instr.stateFrameReceived 1 { st := .tripping, pos := .closed, shot := 0 }).wf = false := by decide
theorem test_wf_state_shot :
    (Instr.stateFrameReceived 1 { st := .lockout, pos := .closed, shot := 5 }).wf = false := by decide
theorem test_wf_breaker_fail : (Instr.breakerFailReceived 0 .trip).wf = false := by decide
theorem test_wf_restraint : (Instr.restraintExpiry 0).wf = false := by decide
theorem test_wf_call : (Instr.huntCallReceived 0 0).wf = false := by decide
theorem test_wf_report_caller : (Instr.huntReportReceived 1
    { round := { caller := 63, seqNo := 0 }, mag := 0, dir := .forward, isOpen := false, incomplete := false }).wf =
      false := by decide
theorem test_wf_report_mag : (Instr.huntReportReceived 1
    { round := { caller := 1, seqNo := 0 }, mag := 32768, dir := .forward, isOpen := false, incomplete := false }).wf =
      false := by decide
theorem test_wf_verdict : (Instr.huntVerdictReceived 1 { caller := 0, seqNo := 0 }).wf = false := by decide

def beaconOf (interval : Nat) : FrameBody := .beacon
  { ownDemand := .ordinary, effective := .ordinary, st := .lockout, pos := .closed, measFresh := true, phase := .idle,
    interval := interval }

theorem test_wf_beacon_low : (beaconOf 0).wf = false := by decide
theorem test_wf_beacon_high : (beaconOf 61).wf = false := by decide

/-! ### Worked examples of the spec -/

/-- 1.4.1: the samples of the worked cycle. -/
def workedCycle : List Sample := (List.range 32).map (fun n =>
  let sign : Int := if n < 16 then 1 else -1
  { ia := 2000 * sign, ib := 0, ic := -1970 * sign, is := if n = 5 then -351 else -350 * sign, va := 182 * sign,
    vb := 0, vc := 0 })

theorem test_workedCycle :
    let r := cycleResult 30 5000 workedCycle
    (r.ia, r.ir, r.v0, r.is, r.p0, r.dir) = (2000, 30, 60, 350, -21001, .forward) ∧
      (cycleResult 61 5000 workedCycle).dir = .undetermined ∧
      (cycleResult 30 25000 workedCycle).dir = .undetermined := by decide +kernel

/-- 2.7.1 to 2.7.3: multiples, operate times and increments. -/
theorem test_workedElement :
    (multiple 6000 2000, operateTime 0 768, increment 0 50 768) = (768, 6300, 106522) ∧
    (multiple 3500 2000, operateTime 0 448, increment 0 50 448) = (448, 13500, 49710) ∧
    (multiple 2149 2000, operateTime 0 275, increment 0 50 275) = (275, 111231, 6033) ∧
    (multiple 2000 50, operateTime 2 10240, increment 2 5 10240) = (10240, 50, 16777216) := by decide +kernel

/-- 2.7.4 and 2.7.5: a change of mode, and a reset with a reset time of 1000 ms. -/
theorem test_workedAccumulator :
    Nat.repeat (stepAccumulator 0 50 1000 768) 100 0 = 10652200 ∧
    Nat.repeat (stepAccumulator 0 100 1000 768) 115 10652200 = 16777215 ∧
    stepAccumulator 0 100 1000 768 16777215 = 16777216 ∧
    Nat.repeat (stepAccumulator 0 50 1000 255) 31 10652200 = 250336 ∧
    Nat.repeat (stepAccumulator 0 50 1000 255) 32 10652200 = 0 ∧ stepAccumulator 0 50 0 255 10652200 = 0 := by
  decide +kernel

/-- R129: a station with address 7 draws 3, 1, 0, 0. -/
theorem test_draws : ((List.range 4).map (fun n => (Nat.repeat lfsrNext (n + 1) (7#16 : Half)).toNat % 8)) = [3, 1, 0, 0] := by
  decide +kernel

/-- R121: gaps across the wrap. -/
theorem test_gap : solGap 63 1 = 0 ∧ solGap 62 2 = 2 ∧ solGap 5 6 = 0 ∧ solGap 5 5 = 62 := by decide

/-- The CRCs of the worked staging image, and the check value of the CRC with polynomial 0x07 over nine digits. -/
theorem test_crcs : areaCrcOk image.areaS = true ∧ areaCrcOk image.areaF = true ∧
    crc8 0 (bytesOf [49, 50, 51, 52, 53, 54, 55, 56, 57]) = 0xF4 ∧
    crc16 0xFFFF#16 (bytesOf [49, 50, 51, 52, 53, 54, 55, 56, 57]) = 0x29B1#16 ∧
    crcByBits 0x1021#16 (bitsOf (bytesOf [49, 50, 51, 52, 53, 54, 55, 56, 57])) 0xFFFF = 0x29B1#16 := by decide +kernel

/-! ### One step for each command -/

theorem test_sampleFrame : (next (.sampleFrame (List.replicate 16 0) 0) live).map
    (fun t => (Safety.assembledCount t.meas.assembly, t.meas.silenceAt)) = some (1, some 10) ∧
    next (.sampleFrame (List.replicate 15 0) 0) live = some live := by decide +kernel

theorem test_frameSilenceExpiry : (next .frameSilenceExpiry (withMeas (fun m => { m with silenceAt := some 10 }) live)).map
    (fun t => (t.meas.status, t.now, t.fin.healthy, t.blk.table.map (·.key), t.cport.notices.map (·.kind))) =
      some (.stale, 10, false, [selfKey live], [.stale]) := by decide +kernel

/-- Four equal samples confirm the inputs: BKR_B alone opens the position, and SEQ takes it as an opening by hand. -/
theorem test_staticSample : ((next (.staticSample 2) live).bind (next (.staticSample 2))).map
    (fun t => (t.input 0, t.fin.position)) = some (none, .closed) ∧
    ((((next (.staticSample 2) live).bind (next (.staticSample 2))).bind (next (.staticSample 2))).bind
      (next (.staticSample 2))).map (fun t => (t.input 1, t.fin.position, t.sequencer.st)) =
      some (some true, .opened, .opened) := by decide +kernel

theorem test_sensePeriodStart : (next .sensePeriodStart live).map
    (fun t => (t.fin.nextPeriodAt, t.fin.sense.pulseEndAt, t.fin.wet)) = some (some 200, some 2, true) := by
  decide +kernel

/-- The instants of sensing: the end of a pulse, and the next millisecond of the timebase. -/
def sensing (pulse : Option Ms) (static : Ms) (s : State) : State :=
  { s with fin := { s.fin with sense := { s.fin.sense with pulseEndAt := pulse, staticAt := static } } }

/-- At the end of the pulse the samples of the timebase are taken along, and only once. -/
theorem test_cyclicSample : (next (.cyclicSample 0) (sensing (some 2) 2 live)).map
    (fun t => (t.now, t.fin.sense.pulseEndAt, t.fin.sense.staticAt, t.fin.sense.along)) =
      some (2, none, 3, some (.static, 2)) ∧
    ((next (.cyclicSample 0) (sensing (some 2) 2 live)).bind (next (.staticSample 0))).map
      (fun t => (t.now, t.fin.sense.staticAt, t.fin.sense.along)) = some (2, 3, none) := by decide +kernel

/-- BKR_A is CYCLIC and BKR_B is STATIC; both are confirmed at the end of one pulse. -/
def mixed : State :=
  let i : Image := { image with areaS := image.areaS.set 67 1 }
  sensing (some 2) 2 { live with
    cport := { live.cport with staging := i, locked := some i }
    fin := { live.fin with
      inputs := [{ InputState.confirm false with pend := some true }, { InputState.confirm false with run := 3 }] ++
        List.replicate 6 (InputState.confirm false) } }

/-- R41: (0, 0) goes to (1, 1) as one pair: a discrepancy, and no position in between. -/
theorem test_mixedSamples : ∀ c ∈ [Instr.staticSample 3, .cyclicSample 3], (next c mixed).map
    (fun t => (t.input 0, t.input 1, t.fin.position, t.sequencer.st, t.fin.discrepancy)) =
      some (some true, some true, .closed, .closedRest, true) := by decide +kernel

theorem test_discrepancyTimeout :
    (next .discrepancyTimeout { live with fin := { live.fin with discrepancy := true, discAt := some 100 } }).map
      (fun t => (t.fin.position, t.fin.discAt, t.cport.notices.map (fun n => (n.kind, n.detail2)))) =
      some (.unknown, none, [(.breakerDiscrepancy, 1)]) := by decide +kernel

theorem test_tripRequest : (next (.tripRequest .ph) live).map
    (fun t => (t.sequencer.st, t.sequencer.timer, t.sequencer.shot, t.handovers, t.fin.forced)) =
      some (.tripping, some 200, 1,
        [.framePlacement (.owned (.trip { cause := .ph, shot := 1, fail10 := 20 }))], true) := by decide +kernel
theorem test_tripRequest_discarded : next (.tripRequest .ph) (inState .lockout live) = some (inState .lockout live) := by
  decide +kernel

theorem test_tripFailExpiry : (next .tripFailExpiry (inState .tripping live)).map
    (fun t => (t.sequencer.st, t.fin.healthy, t.cport.notices.map (·.kind))) =
      some (.failed, false, [.breakerFail, .seqState]) := by decide +kernel

theorem test_deadTimeExpiry :
    (next .deadTimeExpiry (withPosition .opened (inState .deadTime live))).map
      (fun t => (t.sequencer.st, t.sequencer.timer, t.sequencer.closeLine)) =
        some (.closing, some 155, true) := by decide +kernel
theorem test_deadTimeExpiry_locked :
    (next .deadTimeExpiry (withBlk (fun b => { b with overflow := true }) (inState .deadTime live))).map
      (fun t => (t.sequencer.st, t.cport.notices.map (·.detail2))) = some (.lockout, [8]) := by decide +kernel

theorem test_holdMaxExpiry : (next .holdMaxExpiry (inState .deadHold live)).map
    (fun t => (t.sequencer.st, t.cport.notices.map (·.detail2))) = some (.lockout, [9]) := by decide +kernel

theorem test_closeFailExpiry : (next .closeFailExpiry (inState .closing live)).map
    (fun t => (t.sequencer.st, t.cport.notices.map (·.detail1))) = some (.failed, [2, 9]) := by decide +kernel

theorem test_reclaimExpiry : (next .reclaimExpiry (inState .reclaim live)).map
    (fun t => (t.sequencer.st, t.sequencer.shot, t.sequencer.timer)) = some (.closedRest, 0, none) := by decide +kernel

theorem test_loadSettings : (next (.loadSettings 1 9 [3]) staged).map (fun t => (t.image.linkBaud, t.cport.trans)) =
    some (3, .response) ∧ (next (.loadSettings 1 81 [3]) staged).map (·.cport.resp.getD 1 0) = some 4 := by decide +kernel

theorem test_start : (next .start staged).map
    (fun t => (t.cport.part, t.sequencer.st, t.link.lfsr, t.link.tx)) = some (.run, .lockout, 7, .defer) ∧
    (next .start staged).map (fun t => (t.link.table.map (·.address), t.blk.table.map (·.key.source))) =
      some ([4, 9, 12], [.self]) := by decide +kernel
/-- The neighbours heard in CONFIG: the own address goes, 9 is pinned and keeps what it announced, whose demand no longer
counts, so PROF follows with a notice between STARTED and SEQ_STATE. -/
def overheard : State := withLink (fun l => { l with
  table := [entryOf 7, { entryOf 9 with ownDemand := .elevated }, entryOf 30] })
  (withProf (fun p => { p with peer := .elevated, target := .elevated, effective := .elevated }) staged)

theorem test_start_pins : (next .start overheard).map (fun t => t.link.table) = some
    [{ entryOf 9 with ownDemand := .elevated, relation := .down, pinned := true, status := .lost }, entryOf 30,
     pinnedEntry image 4 .up, pinnedEntry image 12 .down] := by decide +kernel
theorem test_start_notices : (next .start overheard).map (fun t => t.cport.notices.map (·.kind)) =
    some [.started, .profileChanged, .seqState] := by decide +kernel
theorem test_start_refused : (next .start State.reset).map (fun t => t.cport.resp) =
    some (responseBytes (statusByte State.reset) .refusedRange [1, 255]) := by decide +kernel

/-- IN0 goes over to CYCLIC: the confirmed level stays, the static run goes (R44). -/
theorem test_loadSettings_mode : (next (.loadSettings 1 67 [1])
    { staged with
      fin := { staged.fin with
        inputs := [{ confirmed := some true, run := 2, prev := some false, pend := none }] } }).map
    (fun t => t.fin.inputs) = some [{ confirmed := some true, run := 0, prev := none, pend := none }] := by
  decide +kernel

theorem test_softReset_run : (next .softReset (inState .failed live)).map
    (fun t => (t.sequencer.st, t.cport.notices.map (·.kind), t.link.tx, t.link.slots.beacon, t.fin.healthy)) =
      some (.closedRest, [.restarted], .defer, true, true) := by decide +kernel
theorem test_softReset_config : (next .softReset { staged with now := 7 }).map
    (fun t => (t.now, t.meas.staleSince, t.fin.nextPeriodAt, t.image == image)) = some (7, 7, some 7, true) := by
  decide +kernel

theorem test_selectProfile : (next (.selectProfile 2) staged).map
    (fun t => (t.prof.port, t.prof.effective, t.cport.notices.map (·.detail2))) =
      some (.extreme, .extreme, [pair 3 1]) ∧
    (next (.selectProfile 0) (elevated live)).map
      (fun t => (t.prof.port, t.prof.effective, t.prof.relaxAt, t.handovers)) =
        some (.ordinary, .elevated, some 600000, [.framePlacement .beaconRequest]) := by decide +kernel

theorem test_tag : (next (.tag 5 2) live).map (fun t => t.blk.table) =
    some [{ key := { source := .tag, origin := 7, tag := 5 }, effect := .lock, setTime := 0, expiry := some 2000 }] := by
  decide +kernel
theorem test_tag_full : (next (.tag 5 2) (withBlk (fun b => { b with table := filled 16 }) live)).map
    (fun t => (t.blk.overflow, t.cport.resp.getD 1 0, t.cport.notices.map (fun n => (n.kind, n.detail1, n.detail2)))) =
      some (true, 6, [(.blockOverflow, pair 1 7, 5)]) := by decide +kernel

theorem test_untag : (next (.untag 5) (withBlk (fun b => { b with table := [record .tag 7 5 .lock] }) live)).map
    (fun t => (t.blk.table, t.cport.resp.getD 1 9)) = some ([], 0) ∧
    (next (.untag 5) live).map (fun t => t.cport.resp.getD 1 9) = some 2 := by decide +kernel

/-- In DEAD_HOLD the removal of the last record starts a close. -/
theorem test_unblock : (next (.unblock 3 9 5)
    (withPosition .opened (withBlk (fun b => { b with table := [record .watch 9 5 .hold] }) (inState .deadHold live)))).map
      (fun t => (t.blk.table, t.sequencer.st)) = some ([], .closing) := by decide +kernel
theorem test_unblock_range : (next (.unblock 2 7 5) live).map (fun t => t.cport.resp.getD 1 9) = some 4 := by
  decide +kernel

theorem test_clearOverflow : (next .clearOverflow (withBlk (fun b => { b with overflow := true }) live)).map
    (fun t => (t.blk.overflow, t.cport.resp.getD 1 9)) = some (false, 0) := by decide +kernel

def operand : WatchOperand where
  station := 9
  kind := 5
  substate := 7
  mode := 1
  action1 := 1
  action2 := 0
  blockTag := 3
  effect := 1
  duration := 2
  tagA := 65
  tagB := 66

def watch : Watch where
  station := 9
  kind := .state
  substate := 7
  mode := .once
  action1 := .placeBlock
  action2 := .none
  blockTag := 3
  effect := 1
  duration := 2
  tagA := 65
  tagB := 66

theorem test_bookWatch : (next (.bookWatch operand) live).map (fun t => (t.blk.watches, t.cport.resp.getD 1 9)) =
    some ([watch], 0) := by decide +kernel
theorem test_bookWatch_own : (next (.bookWatch { operand with station := 7 }) live).map (fun t => t.cport.resp.getD 1 9) =
    some 4 := by decide +kernel

theorem test_unbookWatch : (next (.unbookWatch 9 5 7) (withBlk (fun b => { b with watches := [watch] }) live)).map
    (fun t => (t.blk.watches, t.cport.resp.getD 1 9)) = some ([], 0) := by decide +kernel

theorem test_manualOpen : (next .manualOpen live).map
    (fun t => (t.sequencer.st, t.sequencer.lastCause, t.sequencer.shot, t.sequencer.noReclose)) =
      some (.tripping, .manual, 0, true) := by decide +kernel

theorem test_manualClose : (next .manualClose (withPosition .opened (inState .lockout live))).map
    (fun t => (t.sequencer.st, t.sequencer.shot, t.sequencer.manualClose)) = some (.closing, 0, true) := by decide +kernel
theorem test_manualClose_tagged :
    (next .manualClose (withBlk (fun b => { b with table := [record .tag 7 5 .lock] }) (inState .lockout live))).map
      (fun t => t.cport.resp.getD 1 9) = some 7 := by decide +kernel

theorem test_resetFail : (next .resetFail (inState .failed live)).map (fun t => (t.sequencer.st, t.fin.healthy)) =
    some (.closedRest, true) := by decide +kernel

theorem test_startHunt : (next .startHunt (elevated live)).map
    (fun t => (t.hunt.phase, t.hunt.round, t.hunt.deadlineAt)) =
      some (.capture, some { caller := 7, seqNo := 0 }, some 600) ∧
    (next .startHunt (elevated live)).map (fun t => (t.blk.table.map (·.key.source), t.handovers)) =
      some ([.hunt], [.framePlacement (.owned (.huntCall 0))]) := by decide +kernel

theorem test_snapshotRequest : (next .snapshotRequest live).map (fun t => (t.meas.snapState, t.cport.resp.getD 0 0)) =
    some (.pending, 0x91) := by decide +kernel

theorem test_snapshotRead : (next .snapshotRead live).map (fun t => t.cport.resp.getD 2 9) = some 0 := by decide +kernel

def someNotice : Notice := note .trip 7 1 1 live

theorem test_readNotice : (next .readNotice (withPort (fun c => { c with notices := [someNotice], attn := true }) live)).map
    (fun t => (t.cport.notices, t.cport.attn, t.cport.resp.getD 2 0)) = some ([], false, 14) := by decide +kernel

theorem test_readTable : (next (.readTable 1 1 1) live).map (fun t => (t.cport.resp.length, t.cport.resp.getD 3 0,
    t.cport.resp.getD 21 0)) = some (23, 9, 1) := by decide +kernel

theorem test_readStatus : (next .readStatus live).map (fun t => (t.cport.resp.length, t.cport.resp.getD 2 0)) =
    some (37, 33) := by decide +kernel

theorem test_commandRejected : (next (.commandRejected 0x72 0 [] 0) live).map (fun t => t.cport.resp.getD 1 0) = some 10 ∧
    (next (.commandRejected 0 0 [] (crc8 0xFF [0, 0])) live).map (fun t => t.cport.resp.getD 1 0) = some 11 := by
  decide +kernel

theorem test_transactionBegin : (next .transactionBegin live).map (fun t => (t.cport.trans, t.cport.pdo)) =
    some (.command, some 0xFF) := by decide +kernel

theorem test_transactionEnd : (next .transactionEnd live).map (fun t => (t.cport.trans, t.cport.pdo)) =
    some (.deselected, none) := by decide +kernel

/-- A whole READ STATUS, byte by byte, is answered; a length above 24 is discarded. -/
theorem test_commandByteTaken :
    ((next .transactionBegin live).bind (fun s => (next (.commandByteTaken 0x72) s).bind (fun s =>
      (next (.commandByteTaken 0) s).bind (next (.commandByteTaken (crc8 0xFF [0x72, 0])))))).map
        (fun t => (t.cport.trans, t.cport.resp.length)) = some (.response, 37) := by decide +kernel
theorem test_commandByteTaken_discard :
    (next (.commandByteTaken 25) (withPort (fun c => { c with trans := .command, rxBuf := [0x10] }) live)).map
      (fun t => t.cport.trans) = some .discard := by decide +kernel

theorem test_powerOnReset : next (.powerOnReset .supplyRise) live = some State.reset := by decide +kernel

theorem test_resetnRelease : next .resetnRelease { State.reset with resetHeld := true } = some State.reset := by
  decide +kernel

theorem test_blockRecordExpiry : (next (.blockRecordExpiry (tagKey live 5))
    (withBlk (fun b => { b with table := [{ record .tag 7 5 .lock with expiry := some 2000 }] }) live)).map
      (fun t => (t.now, t.blk.table)) = some (2000, []) := by decide +kernel

def openState : FrameBody := .owned (.state { st := .lockout, pos := .opened, shot := 1 })

theorem test_watchFrameMatch : (next (.watchFrameMatch 9 openState) (withBlk (fun b => { b with watches := [watch] }) live)).map
    (fun t => (t.blk.table.map (·.key), t.blk.watches, t.cport.notices.map (fun n => (n.kind, n.tagA)))) =
      some ([{ source := .watch, origin := 9, tag := 3 }], [], [(.watchMatch, 65)]) := by decide +kernel

theorem test_relaxTimerExpiry : (next .relaxTimerExpiry
    (withProf (fun p => { p with effective := .extreme, relax := .timing, relaxAt := some 600000 }) live)).map
      (fun t => (t.prof.effective, t.prof.relax, t.handovers)) =
        some (.ordinary, .none, [.framePlacement .beaconRequest]) := by decide +kernel

/-- The bytes of a STATE frame from station 9, without its sync bytes. -/
def stateBytes : List Byte := (frameBytes 0x1234#16 9 true 1 openState).drop 2

theorem test_linkFrameReceived : (next (.linkFrameReceived stateBytes) live).map
    (fun t => ((findNeighbour 9 t.link.table).map (fun e => (e.status, e.lastSol, e.pos)), t.handovers)) =
      some (some (.fresh, some 1, .opened),
        [.stateFrameReceived 9 { st := .lockout, pos := .opened, shot := 1 }, .watchFrameMatch 9 openState]) := by
  decide +kernel
theorem test_linkFrameReceived_clash : (next (.linkFrameReceived ((frameBytes 0x1234#16 7 true 1 openState).drop 2)) live).map
    (fun t => t.cport.notices.map (fun n => (n.kind, n.detail1, n.detail2))) = some [(.addressClash, 5, 1)] := by
  decide +kernel

theorem test_receiveGapTimeout : (next .receiveGapTimeout (withLink (fun l => { l with rx := .sync2 }) live)).map
    (fun t => t.link.rx) = some .hunt := by decide +kernel

def heardAt (a : Byte) : Neighbour :=
  { entryOf a with lastHeard := some 0, quietAt := some 21000, lostAt := some 41000 }

theorem test_neighbourQuietExpiry : (next (.neighbourQuietExpiry 20)
    (withLink (fun l => { l with table := [heardAt 20] }) live)).map
      (fun t => (t.now, t.link.table.map (·.status))) = some (21000, [.quiet]) := by decide +kernel

theorem test_neighbourLostExpiry : (next (.neighbourLostExpiry 20)
    (withLink (fun l => { l with table := [{ heardAt 20 with status := .quiet }] }) live)).map
      (fun t => (t.now, t.link.table.map (·.status), t.prof.peer)) = some (41000, [.lost], .ordinary) := by decide +kernel

theorem test_framePlacement : (next (.framePlacement (.owned .release)) live).map
    (fun t => (t.link.slots.restraint, t.link.tx, t.link.txTimer)) = some (some .release, .defer, some 3) := by
  decide +kernel

theorem test_carrierDetectChange :
    (next (.carrierDetectChange true) (withLink (fun l => { l with tx := .defer, txTimer := some 3 }) live)).map
      (fun t => (t.link.cd, t.link.txTimer)) = some (true, none) := by decide +kernel

theorem test_deferQuietExpiry :
    (next .deferQuietExpiry (withLink (fun l => { l with tx := .defer, txTimer := some 3 }) live)).map
      (fun t => (t.now, t.link.tx, t.link.txTimer)) = some (3, .backoff, some 15) := by decide +kernel

/-- A station in BACKOFF with a BEACON to send. -/
def waiting : State :=
  withLink (fun l => { l with tx := .backoff, txTimer := some 15, slots := { Slots.empty with beacon := true } }) live

theorem test_backoffExpiry : (next .backoffExpiry waiting).map
    (fun t => (t.link.tx, t.link.key, t.link.slots.beacon, t.link.txTimer, t.link.sending.map (·.bytes.length))) =
      some (.keyup, true, false, some 35, some 15) := by decide +kernel

theorem test_keyupExpiry : ((next .backoffExpiry waiting).bind (next .keyupExpiry)).map
    (fun t => (t.link.tx, t.link.txd.map (·.take 3))) = some (.sending, some [0x7E, 0x7E, 13]) := by decide +kernel

theorem test_sendComplete :
    ((next .backoffExpiry waiting).bind (fun s => (next .keyupExpiry s).bind (next .sendComplete))).map
      (fun t => (t.link.tx, t.link.sol, t.link.freshStart, t.link.lastSent, t.link.txTimer)) =
        some (.keydown, 2, false, some 1, some 37) := by decide +kernel

theorem test_keydownExpiry :
    (next .keydownExpiry (withLink (fun l => { l with tx := .keydown, txTimer := some 2, key := true }) live)).map
      (fun t => (t.link.tx, t.link.key)) = some (.idle, false) := by decide +kernel

theorem test_beaconTimerExpiry : (next .beaconTimerExpiry live).map
    (fun t => (t.now, t.link.slots.beacon, t.link.beaconAt)) = some (10000, true, some 20000) := by decide +kernel

def picked : RestrainInfo := { ph := true, ef := false, phh := false, tripNo := 1 }

theorem test_restrainReceived : (next (.restrainReceived 9 picked) live).map
    (fun t => t.tripco.records.map (fun r => (r.held, r.expiry))) = some [(true, some 300), (false, none)] := by
  decide +kernel

/-- Station 9 holds this station in restraint. -/
def restrained : State := { live with
  tripco := { live.tripco with
    records := live.tripco.records.map (fun r =>
      if r.address = 9 then { r with held := true, expiry := some 300 } else r) } }

theorem test_releaseReceived : (next (.releaseReceived 9) restrained).map
    (fun t => t.tripco.records.map (·.held)) = some [false, false] := by decide +kernel

theorem test_stateFrameReceived : (next (.stateFrameReceived 9 { st := .lockout, pos := .opened, shot := 1 }) restrained).map
    (fun t => t.tripco.records.map (·.held)) = some [false, false] := by decide +kernel

theorem test_tripFrameReceived : (next (.tripFrameReceived 9 { cause := .ph, shot := 1, fail10 := 20 }) live).map
    (fun t => t.tripco.records.map (fun r => (r.held, r.tripped, r.expiry))) =
      some [(true, true, some 240), (false, false, none)] := by decide +kernel

theorem test_breakerFailReceived : (next (.breakerFailReceived 9 .trip) restrained).map
    (fun t => (t.tripco.records.map (·.held), t.elem.waiver)) = some ([false, false], true) := by decide +kernel

theorem test_restraintExpiry : (next (.restraintExpiry 9) restrained).map
    (fun t => (t.now, t.tripco.records.map (·.held))) = some (300, [false, false]) := by decide +kernel

theorem test_refreshTimerExpiry : (next .refreshTimerExpiry
    { live with tripco := { live.tripco with restraining := true, refreshAt := some 100 }, elem := { live.elem with pickedPh := true } }).map
      (fun t => (t.tripco.refreshAt, t.handovers)) =
        some (some 200, [.framePlacement (.owned (.restrain picked))]) := by decide +kernel

theorem test_huntCallReceived : (next (.huntCallReceived 9 3) (elevated live)).map
    (fun t => (t.hunt.phase, t.hunt.round, t.blk.table.map (·.key.origin))) =
      some (.capture, some { caller := 9, seqNo := 3 }, [9]) := by decide +kernel

def report : ReportInfo :=
  { round := { caller := 9, seqNo := 3 }, mag := 900, dir := .forward, isOpen := false, incomplete := false }

def inPhase (p : HuntPhase) (s : State) : State :=
  withHunt (fun h => { h with phase := p, round := some { caller := 9, seqNo := 3 } }) s

theorem test_huntReportReceived : (next (.huntReportReceived 9 report) (inPhase .collect live)).map
    (fun t => t.hunt.table.map (fun r => (r.station, r.relation, r.mag, r.crossed))) = some [(9, .down, 900, false)] := by
  decide +kernel

theorem test_huntVerdictReceived :
    (next (.huntVerdictReceived 9 { caller := 9, seqNo := 3 }) (inPhase .collect live)).map (fun t => t.hunt.heardOwner) =
      some (some 9) := by decide +kernel

/-- A round in COLLECT in which this station saw the fault, its neighbours 9 and 12 having sent no report. -/
def judged : State := withHunt (fun h => { h with
  ownReport := some { mag := 900, dir := .forward, isOpen := false, incomplete := false }
  deadlineAt := some 600 }) (inPhase .collect (elevated live))

theorem test_roundDeadlineExpiry : (next .roundDeadlineExpiry judged).map
    (fun t => (t.hunt.verdict, t.hunt.phase, t.hunt.cooldownAt, t.handovers)) =
      some (.uncertain, .cooldown, some 5600, []) := by decide +kernel
theorem test_roundDeadlineExpiry_owner : (next .roundDeadlineExpiry
    (withLink (fun l => { l with table := l.table.map (fun e => { e with pos := .opened }) }) judged)).map
      (fun t => (t.hunt.verdict, t.handovers)) = some (.owner,
        [.framePlacement (.owned (.huntVerdict { caller := 9, seqNo := 3 })), .tripRequest .huntOwner]) := by decide +kernel

/-- The deadline in CAPTURE: the report is placed, the notice says NOT_INVOLVED, and the HUNT record goes. -/
theorem test_roundDeadlineExpiry_capture : (next .roundDeadlineExpiry
    (withHunt (fun h => { h with deadlineAt := some 600, heardOwner := some 5 })
      (withBlk (fun b => { b with table := [record .hunt 9 3 .hold] }) (inPhase .capture live)))).map
    (fun t => (t.blk.table, t.handovers.length, t.cport.notices.map (fun n => (n.kind, n.detail1, n.detail2)))) =
    some ([], 1, [(.huntVerdict, pair 3 4, pair 5 0)]) := by decide +kernel

theorem test_cooldownExpiry : (next .cooldownExpiry
    (withHunt (fun h => { h with phase := .cooldown, cooldownAt := some 5600 }) live)).map
      (fun t => (t.now, t.hunt.phase)) = some (5600, .idle) := by decide +kernel

theorem test_rxdByteCompleted : (next (.rxdByteCompleted 6 true) (withLink (fun l => { l with rx := .sync2 }) live)).map
    (fun t => t.link.rx) = some (.body 6 [6]) := by decide +kernel

/-! ### Steps -/

/-- The queue goes before the part's own events, and these before the count. -/
theorem test_step : (match step { live with pending := [.transactionBegin], handovers := [.releaseReceived 9] } with
    | .next t => some (t.pending, t.handovers.length, t.cport.trans)
    | _ => none) = some ([], 1, .command) ∧
    (match step { live with handovers := [.releaseReceived 9] } with
    | .next t => some (t.handovers, t.now)
    | _ => none) = some ([], 0) := by decide +kernel

/-- The state after a step, if it is a next state. -/
def stepped (s : Option State) : Option State :=
  s.bind (fun s => match step s with
    | .next t => some t
    | _ => none)

/-- After reset the first step starts a sense period, the second takes a sample, the third lets a millisecond pass. -/
theorem test_step_reset : (Nat.repeat stepped 2 (some State.reset)).map
      (fun t => (t.fin.sense.pulseEndAt, t.fin.sense.staticAt, t.now)) = some (some 2, 1, 0) ∧
    (Nat.repeat stepped 3 (some State.reset)).map (·.now) = some 1 := by decide +kernel

/-! ### The hypotheses of the statements can be met: one witness for each clause -/

/-- A state in which nothing is due. -/
def quiet : State := sensing none 1 { live with fin := { live.fin with nextPeriodAt := some 50 } }

def held : State := { State.reset with resetHeld := true }

theorem witness_StepRunsTheCommandInFront :
    ({ live with pending := [.start] } : State).pending = .start :: [] ∧
    (live.pending = [] ∧ ownEvent live = some .sensePeriodStart) ∧
    (quiet.pending = [] ∧ ownEvent quiet = none ∧ quiet.resetHeld = false) ∧
    (held.pending = [] ∧ held.resetHeld = true) := by decide +kernel

theorem not_dueNow {s : State} {timer : Option Ms} (h : due s.now timer = false) : ¬ DueNow s timer := by
  rintro ⟨t, rfl, ht⟩
  simp only [due, reached, decide_eq_false_iff_not] at h
  exact h ht

/-- In `quiet` no timer has run out, that of no record or entry either. -/
theorem quiet_timers :
    ((due quiet.now quiet.meas.silenceAt = false ∧ due quiet.now quiet.fin.nextPeriodAt = false ∧
      due quiet.now (some quiet.fin.sense.staticAt) = false ∧ due quiet.now quiet.fin.sense.pulseEndAt = false ∧
      due quiet.now quiet.fin.discAt = false ∧ due quiet.now quiet.sequencer.timer = false) ∧
     (due quiet.now quiet.prof.relaxAt = false ∧ due quiet.now quiet.link.txTimer = false ∧
      due quiet.now quiet.link.beaconAt = false ∧ due quiet.now quiet.tripco.refreshAt = false ∧
      due quiet.now quiet.hunt.deadlineAt = false ∧ due quiet.now quiet.hunt.cooldownAt = false)) ∧
    (∀ r ∈ quiet.blk.table, due quiet.now r.expiry = false) ∧
    (∀ n ∈ quiet.link.table, due quiet.now n.quietAt = false ∧ due quiet.now n.lostAt = false) ∧
    (∀ r ∈ quiet.tripco.records, due quiet.now r.expiry = false) := by decide +kernel

theorem witness_StepRunsTheCommandInFront_none (e : Instr) : ¬ Expires quiet e := by
  obtain ⟨⟨⟨q1, q2, q3, q4, q5, q6⟩, q7, q8, q9, q10, q11, q12⟩, blocks, neighbours, records⟩ := quiet_timers
  rintro (⟨-, h⟩ | ⟨-, h⟩ | ⟨-, h⟩ | ⟨-, h⟩ | ⟨-, h⟩ | ⟨-, h⟩ | ⟨r, hr, -, h⟩ | ⟨-, h⟩ |
    ⟨n, hn, ⟨-, -, h⟩ | ⟨-, -, h⟩⟩ | ⟨-, h⟩ | ⟨-, h⟩ | ⟨r, hr, -, -, h⟩ | ⟨-, h⟩ | ⟨-, h⟩ | ⟨-, h⟩)
  · exact not_dueNow q1 h
  · exact not_dueNow q2 h
  · exact not_dueNow q3 h
  · exact not_dueNow q4 h
  · exact not_dueNow q5 h
  · exact not_dueNow q6 h
  · exact not_dueNow (blocks r hr) h
  · exact not_dueNow q7 h
  · exact not_dueNow (neighbours n hn).1 h
  · exact not_dueNow (neighbours n hn).2 h
  · exact not_dueNow q8 h
  · exact not_dueNow q9 h
  · exact not_dueNow (records r hr) h
  · exact not_dueNow q10 h
  · exact not_dueNow q11 h
  · exact not_dueNow q12 h

theorem witness_StepRunsTheCommandInFront_due :
    (live.handovers = [] ∧ due live.now live.fin.nextPeriodAt = true) ∧
    ({ live with handovers := [.tripRequest .ph] } : State).handovers = .tripRequest .ph :: [] ∧
    quiet.handovers = [] := by decide +kernel

theorem dueNow_of_due {s : State} {timer : Option Ms} (h : due s.now timer = true) : DueNow s timer := by
  cases timer with
  | none => cases h
  | some t => exact ⟨t, rfl, of_decide_eq_true h⟩

theorem witness_StepRunsTheCommandInFront_expires : Expires live .sensePeriodStart :=
  .inr (.inl ⟨rfl, dueNow_of_due witness_StepRunsTheCommandInFront_due.1.2⟩)

theorem witness_HeldResetAndStoppedTimersDoNothing :
    (held.resetHeld = true ∧ (∀ k, Instr.start ≠ .powerOnReset k) ∧ Instr.start ≠ .resetnRelease) ∧
    ({ live with fin := { live.fin with nextPeriodAt := none } } : State).fin.nextPeriodAt = none ∧
    State.reset.link.txTimer = none ∧ State.reset.link.tx ≠ .defer ∧ State.reset.link.tx ≠ .backoff ∧
    State.reset.link.tx ≠ .keyup ∧ State.reset.link.tx ≠ .keydown ∧
    State.reset.meas.silenceAt = none ∧ State.reset.fin.discAt = none ∧ State.reset.sequencer.st ≠ .tripping ∧
    State.reset.sequencer.st ≠ .deadTime ∧ State.reset.sequencer.st ≠ .deadHold ∧
    State.reset.sequencer.st ≠ .closing ∧ State.reset.sequencer.st ≠ .reclaim ∧ State.reset.prof.relaxAt = none ∧
    State.reset.link.beaconAt = none ∧ State.reset.tripco.refreshAt = none ∧ State.reset.hunt.deadlineAt = none ∧
    State.reset.hunt.cooldownAt = none :=
  ⟨⟨rfl, nofun, nofun⟩, by decide +kernel⟩

/-- A sample frame of zeros at a position, with its check byte. -/
def zeroFrame (p : Byte) : List Byte := [p] ++ List.replicate 14 0 ++ [crc8 0 ([p] ++ List.replicate 14 0)]

/-- What a frame passes (R1). -/
def passesR1 (bytes : List Byte) (extraBits : Nat) : Prop :=
  bytes.length = 16 ∧ extraBits = 0 ∧ bytes.getD 15 0 = crc8 0 (bytes.take 15) ∧ (bytes.getD 0 0).toNat < 32

theorem witness_SampleFramesAreCheckedAndRead :
    passesR1 (zeroFrame 0) 0 ∧ passesR1 (zeroFrame 31) 0 ∧ ¬ passesR1 (zeroFrame 32) 0 ∧
    ¬ passesR1 (zeroFrame 31) 1 ∧ ¬ passesR1 ((zeroFrame 31).drop 1) 0 ∧ ¬ passesR1 ((zeroFrame 0).take 15 ++ [1]) 0 := by
  delta passesR1; decide +kernel

def zero : Sample := { ia := 0, ib := 0, ic := 0, is := 0, va := 0, vb := 0, vc := 0 }

/-- A partial cycle of `n` samples. -/
def assembling (n : Nat) (s : State) : State :=
  withMeas (fun m => { m with assembly := .assembling (List.replicate n zero) }) s

theorem witness_AcceptedSamplesJoinTheCycle :
    live.resetHeld = false ∧ readSampleFrame (zeroFrame 0) 0 = some (0, zero) ∧
    readSampleFrame (zeroFrame 1) 0 = some (1, zero) ∧ readSampleFrame (zeroFrame 30) 0 = some (30, zero) ∧
    live.meas.assembly = .waiting ∧ (assembling 1 live).meas.assembly = .assembling (List.replicate 1 zero) ∧
    (assembling 30 live).meas.assembly = .assembling (List.replicate 30 zero) := by decide +kernel

theorem witness_PartialCyclesAreLost :
    (∀ k ∈ [0, 1, 2, 255],
      let s := withMeas (fun m => { m with lossCount := k, snapState := .pending }) (assembling 3 live)
      s.resetHeld = false ∧ s.meas.assembly = .assembling (List.replicate 3 zero) ∧ s.meas.status = .fresh ∧
        s.meas.snapState = .pending) ∧
    (assembling 3 State.reset).meas.status = .stale ∧ (assembling 3 State.reset).meas.snapState ≠ .pending ∧
    readSampleFrame (zeroFrame 0) 0 = some (0, zero) ∧ readSampleFrame (zeroFrame 31) 0 = some (31, zero) ∧
    live.isRun = true ∧ live.meas.assembly = .waiting ∧
    (let s := withMeas (fun m => { m with status := .fresh, lossCount := 2 }) (assembling 3 State.reset)
     s.isRun = false ∧ s.meas.status = .fresh ∧ 3 ≤ s.meas.lossCount + 1) ∧
    (∀ s ∈ [live, State.reset], (withMeas (fun m => { m with silenceAt := some 10 }) s).meas.silenceAt = some 10) := by
  decide +kernel

theorem witness_PositionThirtyOneCompletesTheCycle :
    readSampleFrame (zeroFrame 31) 0 = some (31, zero) ∧ (List.replicate 31 zero).length = 31 ∧
    (∀ s ∈ [live, State.reset],
      (assembling 31 s).resetHeld = false ∧
        (assembling 31 s).meas.assembly = .assembling (List.replicate 31 zero)) ∧
    live.isRun = true ∧ State.reset.isRun = false ∧ live.meas.status = .fresh ∧ State.reset.meas.status = .stale ∧
    live.meas.snapState ≠ .pending ∧ live.sequencer.st ≠ .deadHold ∧ noRelaxDue (inState .deadHold live) ∧
    (withMeas (fun m => { m with snapState := .pending }) live).meas.snapState = .pending := by
  delta noRelaxDue; decide +kernel

theorem witness_CycleArithmetic :
    (∀ l ∈ [List.replicate 32 (32767 : Int), List.replicate 32 (-32767), List.replicate 32 0],
      l.length = 32 ∧ ∀ x ∈ l, -32767 ≤ x ∧ x ≤ 32767) := by decide +kernel

def someSnapshot : Snapshot := snapshotOf live.sequencer live

theorem witness_SnapshotCommands :
    (withMeas (fun m => { m with snapState := .pending }) live).meas.snapState = .pending ∧
    live.meas.snapState ≠ .pending ∧ live.meas.snapState ≠ .valid ∧
    (let s := withMeas (fun m => { m with snapState := .valid, snapshot := some someSnapshot }) live
     s.resetHeld = false ∧ s.meas.snapState = .valid ∧ s.meas.snapshot = some someSnapshot) := by decide +kernel

/-- The three ranges of the multiple do not overlap, and each table entry is an end of two segments. -/
theorem witness_InverseTimeElementStep :
    (255 < 256 ∧ 256 ≤ 256 ∧ 268 ≤ 268 ∧ 269 ≤ 269 ∧ (16777216 : Nat) ≤ 16777216) ∧
    (stepAccumulator 0 50 1000 268 5 = 5 ∧ stepAccumulator 0 50 1000 269 5 ≠ 5) ∧
    (curveQ.getD 0 0 < curveQ.getD 1 0 ∧ curveQ.getD 8 0 < 10240 ∧ 10240 ≤ curveQ.getD 9 0) := by decide +kernel

def confirmed (level : Bool) : InputState := { InputState.reset with confirmed := some level }

theorem witness_InputsAreConfirmed :
    (∀ level : Bool, (confirmed (!level)).confirmed = some (!level) ∧ (confirmed (!level)).run = 0 ∧
      (confirmed level).confirmed = some level ∧ (confirmed level).pend = none ∧
      ({ confirmed level with pend := some (!level) } : InputState).pend = some (!level) ∧
      ({ InputState.reset with pend := some level } : InputState).confirmed = none ∧
      InputState.reset.pend ≠ some level ∧ InputState.reset.confirmed = none ∧
      InputState.reset.prev ≠ some level ∧
      (∀ n ∈ [2, 3], ({ InputState.reset with prev := some level, run := n } : InputState).prev = some level)) := by
  decide +kernel

/-- Inputs whose next sample of the other level is confirmed. -/
def nearlyOpen : State := { live with fin := { live.fin with inputs :=
  [{ confirmed true with run := 3 }, { confirmed false with run := 3 }] ++ List.replicate 6 (confirmed false) } }

/-- The same, the other way round. -/
def nearlyClosed : State := { live with fin := { live.fin with inputs :=
  [{ confirmed false with run := 3 }, { confirmed true with run := 3 }] ++ List.replicate 6 (confirmed false) } }

/-- BKR_A is CYCLIC. -/
def cyclicImage : Image := { image with areaS := image.areaS.set 67 1 }

theorem witness_InputSamplesAreTaken :
    (∀ s ∈ [live, nearlyOpen, nearlyClosed], s.resetHeld = false ∧ s.fin.inputs.length = 8) ∧
    (next (.staticSample 2) nearlyOpen).map (fun t => (t.input 0, t.input 1)) = some (some false, some true) ∧
    (next (.staticSample 1) nearlyClosed).map (fun t => (t.input 0, t.input 1)) = some (some true, some false) ∧
    (next (.staticSample 1) nearlyOpen).map (fun t => decide (∀ n < 8, t.input n = nearlyOpen.input n)) = some true ∧
    (next (.cyclicSample 0) live).map (fun t => decide (∀ n < 8, t.input n = live.input n)) = some true ∧
    sensedStatic image false 0 = true ∧ sensedStatic cyclicImage false 0 = false ∧
    sensedStatic cyclicImage true 0 = true := by decide +kernel

/-- The samples of the other row were taken along at this instant. -/
def absorbed (row : SampleRow) : State :=
  { live with fin := { live.fin with sense := { live.fin.sense with along := some (row, 0) } } }

/-- The other row's samples are due, or are not; and every effect of a level confirmed anew occurs. -/
theorem witness_InputSamplesAreTaken_rows :
    (∀ row ∈ [SampleRow.static, .cyclic], (absorbed row).fin.sense.along = some (row, (absorbed row).now)) ∧
    live.fin.sense.along = none ∧ live.fin.sense.pulseEndAt = none ∧
    (∀ s ∈ [mixed, sensing (some 2) 1 live], s.fin.sense.pulseEndAt = some 2) ∧
    (reached (mixed.arriveAt mixed.fin.sense.staticAt).now 2 = true ∧
      reached ((sensing (some 2) 1 live).arriveAt 1).now 2 = false ∧
      reached (mixed.arriveAt 2).now mixed.fin.sense.staticAt = true ∧
      reached ((sensing (some 2) 3 live).arriveAt 2).now 3 = false) ∧
    (Nat.repeat (·.bind (next (.staticSample 0xE7))) 4 (some live)).map
      (fun t => (t.blk.table.map (·.key.tag), t.cport.notices.length)) = some ([2, 5], 6) ∧
    (Nat.repeat (·.bind (next (.staticSample 0xFF))) 4 (some staged)).map
      (fun t => (t.fin.fieldDemand, t.prof.effective, t.cport.notices.length)) = some (.extreme, .extreme, 7) := by
  decide +kernel

theorem witness_SensePeriodsAndDiscrepancy :
    live.resetHeld = false ∧ live.fin.nextPeriodAt = some 0 ∧
    ({ live with fin := { live.fin with discrepancy := true, discAt := some 100 } } : State).fin.discAt = some 100 := by
  decide +kernel

/-! SEQ -/

/-- The states in which a trip request is taken, with the breaker at a position and a shot count. -/
def ready (st : SeqState) (p : Position) (shot : Nat) : State :=
  let s := withPosition p (inState st live)
  { s with sequencer := { s.sequencer with shot := shot } }

theorem witness_ProtectiveTripRequests :
    (∀ st ∈ [SeqState.closedRest, .reclaim, .closing], ∀ p ∈ [Position.closed, .unknown], ∀ n ∈ [0, 3, 4],
      (ready st p n).resetHeld = false ∧ takesRequest (ready st p n) ∧ (ready st p n).fin.position ≠ .opened) ∧
    finalTrip .ph (ready .reclaim .closed 4) ∧ ¬ finalTrip .ph (ready .reclaim .closed 3) ∧
    lockedTrip .sef (elevated (ready .reclaim .closed 1)) ∧ ¬ lockedTrip .ph live ∧ noEpisode live ∧
    (∀ st ∈ [SeqState.dormant, .tripping, .deadTime, .deadHold, .lockout, .opened, .failed],
      ¬ takesRequest (inState st live)) := by
  delta takesRequest finalTrip lockedTrip noEpisode; decide +kernel

/-- The shot limit of the ordinary profile is 3: a fourth trip is final, and one above a lower limit ends too. -/
theorem witness_TripMeetsAnOpenBreaker :
    (∀ n ∈ [0, 2, 3, 4], (ready .closing .opened n).resetHeld = false ∧ takesRequest (ready .closing .opened n) ∧
      (ready .closing .opened n).fin.position = .opened) ∧
    finalTrip .ph (ready .closing .opened 4) ∧
    (¬ finalTrip .ph (ready .closing .opened 3) ∧ (ready .closing .opened 3).shotLimit < min (3 + 1) 4) ∧
    (¬ finalTrip .ph (ready .closing .opened 2) ∧ min (2 + 1) 4 ≤ (ready .closing .opened 2).shotLimit) ∧
    lockedTrip .sef (elevated (ready .closing .opened 1)) ∧ noRelaxDue (elevated (ready .closing .opened 1)) ∧
    ¬ lockedTrip .ph (ready .closing .opened 4) ∧ noEpisode (ready .closing .opened 4) ∧
    noRelaxDue (ready .closing .opened 4) := by
  delta takesRequest finalTrip lockedTrip noEpisode noRelaxDue; decide +kernel

def noReclose (s : State) : State := { s with sequencer := { s.sequencer with noReclose := true } }

theorem witness_SequencerTakesPositionChanges :
    (let s := ready .tripping .opened 1
     s.sequencer.st = .tripping ∧ s.fin.position = .opened ∧ s.sequencer.noReclose = false ∧
      s.sequencer.shot ≤ s.shotLimit ∧ (noReclose s).sequencer.noReclose = true ∧ noEpisode s ∧ noRelaxDue s) ∧
    (ready .tripping .opened 4).shotLimit < (ready .tripping .opened 4).sequencer.shot ∧
    (∀ st ∈ [SeqState.dormant, .closedRest, .tripping, .deadTime, .deadHold, .closing, .reclaim, .lockout, .opened, .failed],
      ∀ p ∈ [Position.unknown, .closed, .opened],
        (ready st p 1).sequencer.st = st ∧ (ready st p 1).fin.position = p) := by
  delta noEpisode noRelaxDue; decide +kernel

theorem witness_CoilOperationsFail :
    ∀ st ∈ [SeqState.tripping, .closing], (inState st live).resetHeld = false ∧
      (inState st live).sequencer.timer = some 5 ∧ (inState st live).sequencer.st = st ∧
      noRelaxDue (inState st live) ∧ noEpisode (inState st live) := by
  delta noEpisode noRelaxDue; decide +kernel

/-- A relax that waits for rest. -/
def dueRelax (s : State) : State := withProf (fun p => { p with effective := .extreme, relax := .due }) s

/-- SEQ's arrival at rest completes it: PROFILE_CHANGED follows SEQ_STATE (R109). -/
theorem test_relaxCompletesAtRest :
    ∀ x ∈ [(Instr.tripFailExpiry, SeqState.tripping), (.closeFailExpiry, .closing), (.holdMaxExpiry, .deadHold),
        (.reclaimExpiry, .reclaim), (.manualOpen, .deadTime)],
      (next x.1 (dueRelax (inState x.2 live))).map (fun t =>
        ((t.cport.notices.map (·.kind)).reverse.take 2, t.prof.effective, t.prof.relax)) =
          some ([.profileChanged, .seqState], .ordinary, .none) := by decide +kernel

theorem witness_RestTaken : (dueRelax live).prof.relax = .due ∧ Rests (dueRelax live) ∧ ¬ noRelaxDue (dueRelax live) ∧
    ¬ Rests (dueRelax (inState .reclaim live)) := by
  delta Rests noRelaxDue; decide +kernel

theorem witness_SequenceTimersExpire :
    (∀ st ∈ [SeqState.deadTime, .deadHold, .reclaim], (inState st live).resetHeld = false ∧
      (inState st live).sequencer.timer = some 5 ∧ (inState st live).sequencer.st = st ∧
      noRelaxDue (inState st live) ∧ noEpisode (inState st live)) ∧
    (let s := inState .deadTime live
     ¬ tableLocks s ∧ s.blk.table = [] ∧ s.fin.position = .closed ∧
      (withPosition .opened s).fin.position ≠ .closed ∧
      tableLocks (withBlk (fun b => { b with overflow := true }) s) ∧
      tableLocks (withBlk (fun b => { b with table := [record .tag 7 5 .lock] }) s) ∧
      ¬ tableLocks (withBlk (fun b => { b with table := [record .field 7 2 .hold] }) s)) := by
  delta noEpisode noRelaxDue tableLocks; decide +kernel

/-! BLK -/

theorem witness_TagPlacesARecord :
    staged.isRun = false ∧ live.isRun = true ∧ live.resetHeld = false ∧
    (let s := withBlk (fun b => { b with table := [record .tag 7 5 .lock] }) live
     hasKey (tagKey s 5) s.blk.table = true ∧ hasKey (tagKey s 6) s.blk.table = false ∧ s.blk.table.length < 16) ∧
    (let s := withBlk (fun b => { b with table := filled 15 }) live
     hasKey (tagKey s 5) s.blk.table = false ∧ s.blk.table.length < 16) ∧
    (let s := withBlk (fun b => { b with table := filled 16 }) live
     hasKey (tagKey s 5) s.blk.table = false ∧ 16 ≤ s.blk.table.length ∧ s.blk.overflow = false ∧
      s.sequencer.st ≠ .deadHold) ∧
    (let s := withBlk (fun b => { b with table := filled 1 }) (inState .deadHold live)
     s.sequencer.st = .deadHold ∧ ¬ tableLocks s ∧ s.blk.table ≠ [] ∧
      tableLocks (withBlk (fun b => { b with overflow := true }) s)) ∧
    noRoom (tagKey live 5) (withBlk (fun b => { b with table := filled 16 }) live) ∧
    ¬ noRoom (tagKey live 5) (withBlk (fun b => { b with table := filled 15 }) live) := by
  delta tableLocks noRoom; decide +kernel

theorem witness_RecordsLeaveTheTable :
    staged.isRun = false ∧ live.isRun = true ∧
    (let s := withBlk (fun b => { b with table := [record .tag 7 5 .lock, record .watch 62 5 .hold] }) live
     s.resetHeld = false ∧ hasKey (tagKey s 5) s.blk.table = true ∧ hasKey (tagKey s 6) s.blk.table = false ∧
      hasKey { source := .watch, origin := 62, tag := 5 } s.blk.table = true ∧
      hasKey { source := .watch, origin := 1, tag := 5 } s.blk.table = false) ∧
    ((2 : Byte).toNat ≠ 1 ∧ (2 : Byte).toNat ≠ 3 ∧ (0 : Byte).toNat < 1 ∧ 62 < (63 : Byte).toNat ∧
      (1 : Byte).toNat = 1 ∧ (3 : Byte).toNat = 3 ∧ 1 ≤ (62 : Byte).toNat ∧ (62 : Byte).toNat ≤ 62) ∧
    (∀ r ∈ live.blk.table, r.key = tagKey live 5 → r.expiry = none) ∧
    (let s := withBlk (fun b => { b with table := [{ record .tag 7 5 .lock with expiry := some 2000 }] }) live
     Safety.BlockInv s ∧ ∃ r ∈ s.blk.table, r.key = tagKey live 5 ∧ r.expiry = some 2000) := by
  refine ⟨?_, ?_, ?_, ?_, ?_, by constructor <;> decide +kernel, ?_⟩ <;> decide +kernel

theorem witness_ClearOverflowClearsTheFlag :
    staged.isRun = false ∧ live.isRun = true ∧ live.resetHeld = false ∧
    (withBlk (fun b => { b with table := filled 16 }) live).blk.table.length = 16 ∧
    (withBlk (fun b => { b with table := filled 15 }) live).blk.table.length < 16 ∧ live.blk.overflow = false ∧
    (withBlk (fun b => { b with table := filled 15, overflow := true }) live).blk.overflow = true := by
  decide +kernel

/-- `n` watches of other stations. -/
def watches (n : Nat) : List Watch := (List.range n).map (fun i => { watch with station := byteOf (20 + i) })

theorem witness_WatchesAreBooked :
    (Books operand watch ∧ passesBooking operand live) ∧ live.isRun = true ∧ live.resetHeld = false ∧
    (∃ x ∈ [watch], sameWatchKey x watch) ∧
    (∀ n ∈ [0, 11, 12], ∀ x ∈ watches n, ¬ sameWatchKey x watch) ∧ (watches 11).length < 12 ∧
    (watches 12).length = 12 ∧
    (∃ x ∈ [watch], x.station = 9 ∧ kindCode x.kind = (5 : Byte).toNat ∧ x.substate = 7) := by
  delta Books passesBooking substateFits sameWatchKey; decide +kernel

/-- A payload with another kind and substate. -/
def withKind (kind substate : Byte) : WatchOperand := { operand with kind := kind, substate := substate }

theorem witness_WatchesAreBooked_substates :
    (∀ x ∈ [1, 6, 9, 255], substateFits (withKind 5 x)) ∧ (∀ x ∈ [0, 2, 5, 10], ¬ substateFits (withKind 5 x)) ∧
    (∀ x ∈ [1, 7, 255], substateFits (withKind 2 x)) ∧ (∀ x ∈ [0, 8], ¬ substateFits (withKind 2 x)) ∧
    substateFits (withKind 9 255) ∧ ¬ substateFits (withKind 9 1) := by
  delta substateFits; refine ⟨?_, ?_, ?_, ?_, ?_, ?_⟩ <;> decide +kernel

theorem witness_WatchesActOnFrames :
    (∀ w ∈ live.blk.watches, w.fits 9 openState = false) ∧
    (∀ a ∈ [WatchAction.none, .placeBlock, .removeBlock, .intertrip], ∀ m ∈ [WatchMode.once, .standing],
      let w := { watch with action1 := a, mode := m }
      [w].filter (Watch.fits 9 openState) = [w] ∧ w.action2 = .none) ∧
    (let w := { watch with substate := 255, action2 := .intertrip }
     [watch, w].filter (Watch.fits 9 openState) = [watch, w]) ∧
    blockEffectCode .hold = watch.effect.toNat ∧ live.sequencer.st ≠ .deadHold ∧
    (inState .deadHold live).sequencer.st = .deadHold ∧ watch.duration ≠ 0 ∧
    hasKey { source := .watch, origin := 9, tag := 3 } (filled 15) = false ∧ (filled 15).length < 16 ∧
    hasKey { source := .watch, origin := 9, tag := 3 } (filled 16) = false ∧ (filled 16).length = 16 ∧
    hasKey { source := .watch, origin := 9, tag := 3 } [record .watch 9 3 .hold] = true := by decide +kernel

/-! PROF -/

theorem witness_SelectProfileSetsThePortDemand :
    2 < (3 : Byte).toNat ∧ (∀ p : Profile, profileCode p = (byteOf (profileCode p)).toNat) ∧
    (live.resetHeld = false ∧ live.isRun = true ∧ State.reset.isRun = false ∧
      live.prof.target ≠ .extreme ∧ profileCode live.prof.effective < profileCode .extreme ∧
      live.sequencer.shot ≤ live.image.shotLimit .extreme) ∧
    (∀ st ∈ [SeqState.tripping, .closing, .reclaim, .lockout],
      (ready st .closed 3).image.shotLimit .extreme < (ready st .closed 3).sequencer.shot ∧
      (ready st .closed 3).sequencer.st ≠ .deadTime ∧ (ready st .closed 3).sequencer.st ≠ .deadHold) ∧
    (∀ st ∈ [SeqState.deadTime, .deadHold], (ready st .opened 3).sequencer.st = st ∧
      (ready st .opened 3).image.shotLimit .extreme < (ready st .opened 3).sequencer.shot ∧
      (ready st .opened 3).tripco.restraining = false ∧ (ready st .opened 3).elem.summary = false) ∧
    (elevated live).prof.target ≠ .ordinary ∧ profileCode .ordinary < profileCode (elevated live).prof.effective ∧
    (let s := withProf (fun p => { p with effective := .elevated, relax := .timing, relaxAt := some 5 }) live
     s.prof.target ≠ .elevated ∧ s.prof.effective = .elevated) := by
  refine ⟨by decide, fun p => by cases p <;> rfl, ?_, ?_, ?_, ?_, ?_, ?_⟩ <;> decide +kernel

def relaxing (s : State) : State :=
  withProf (fun p => { p with effective := .extreme, relax := .timing, relaxAt := some 600000 }) s

theorem witness_RelaxTimerExpires :
    (relaxing live).resetHeld = false ∧ (relaxing live).prof.relaxAt = some 600000 ∧ Rests (relaxing live) ∧
    ¬ Rests (relaxing (inState .reclaim live)) ∧ ¬ Rests (relaxing (inPhase .cooldown live)) := by
  delta Rests; decide +kernel

/-! LINK -/

def receiving (x : RxState) : State := withLink (fun l => { l with rx := x }) live

theorem witness_ReceiverTakesBytes :
    live.resetHeld = false ∧ live.link.key = false ∧ (withLink (fun l => { l with key := true }) live).link.key = true ∧
    live.link.rx = .hunt ∧ (receiving .sync1).link.rx = .sync1 ∧ (receiving .sync2).link.rx = .sync2 ∧
    (receiving (.body 6 [6, 0, 0, 0])).link.rx = .body 6 [6, 0, 0, 0] ∧ [6, 0, 0, 0].length + 1 < 6 ∧
    6 ≤ [6, 0, 0, 0, 0].length + 1 := by decide +kernel

/-- What the receiver reads from the bytes of a STATE frame of station `a` with sign-of-life `sol`. -/
def heardFrame (a : Byte) (fresh : Bool) (sol : Nat) : Option RawFrame :=
  splitFrame ((frameBytes 0x1234#16 a fresh sol openState).drop 2)

def raw (a : Byte) (fresh : Bool) (sol : Nat) : RawFrame :=
  (heardFrame a fresh sol).getD
    { checked := [], kindFlags := 0, source := 0, sol := 0, payload := [], crc := [] }

/-- Station 9 was heard with sign-of-life 1. -/
def heardOnce : State := withLink (fun l => { l with table := l.table.map (fun e =>
  if e.address = 9 then { e with status := .fresh, lastSol := some 1, lastHeard := some 0 } else e) }) live

theorem witness_LinkFramesAreAccepted :
    (∀ sol ∈ [1, 63], ∀ a ∈ ([9, 20] : List Byte), heardFrame a true sol = some (raw a true sol) ∧
      goodFrame (raw a true sol) live ∧ (raw a true sol).source ≠ live.address ∧
      (raw a true sol).body = some openState ∧ 1 ≤ (raw a true sol).sol.toNat ∧ (raw a true sol).sol.toNat ≤ 63) ∧
    (raw 9 true 1).freshStart = true ∧ (raw 9 false 2).freshStart = false ∧
    findNeighbour 9 live.link.table ≠ none ∧ findNeighbour 20 live.link.table = none ∧
    live.link.table.length < 24 ∧ (findNeighbour 9 live.link.table).map (·.lastSol) = some none ∧
    (findNeighbour 9 heardOnce.link.table).map (·.lastSol) = some (some 1) ∧
    (findNeighbour 9 live.link.table).map (fun e => (e.pinned, e.relation, e.status)) = some (true, .down, .lost) := by
  delta goodFrame; decide +kernel

theorem witness_LinkFramesAreAccepted_new : ¬ duplicates (raw 9 true 1) live ∧ ¬ duplicates (raw 9 false 2) heardOnce := by
  constructor
  · rintro ⟨h, -⟩; revert h; decide +kernel
  · rintro ⟨-, e, h, h'⟩
    have h₂ : (findNeighbour 9 heardOnce.link.table).map (·.lastSol) = some (some 1) := by decide +kernel
    have h₃ : (raw 9 false 2).source = 9 ∧ (raw 9 false 2).sol.toNat = 2 := by decide +kernel
    rw [h₃.1] at h
    rw [h, Option.map_some, h', h₃.2] at h₂
    exact absurd h₂ (by decide)

/-- An entry of station `a` last heard at `t`. -/
def heardLast (a : Nat) (t : Ms) : Neighbour := { heardAt (byteOf a) with lastHeard := some t }

/-- A full table at 10 ms: station 20 was heard at 5 ms, stations 21 to 43 at 0. -/
def crowded (pinned : Bool) : State := withLink (fun l => { l with
  table := (heardLast 20 5 :: (List.range 23).map (fun n => heardLast (21 + n) 0)).map
    (fun e => { e with pinned := pinned }) }) { live with now := 10 }

theorem witness_LinkFramesAreAccepted_full :
    findNeighbour 9 (crowded false).link.table = none ∧ (crowded false).link.table.length = 24 ∧
    ((crowded false).link.table.map (·.address)).Nodup ∧
    (crowded false).link.table = [heardLast 20 5] ++ heardLast 21 0 :: (crowded false).link.table.drop 2 ∧
    (heardLast 21 0).pinned = false ∧ silence 10 (heardLast 20 5) < silence 10 (heardLast 21 0) ∧
    (∀ y ∈ (crowded false).link.table.drop 2, silence 10 y ≤ silence 10 (heardLast 21 0)) ∧
    findNeighbour 9 (crowded true).link.table = none ∧ (crowded true).link.table.length = 24 ∧
    (∀ e ∈ (crowded true).link.table, e.pinned = true) := by decide +kernel

theorem witness_LinkFramesAreAccepted_demand : Safety.ProfileInv live ∧ peerDemand live = live.prof.peer :=
  ⟨by constructor <;> decide +kernel, by decide +kernel⟩

/-- A peer demand with the follow-peers flag 1: an entry that counts, one that is LOST, and with the flag 0. -/
theorem witness_peerDemands :
    (∀ p : Profile, ∃ e : Neighbour, e.status = .fresh ∧
      Safety.IsPeerDemand p (withLink (fun l => { l with table := [{ e with ownDemand := p }] }) live)) ∧
    Safety.IsPeerDemand .ordinary (withLink (fun l => { l with
      table := [{ heardAt 20 with ownDemand := .extreme, status := .lost }] }) live) ∧
    Safety.IsPeerDemand .ordinary (withLink (fun l => { l with
      table := [{ heardAt 20 with ownDemand := .extreme }] }) State.reset) ∧
    live.image.followPeers = 1 ∧ State.reset.image.followPeers ≠ 1 := by
  refine ⟨fun p => ⟨{ heardAt 20 with status := .fresh }, rfl, ?_⟩, ?_, ?_, ?_⟩
  · cases p <;> decide +kernel
  all_goals decide +kernel

theorem witness_LinkFramesAreDiscarded :
    splitFrame [] = none ∧ heardFrame 9 true 0 = some (raw 9 true 0) ∧ goodFrame (raw 9 true 0) live ∧
    (raw 9 true 0).sol.toNat < 1 ∧ 63 < (raw 9 true 64).sol.toNat ∧ goodFrame (raw 9 true 64) live ∧
    ¬ goodFrame (raw 0 true 1) live ∧ ¬ goodFrame (raw 63 true 1) live ∧
    (goodFrame (raw 7 true 1) live ∧ (raw 7 true 1).source = live.address ∧
      live.link.lastSent ≠ some (raw 7 true 1).sol.toNat ∧
      (withLink (fun l => { l with lastSent := some 1 }) live).link.lastSent = some (raw 7 true 1).sol.toNat) := by
  delta goodFrame; decide +kernel

theorem witness_LinkFramesAreDiscarded_duplicate : duplicates (raw 9 false 1) heardOnce :=
  ⟨by decide +kernel, (findNeighbour 9 heardOnce.link.table).getD (entryOf 9), by decide +kernel, by decide +kernel⟩

/-- The part in RUN with one neighbour entry. -/
def hears (e : Neighbour) : State := withLink (fun l => { l with table := [e] }) live

def pinnedDown (st : NbrStatus) : Neighbour := { heardAt 9 with pinned := true, relation := .down, status := st }

theorem witness_NeighboursFallSilent :
    (∀ e ∈ [heardAt 20, pinnedDown .fresh, { pinnedDown .fresh with status := .quiet }],
      (hears e).resetHeld = false ∧ ((hears e).link.table.map (·.address)).Nodup ∧ e ∈ (hears e).link.table ∧
        Safety.ProfileInv (hears e)) ∧
    (pinnedDown .fresh).quietAt = some 21000 ∧ (pinnedDown .quiet).lostAt = some 41000 ∧
    (pinnedDown .fresh).status ≠ .quiet ∧ (pinnedDown .quiet).status ≠ .fresh ∧ (hears (heardAt 20)).isRun = true ∧
    (heardAt 20).pinned = false := by
  refine ⟨?_, by decide +kernel⟩
  intro e he
  simp only [List.mem_cons, List.not_mem_nil, or_false] at he
  rcases he with rfl | rfl | rfl <;>
    exact ⟨by decide +kernel, by decide +kernel, by decide +kernel, by constructor <;> decide +kernel⟩

theorem witness_PlacementsFillTheSlots :
    live.resetHeld = false ∧ live.isRun = true ∧ State.reset.isRun = false ∧ live.link.beaconAt = some 10000 := by
  decide +kernel

theorem witness_SlotsFollowPriority :
    (let x := Slots.empty.put (.breakerFail .trip)
     x.breakerFail = some .trip) ∧
    (let x := Slots.empty.put (.trip { cause := .ph, shot := 1, fail10 := 20 })
     x.breakerFail = none ∧ x.trip.isSome = true) ∧
    (let x := Slots.empty.put (.restrain picked)
     x.breakerFail = none ∧ x.trip = none ∧ x.restraint = some (.restrain picked)) ∧
    (Slots.empty.put .release).restraint = some .release ∧
    (let x := Slots.empty.put (.state { st := .lockout, pos := .opened, shot := 1 })
     x.restraint = none ∧ x.state.isSome = true) ∧
    (let x := Slots.empty.put (.huntCall 0)
     x.state = none ∧ x.huntCall = some 0) ∧
    (let x := Slots.empty.put (.huntReport report)
     x.huntCall = none ∧ x.huntReport = some report) ∧
    (let x := Slots.empty.put (.huntVerdict { caller := 9, seqNo := 3 })
     x.huntReport = none ∧ x.huntVerdict.isSome = true) ∧
    Slots.empty.huntVerdict = none ∧ Slots.empty.beacon = false ∧ ({ Slots.empty with beacon := true }).beacon = true := by
  decide +kernel

def transmitter (tx : TxState) (s : State) : State := withLink (fun l => { l with tx := tx, txTimer := some 15 }) s

/-- Draws 3, 1, 0, 0: the third draw gives an empty backoff. -/
def drawnZero : State := withLink (fun l => { l with lfsr := Nat.repeat lfsrNext 2 7 }) (transmitter .defer live)

theorem witness_TransmitterMakesAnAttempt :
    (∀ tx ∈ [TxState.defer, .backoff, .keyup], (transmitter tx live).link.txTimer = some 15 ∧
      (transmitter tx live).link.tx = tx ∧ (transmitter tx live).resetHeld = false) ∧
    (lfsrNext (transmitter .defer live).link.lfsr).toNat % 8 ≠ 0 ∧ (lfsrNext drawnZero.link.lfsr).toNat % 8 = 0 ∧
    (withLink (fun l => { l with cd := true }) waiting).link.cd = true ∧
    waiting.link.cd = false ∧ waiting.link.slots.takeFirst = some (.beaconRequest, Slots.empty) := by decide +kernel

theorem witness_CarrierDetectAndTheEndOfASend :
    live.resetHeld = false ∧ false = live.link.cd ∧ true ≠ live.link.cd ∧ live.link.tx ≠ .defer ∧
    (transmitter .defer live).link.tx = .defer ∧ (transmitter .sending live).link.tx = .sending ∧
    (let f : FixedFrame := { sol := 63, body := openState, bytes := [] }
     (withLink (fun l => { l with tx := .sending, sending := some f }) live).link.sending = some f) ∧
    live.link.tx ≠ .sending ∧ (transmitter .keydown live).link.tx = .keydown ∧
    (transmitter .keydown live).link.txTimer = some 15 ∧ (transmitter .keydown live).link.slots = Slots.empty ∧
    (transmitter .keydown waiting).link.slots ≠ Slots.empty := by decide +kernel

theorem witness_FramesAreReadBack :
    (∀ b ∈ [openState, beaconOf 1, beaconOf 60, .owned .release, .owned (.breakerFail .close),
      .owned (.trip { cause := .manual, shot := 4, fail10 := 100 }), .owned (.restrain { picked with tripNo := 5 }),
      .owned (.huntCall 255), .owned (.huntReport { report with mag := 32767, incomplete := true }),
      .owned (.huntVerdict { caller := 62, seqNo := 255 })], b.wf = true) ∧ 255 < 256 := by decide +kernel

/-! TRIPCO -/

/-- A downstream record in each of its states. -/
def recordIs (r : Restraint) : State := { live with tripco := { live.tripco with records := [r] } }

def lateRecord : Restraint := { address := 9, held := true, tripped := true, expiry := some 240, lost := false }

theorem witness_RestraintRecordsFollowFrames :
    live.resetHeld = false ∧ downstreamOf 9 live ∧ downstreamOf 12 live ∧ ¬ downstreamOf 4 live ∧
    ¬ downstreamOf 20 live := by
  delta downstreamOf; decide +kernel

theorem witness_RestraintEpisodesAndTimers :
    (∀ r ∈ live.tripco.records, r.address = 9 → r.held = false) ∧
    ((recordIs lateRecord).tripco.records.find? (fun r => (r.address == 9) && r.held) = some lateRecord ∧
      lateRecord.expiry = some 240) ∧
    (let s : State := { live with tripco := { live.tripco with restraining := true, refreshAt := some 100 } }
     s.tripco.refreshAt = some 100 ∧ s.meas.status = .fresh ∧ s.tripco.restraining = true ∧ s.elem.summary = false) ∧
    State.reset.meas.status = .stale ∧
    (let s : State := { live with elem := { live.elem with summary := true } }
     s.elem.summary = true ∧ s.sequencer.st = .closedRest ∧ s.tripco.restraining = false) := by decide +kernel

/-! HUNT -/

theorem witness_HuntRoundsOpen :
    live.resetHeld = false ∧ live.isRun = true ∧ State.reset.isRun = false ∧ live.hunt.phase = .idle ∧
    live.huntEnable = false ∧ (elevated live).huntEnable = true ∧ (elevated live).hunt.phase = .idle ∧
    ((inPhase .capture live).hunt.phase = .capture ∧
      (inPhase .capture live).hunt.round = some { caller := 9, seqNo := 3 }) ∧
    (inPhase .collect live).hunt.phase = .collect ∧ (inPhase .cooldown live).hunt.phase = .cooldown ∧
    live.sequencer.st ≠ .deadHold ∧ (withPosition .opened (elevated live)).huntEnable = true := by decide +kernel

def entryFrom (a : Byte) (rel : Relation) : HuntReport :=
  { station := a, relation := rel, mag := 900, dir := .forward, isOpen := false, incomplete := false,
    round := { caller := 9, seqNo := 3 }, crossed := false }

/-- A full hunt table: the entry of a downstream neighbour, then those of fifteen other stations. -/
def fullHunt : List HuntReport := entryFrom 12 .down :: (List.range 15).map (fun i => entryFrom (byteOf (20 + i)) .other)

def withHuntTable (l : List HuntReport) (s : State) : State := withHunt (fun h => { h with table := l }) s

theorem witness_HuntFramesAreTaken :
    (∀ p ∈ [HuntPhase.idle, .capture, .collect, .cooldown], (inPhase p live).hunt.phase = p) ∧
    (findNeighbour 20 live.link.table = none ∧ (findNeighbour 9 live.link.table).map (·.relation) = some .down) ∧
    (∃ x ∈ [entryFrom 9 .down], x.station = 9) ∧
    ((∀ x ∈ fullHunt.drop 1, x.station ≠ 9) ∧ (fullHunt.drop 1).length < 16) ∧
    (fullHunt = [entryFrom 12 .down] ++ entryFrom 20 .other :: fullHunt.drop 2 ∧ fullHunt.length = 16 ∧
      (∀ y ∈ fullHunt, y.station ≠ 9) ∧ (∀ y ∈ [entryFrom 12 .down], y.relation ≠ .other)) ∧
    (let s := withHunt (fun h => { h with verdict := .uncertain, table := [entryFrom 9 .down] }) (inPhase .cooldown live)
     s.hunt.phase = .cooldown ∧ s.hunt.verdict = .uncertain ∧ s.hunt.round = some { caller := 9, seqNo := 3 } ∧
      (∃ x ∈ s.hunt.table, x.station = 9 ∧ x.dir = .forward) ∧
      (∀ x ∈ s.hunt.table, x.station = 12 → x.dir ≠ .forward)) := by decide +kernel

/-- A capture with some cycles taken and lost. -/
def captured (taken lost : Nat) : State := withHunt (fun h => { h with
  capture := { taken := taken, lost := lost, isSum := 900 * taken, fwd := taken, rev := 0 } }) (inPhase .capture live)

theorem witness_CapturesTakeCycles :
    (∀ n ∈ [0, 6, 7], ∀ m ∈ [0, 4, 5], (captured n m).hunt.phase = .capture ∧
      (captured n m).hunt.round = some { caller := 9, seqNo := 3 } ∧
      (captured n m).hunt.excluded ≠ some (captured n m).meas.cycleSerial) ∧
    (withHunt (fun h => { h with excluded := some live.meas.cycleSerial }) live).hunt.excluded =
      some live.meas.cycleSerial ∧
    (withPosition .opened (captured 3 0)).fin.position = .opened ∧ (captured 3 0).fin.position ≠ .opened ∧
    live.hunt.phase ≠ .capture ∧
    (let s := withHunt (fun h => { h with arm := 4 })
      (elevated { live with elem := { live.elem with sefPickup := true } })
     s.hunt.phase = .idle ∧ s.huntEnable = true ∧ s.elem.sefPickup = true ∧ min (s.hunt.arm + 1) 5 = 5) := by
  decide +kernel

def sawIt : OwnReport := { mag := 900, dir := .forward, isOpen := false, incomplete := false }

theorem witness_HuntRoundsEnd :
    judged.resetHeld = false ∧ judged.hunt.deadlineAt = some 600 ∧ judged.hunt.phase = .collect ∧
    judged.hunt.ownReport = some sawIt ∧ judged.hunt.round = some { caller := 9, seqNo := 3 } ∧
    (let s := withHunt (fun h => { h with deadlineAt := some 600 }) (inPhase .capture live)
     s.hunt.deadlineAt = some 600 ∧ s.hunt.phase = .capture ∧ s.hunt.round = some { caller := 9, seqNo := 3 }) ∧
    (withHunt (fun h => { h with cooldownAt := some 5600 }) live).hunt.cooldownAt = some 5600 ∧ noRelaxDue live ∧
    (withProf (fun p => { p with relax := .due }) live).prof.relax = .due ∧ live.elem.activity = false := by
  delta noRelaxDue; decide +kernel

/-- In DEAD_HOLD, with the action TRIP and without it. -/
theorem witness_HuntRoundsEnd_deadHold :
    (let s := withHunt (fun h => { h with ownReport := some { sawIt with mag := 1500 } }) (inState .deadHold
      (withHuntTable [{ entryFrom 9 .down with dir := .reverse }, { entryFrom 12 .down with mag := 0 }] judged))
     let u := withProf (fun p => { p with effective := .ordinary }) s
     s.sequencer.st = .deadHold ∧ decideVerdict s = .owner ∧ s.sefTrips = true ∧
      decideVerdict u = .owner ∧ u.sefTrips = false) ∧
    (let s := inState .deadHold (elevated live)
     s.sequencer.st = .deadHold ∧ s.isRun = true ∧ s.hunt.phase = .idle ∧ s.huntEnable = true) := by decide +kernel

/-- Each verdict is one that R162 gives some round. -/
theorem witness_HuntRoundsEnd_verdicts :
    VerdictIs { sawIt with dir := .reverse } .notInvolved judged ∧
    VerdictIs sawIt .notOwner (withHuntTable [entryFrom 9 .down] judged) ∧
    VerdictIs sawIt .uncertain judged ∧
    VerdictIs sawIt .owner
      (withHuntTable [{ entryFrom 9 .down with dir := .reverse }, { entryFrom 12 .down with mag := 0 }] judged) := by
  have down : judged.image.downstream = [9, 12] := by decide +kernel
  have down' : ∀ l, (withHuntTable l judged).image.downstream = [9, 12] := fun _ => down
  have pickup : judged.pickupSef ≤ sawIt.mag ∧ 0 < judged.pickupSef := by decide +kernel
  have saw : ¬ ¬ (sawIt.dir = .forward ∧ judged.pickupSef ≤ sawIt.mag) := not_not_intro ⟨rfl, pickup.1⟩
  refine ⟨⟨fun _ => rfl, fun h => nomatch h⟩, ⟨fun h => absurd h saw, fun _ _ => ⟨fun _ => rfl, fun h => ?_⟩⟩,
    ⟨fun h => absurd h saw, fun _ _ => ⟨fun h => ?_, fun _ => ⟨fun _ => rfl, fun h => ?_⟩⟩⟩,
    ⟨fun h => absurd h saw, fun _ _ => ⟨fun h => ?_, fun _ => ⟨fun h => ?_, fun _ => rfl⟩⟩⟩⟩
  · exact absurd ⟨entryFrom 9 .down, by decide, rfl, pickup.1⟩ (h 9 (by rw [down']; decide))
  · obtain ⟨a, -, r, h, -⟩ := h
    exact nomatch h
  · refine absurd ⟨rfl, ?_⟩ (h 9 (by rw [down]; decide))
    have t : ∀ e ∈ judged.link.table, e.pos ≠ .opened ∧ e.st = none := by decide +kernel
    exact fun e he _ => ⟨(t e he).1, fun x hx => absurd hx (by rw [(t e he).2]; nofun)⟩
  · obtain ⟨a, ha, r, hr, hd, hm⟩ := h
    rw [down'] at ha
    simp only [List.mem_cons, List.not_mem_nil, or_false] at ha
    rcases ha with rfl | rfl
    · cases hr; exact nomatch hd
    · cases hr; exact absurd (Nat.lt_of_lt_of_le pickup.2 hm) (Nat.lt_irrefl 0)
  · obtain ⟨a, ha, hn, -⟩ := h
    rw [down'] at ha
    simp only [List.mem_cons, List.not_mem_nil, or_false] at ha
    rcases ha with rfl | rfl <;> exact nomatch hn

/-! CPORT -/

theorem witness_LoadSettingsWritesTheStagingImage :
    live.isRun = true ∧ staged.resetHeld = false ∧ staged.isRun = false ∧ staged.cport.locked = none ∧
    (let j : Image := { image with areaS := image.areaS.take 80 ++ [7] ++ image.areaS.drop 81 }
     Written 1 80 [7] staged.cport.staging j) ∧
    (let j : Image := { image with areaF := image.areaF.take 43 ++ [7] ++ image.areaF.drop 44 }
     Written 2 43 [7] staged.cport.staging j) ∧
    (let j : Image := { image with areaS := image.areaS.take 67 ++ [1] ++ image.areaS.drop 68 }
     Written 1 67 [1] staged.cport.staging j ∧ staged.image.inputMode 0 ≠ 1 ∧ j.inputMode 0 = 1 ∧
      (staged.image.inputMode 7 = 1 ↔ j.inputMode 7 = 1)) ∧
    (81 < (81 : Half).toNat + [7].length ∧ 44 < (44 : Half).toNat + [7].length) := by
  delta Written; decide +kernel

/-- The staging image with one byte of area S set, its CRC set anew. -/
def withS (n : Nat) (b : Byte) : Image :=
  let l := (image.areaS.set n b).take 79
  { image with areaS := l ++ halfBytes (crc16 0xFFFF#16 l) }

/-- The same of area F. -/
def withF (n : Nat) (b : Byte) : Image :=
  let l := (image.areaF.set n b).take 42
  { image with areaF := l ++ halfBytes (crc16 0xFFFF#16 l) }

/-- Whether a field of area S is out of its range, as a computation. -/
def badS (l : List Byte) (n : Nat) : Bool :=
  match layoutS[n]? with
  | some (off, size, lo, hi) =>
    decide (fieldAt l off size < lo) || decide (hi < fieldAt l off size) ||
      @decide (gapS l n (fieldAt l off size)) (by delta gapS; infer_instance)
  | none => false

def badF (l : List Byte) (n : Nat) : Bool :=
  match layoutF[n % 11]? with
  | some (off, size, lo, hi) =>
    decide (n < 33) && (decide (fieldAt l (14 * (n / 11) + off) size < lo) ||
      decide (hi < fieldAt l (14 * (n / 11) + off) size))
  | none => false

theorem outS_iff (l : List Byte) (n : Nat) : outS l n ↔ badS l n = true := by
  constructor
  · rintro ⟨off, size, lo, hi, h, hv⟩
    simpa only [badS, h, Bool.or_eq_true, decide_eq_true_eq, or_assoc] using hv
  · intro h
    simp only [badS] at h
    split at h
    · next off size lo hi hl =>
      exact ⟨off, size, lo, hi, hl, by simpa only [Bool.or_eq_true, decide_eq_true_eq, or_assoc] using h⟩
    · exact nomatch h

theorem outF_iff (l : List Byte) (n : Nat) : outF l n ↔ badF l n = true := by
  constructor
  · rintro ⟨off, size, lo, hi, hn, h, hv⟩
    simpa only [badF, h, hn, decide_true, Bool.true_and, Bool.or_eq_true, decide_eq_true_eq] using hv
  · intro h
    simp only [badF] at h
    split at h
    · next off size lo hi hl =>
      simp only [Bool.and_eq_true, Bool.or_eq_true, decide_eq_true_eq] at h
      exact ⟨off, size, lo, hi, h.1, hl, h.2⟩
    · exact nomatch h

theorem noneOutS (l : List Byte) (h : ∀ n < 44, badS l n = false) (n : Nat) : ¬ outS l n := fun ho => by
  obtain ⟨_, _, _, _, hl, _⟩ := id ho
  have hb := (outS_iff l n).1 ho
  rw [h n (List.getElem?_eq_some_iff.1 hl).1] at hb
  exact nomatch hb

theorem noneOutF (l : List Byte) (h : ∀ n < 33, badF l n = false) (n : Nat) : ¬ outF l n := fun ho => by
  obtain ⟨_, _, _, _, hn, _⟩ := id ho
  have hb := (outF_iff l n).1 ho
  rw [h n hn] at hb
  exact nomatch hb

theorem witness_StartChecksTheStagingImage :
    (live.isRun = true ∧ staged.isRun = false ∧ staged.resetHeld = false) ∧ ¬ crcMatches State.reset.image.areaS ∧
    (crcMatches image.areaS ∧ crcMatches image.areaF) ∧ ¬ crcMatches (image.areaF.set 0 9) ∧
    crcMatches (withS 0 0).areaS ∧ crcMatches (withF 0 5).areaF := by
  delta crcMatches; decide +kernel

/-- A field at each kind of bound: the address below and above its range, a neighbour named twice, a reset time in its
gap, a sense period that is none, and the first and the last field of area F. -/
theorem witness_StartChecksTheStagingImage_fields :
    (∀ x ∈ [(0, 0, 0), (0, 63, 0), (5, 4, 4), (26, 19, 19), (75, 51, 41)],
      firstOut (outS (withS x.1 x.2.1).areaS) x.2.2) ∧
    (∀ x ∈ [(0, 5, 0), (41, 2, 32)], firstOut (outF (withF x.1 x.2.1).areaF) x.2.2) := by
  simp only [firstOut, outS_iff, outF_iff]; decide +kernel

theorem witness_StartChecksTheStagingImage_limits :
    (∀ n : Nat, ¬ outS image.areaS n) ∧
    ((∀ n : Nat, ¬ outF (withF 0 1).areaF n) ∧ fieldAt (withF 0 1).areaF 0 1 < fieldAt (withF 0 1).areaF 14 1) ∧
    ((∀ n : Nat, ¬ outF (withF 28 3).areaF n) ∧ fieldAt (withF 28 3).areaF 14 1 ≤ fieldAt (withF 28 3).areaF 0 1 ∧
      fieldAt (withF 28 3).areaF 14 1 < fieldAt (withF 28 3).areaF 28 1) :=
  ⟨noneOutS _ (by decide +kernel), ⟨noneOutF _ (by decide +kernel), by decide +kernel⟩,
    noneOutF _ (by decide +kernel), by decide +kernel⟩

theorem witness_StartEntersRun_image : passesStart image :=
  ⟨by delta crcMatches; decide +kernel, by delta crcMatches; decide +kernel, noneOutS _ (by decide +kernel),
    noneOutF _ (by decide +kernel), by decide +kernel, by decide +kernel⟩

theorem witness_StartEntersRun :
    ∀ p ∈ [Position.unknown, .closed, .opened], (withPosition p staged).resetHeld = false ∧
      (withPosition p staged).isRun = false ∧ (withPosition p staged).cport.staging = image ∧
      (withPosition p staged).meas.status = .stale ∧
      (withInputs [true, false, true, false, false, true, false, false] staged).inputSet 2 = true ∧
      (withInputs [true, false, true, false, false, true, false, false] staged).inputSet 5 = true := by decide +kernel

theorem witness_SoftResetInRun : live.resetHeld = false ∧ live.isRun = true ∧
    (withMeas (fun m => { m with status := .stale }) live).meas.status = .stale ∧
    (withInputs [true, false, true, false, false, true, false, false] live).inputSet 2 = true ∧
    (withInputs [true, false, true, false, false, true, false, false] live).inputSet 5 = true := by decide +kernel

/-- IN6, the LOCAL input, is high. -/
def localOn : List Bool := [true, false, false, false, false, false, true, false]

theorem witness_ManualOpenByState :
    live.resetHeld = false ∧ live.inputSet 6 = false ∧ (withInputs localOn live).inputSet 6 = true ∧
    (∀ st ∈ [SeqState.dormant, .failed, .lockout, .opened, .tripping, .deadTime, .deadHold, .closedRest, .reclaim, .closing],
      (inState st live).sequencer.st = st) ∧
    (takesRequest live ∧ live.fin.position ≠ .opened) ∧ (ready .closing .opened 1).fin.position = .opened ∧
    noRelaxDue live ∧ noEpisode live := by
  delta takesRequest noRelaxDue noEpisode; decide +kernel

theorem witness_ManualCloseAndResetFail :
    (let s := inState .lockout live
     s.resetHeld = false ∧ s.sequencer.st = .lockout ∧ s.inputSet 6 = false ∧ s.inputSet 5 = false ∧
      ¬ (∃ r ∈ s.blk.table, r.key.source = .tag) ∧
      (∃ r ∈ (withBlk (fun b => { b with table := [record .tag 7 5 .lock] }) s).blk.table, r.key.source = .tag) ∧
      (withInputs [true, false, false, false, false, true, false, false] s).inputSet 5 = true ∧
      (withInputs localOn s).inputSet 6 = true) ∧
    (∀ p ∈ [Position.unknown, .closed, .opened], (ready .failed p 2).sequencer.st = .failed ∧
      (ready .failed p 2).fin.position = p) ∧ live.sequencer.st ≠ .failed ∧ noEpisode live ∧ noRelaxDue live := by
  delta noRelaxDue noEpisode; decide +kernel

theorem witness_NoticesTablesAndStatusAreRead :
    live.cport.notices = [] ∧
    (withPort (fun c => { c with notices := [someNotice] }) live).cport.notices = someNotice :: [] ∧
    (∀ n ∈ [63, 64], (withPort (fun c => { c with notices := List.replicate n someNotice }) live).cport.notices.length =
      n) ∧
    ((0 : Byte).toNat = 0 ∧ 4 < (5 : Byte).toNat ∧ 1 ≤ (1 : Byte).toNat ∧ (4 : Byte).toNat ≤ 4) := by decide +kernel

theorem witness_BadCommandsAreRejected :
    ((0 : Byte) ≠ crc8 0xFF ([0x72, 0] ++ [])) ∧ ((0 : Byte).toNat ∉ commandCodes) ∧
    ((0x31 : Byte).toNat ∈ commandCodes ∧ ¬ lengthFits (0x31 : Byte).toNat 1 ∧ lengthFits (0x31 : Byte).toNat 2) ∧
    ((0x10 : Byte).toNat ∈ commandCodes ∧ ¬ lengthFits 0x10 3 ∧ lengthFits 0x10 4 ∧ lengthFits 0x10 19 ∧
      ¬ lengthFits 0x10 20) := by
  delta lengthFits
  refine ⟨?_, ?_, ⟨?_, ?_, ?_⟩, ⟨?_, ?_, ?_, ?_, ?_⟩⟩ <;> decide +kernel

def collecting (l : List Byte) : State := withPort (fun c => { c with trans := .command, rxBuf := l }) live

theorem witness_TransactionsGoByteByByte :
    live.resetHeld = false ∧ State.reset.cport.trans = .deselected ∧
    (∀ t ∈ [TransState.deselected, .command, .discard, .response],
      (withPort (fun c => { c with trans := t }) live).cport.trans = t) ∧
    (collecting []).cport.rxBuf = [] ∧ (collecting [0x30]).cport.rxBuf = [0x30] ∧ 24 < (25 : Byte).toNat ∧
    (24 : Byte).toNat ≤ 24 ∧
    ((collecting [0x30, 4, 0, 5, 0]).cport.rxBuf = [0x30, 4] ++ [0, 5, 0] ∧ [0, 5, 0].length < (4 : Byte).toNat) := by
  decide +kernel

theorem witness_CommandBytesRunTheCommand :
    (let s := collecting [0x31, 2, 0, 5]
     s.resetHeld = false ∧ s.cport.trans = .command ∧ s.cport.rxBuf = [0x31, 2] ++ [0, 5] ∧
      [0, 5].length = (2 : Byte).toNat ∧ (2 : Byte).toNat ≤ 24) ∧
    ((Instr.untag 5).wf = true ∧ commandBytes (.untag 5) = some (0x31, [0, 5])) ∧
    (let c := Instr.loadSettings 1 0 (List.replicate 16 9)
     c.wf = true ∧ commandBytes c = some (0x10, [1, 0, 0] ++ List.replicate 16 9)) ∧
    ((0 : Byte).toNat ∉ commandCodes ∧ ¬ lengthFits (0x31 : Byte).toNat 3) := by
  delta lengthFits; decide +kernel

theorem witness_ResetsToTheInitialState :
    held.resetHeld = true ∧ live.resetHeld = false ∧ staged.resetHeld = false ∧ staged.isRun = false := by
  decide +kernel

/-! Invariants -/

/-- A state of RUN with every invariant, from which a step goes on. -/
def whole : State := { quiet with meas := { quiet.meas with status := .fresh } }

theorem witness_invariants_sequence :
    Safety.SequencerInv whole ∧ Safety.ProfileInv whole ∧ Safety.NoticeInv whole ∧ Safety.SettingsInv whole ∧
    Safety.HealthyInv whole := by
  refine ⟨?_, ?_, ?_, ?_, by delta Safety.HealthyInv; decide +kernel⟩ <;> constructor <;> decide +kernel

theorem witness_invariants_tables :
    Safety.TransmitInv whole ∧ Safety.BlockInv whole ∧ Safety.NeighbourInv whole ∧ Safety.HuntInv whole ∧
    Safety.MeasureInv whole ∧ Safety.WatchInv (withBlk (fun b => { b with watches := watches 12 }) whole) := by
  refine ⟨?_, ?_, ?_, ?_, ?_, ?_⟩ <;> constructor <;> decide +kernel

theorem witness_invariants_step :
    (match step whole with
    | .next t => some t
    | _ => none) = some { whole with now := 1 } := by decide +kernel

end Sys2Proof.Tests
end

section
/-! The arithmetic of a cycle (chapter 1, R6 to R10): the bit-by-bit root is the floor of the square root for every `n`
below 2 to the 32, and the mean square of samples in −32767..+32767 lies below that. -/

namespace Sys2Proof.Machine

/-! ### The integer square root -/

/-- The lower half of the search's invariant: the square of the root found so far does not exceed `n`. -/
theorem isqrtFrom_mul_self_le {n : Nat} (k : Nat) {r : Nat} (hr : r * r ≤ n) :
    isqrtFrom n k r * isqrtFrom n k r ≤ n := by
  induction k generalizing r with
  | zero => exact hr
  | succ k ih =>
    unfold isqrtFrom
    split
    case isTrue hbit => exact ih hbit
    case isFalse => exact ih hr

/-- The upper half of the search's invariant: with `k` bits to decide, the root lies below `r + 2 ^ k`. -/
theorem lt_isqrtFrom_succ_mul_self {n : Nat} (k : Nat) {r : Nat} (hr : n < (r + 2 ^ k) * (r + 2 ^ k)) :
    n < (isqrtFrom n k r + 1) * (isqrtFrom n k r + 1) := by
  induction k generalizing r with
  | zero => exact hr
  | succ k ih =>
    unfold isqrtFrom
    split
    case isTrue =>
      have hhalves : r + 2 ^ k + 2 ^ k = r + 2 ^ (k + 1) := by omega
      exact ih (by rwa [hhalves])
    case isFalse hbit => exact ih (Nat.lt_of_not_le hbit)

theorem isqrt_mul_self_le (n : Nat) : isqrt n * isqrt n ≤ n :=
  isqrtFrom_mul_self_le 16 (Nat.zero_le n)

theorem lt_isqrt_succ_mul_self {n : Nat} (hn : n < 2 ^ 32) : n < (isqrt n + 1) * (isqrt n + 1) :=
  lt_isqrtFrom_succ_mul_self 16 (by omega)

theorem isqrt_le_of_le_mul_self {n b : Nat} (hn : n ≤ b * b) : isqrt n ≤ b :=
  Nat.mul_self_le_mul_self_iff.mp (Nat.le_trans (isqrt_mul_self_le n) hn)

/-! ### Magnitudes (section 1.3) -/

/-- The mean square of 32 samples, the quotient truncated. -/
def meanSquare (l : List Int) : Nat := (l.map (fun x => (x * x).toNat)).sum / 32

theorem magnitude_eq_isqrt (l : List Int) : magnitude l = isqrt (meanSquare l) := rfl

theorem sample_square_le {x : Int} (hx : -32767 ≤ x ∧ x ≤ 32767) : (x * x).toNat ≤ 32767 * 32767 := by
  have habs : x.natAbs ≤ 32767 := by omega
  rw [← Int.natAbs_mul_self, Int.toNat_natCast]
  exact Nat.mul_self_le_mul_self habs

theorem sum_squares_le {l : List Int} (hl : ∀ x ∈ l, -32767 ≤ x ∧ x ≤ 32767) :
    (l.map (fun x => (x * x).toNat)).sum ≤ l.length * (32767 * 32767) := by
  induction l with
  | nil => exact Nat.zero_le _
  | cons x l ih =>
    have hx := sample_square_le (hl x List.mem_cons_self)
    have hrest := ih fun y hy => hl y (List.mem_cons_of_mem x hy)
    rw [List.map_cons, List.sum_cons, List.length_cons]
    omega

theorem meanSquare_le {l : List Int} (hlen : l.length = 32) (hl : ∀ x ∈ l, -32767 ≤ x ∧ x ≤ 32767) :
    meanSquare l ≤ 32767 * 32767 := by
  have hsum := sum_squares_le hl
  rw [hlen] at hsum
  exact Nat.div_le_of_le_mul hsum

theorem magnitude_bounds {l : List Int} (hlen : l.length = 32) (hl : ∀ x ∈ l, -32767 ≤ x ∧ x ≤ 32767) :
    magnitude l ≤ 32767 ∧ magnitude l * magnitude l ≤ meanSquare l ∧
      meanSquare l < (magnitude l + 1) * (magnitude l + 1) := by
  have hmean := meanSquare_le hlen hl
  rw [magnitude_eq_isqrt]
  exact ⟨isqrt_le_of_le_mul_self hmean, isqrt_mul_self_le _, lt_isqrt_succ_mul_self (by omega)⟩

/-! ### The results of a cycle -/

/-- R7: the sum of the phase currents of one sample, clamped. -/
theorem residual_eq_clamped_sum :
    Sample.residual = fun (x : Sample) => max (-32767) (min 32767 (x.ia + x.ib + x.ic)) := rfl

/-- R8: a third of the sum of the phase voltages of one sample, toward zero. -/
theorem v0_eq_tdiv_three : Sample.v0 = fun (x : Sample) => (x.va + x.vb + x.vc).tdiv 3 := rfl

section Results
variable (v0Min p0Min : Nat) (l : List Sample)

/-- R6: the phase currents and the largest of them. -/
theorem cycleResult_phases :
    let r := cycleResult v0Min p0Min l
    r.ia = magnitude (l.map (·.ia)) ∧ r.ib = magnitude (l.map (·.ib)) ∧ r.ic = magnitude (l.map (·.ic)) ∧
      r.m = max r.ia (max r.ib r.ic) :=
  ⟨rfl, rfl, rfl, rfl⟩

/-- R7: the residual is clamped sample by sample, before its magnitude is taken. -/
theorem cycleResult_ir : (cycleResult v0Min p0Min l).ir =
    magnitude (l.map (fun (x : Sample) => max (-32767) (min 32767 (x.ia + x.ib + x.ic)))) := by
  rw [← residual_eq_clamped_sum]
  rfl

theorem cycleResult_is : (cycleResult v0Min p0Min l).is = magnitude (l.map (·.is)) := rfl

theorem cycleResult_v0 : (cycleResult v0Min p0Min l).v0 =
    magnitude (l.map (fun (x : Sample) => (x.va + x.vb + x.vc).tdiv 3)) := by
  rw [← v0_eq_tdiv_three]
  rfl

/-- R9: v0 and IS are paired sample by sample. -/
theorem cycleResult_p0 : (cycleResult v0Min p0Min l).p0 =
    ((l.map (fun (x : Sample) => (x.va + x.vb + x.vc).tdiv 3 * x.is)).sum).tdiv 32 := rfl

/-- R10: the direction is decided on the cycle's own V0 and P0. -/
theorem cycleResult_dir :
    let r := cycleResult v0Min p0Min l
    r.dir = (if r.v0 < v0Min then .undetermined else if r.p0 ≤ -(p0Min : Int) then .forward
      else if (p0Min : Int) ≤ r.p0 then .reverse else .undetermined) := rfl

end Results

/-- Settles O8: the bounds are those of the integer square root, and each result is the model's equation for its field. -/
theorem cycleArithmetic : Obligations.CycleArithmetic := by
  unfold Obligations.CycleArithmetic
  refine ⟨fun l hlen hl => magnitude_bounds hlen hl, fun v0Min p0Min l => ?_⟩
  obtain ⟨hia, hib, hic, hm⟩ := cycleResult_phases v0Min p0Min l
  exact ⟨hia, hib, hic, hm, cycleResult_ir v0Min p0Min l, cycleResult_is v0Min p0Min l, cycleResult_v0 v0Min p0Min l,
    cycleResult_p0 v0Min p0Min l, cycleResult_dir v0Min p0Min l⟩

end Sys2Proof.Machine
end

section
/-! The HEALTHY line (R53), frames: the line and the three conditions it follows, at the operations that touch none of
them. -/

namespace Sys2Proof.Safety

open Sys2Proof Sys2Proof.Machine

variable {s t : State}

/-- The invariant reads the line, the part-wide state, the MEAS status and SEQ's state, and nothing else. -/
protected theorem HealthyInv.frame (h : HealthyInv s)
    (same : t.fin.healthy = s.fin.healthy ∧ t.cport.part = s.cport.part ∧ t.meas.status = s.meas.status ∧
      t.sequencer.st = s.sequencer.st) : HealthyInv t := by
  obtain ⟨line, part, status, st⟩ := same
  simpa only [HealthyInv, State.isRun, line, part, status, st] using h

/-! ### A block's state replaced -/

protected theorem HealthyInv.withMeas (h : HealthyInv s) {m : MeasState} (status : m.status = s.meas.status) :
    HealthyInv { s with meas := m } := h.frame ⟨rfl, rfl, status, rfl⟩

protected theorem HealthyInv.withElem (h : HealthyInv s) (e : ElemState) : HealthyInv { s with elem := e } := h

protected theorem HealthyInv.withFin (h : HealthyInv s) {f : FinState} (line : f.healthy = s.fin.healthy) :
    HealthyInv { s with fin := f } := h.frame ⟨line, rfl, rfl, rfl⟩

protected theorem HealthyInv.withBlk (h : HealthyInv s) (b : BlkState) : HealthyInv { s with blk := b } := h

protected theorem HealthyInv.withProf (h : HealthyInv s) (p : ProfState) : HealthyInv { s with prof := p } := h

protected theorem HealthyInv.withLink (h : HealthyInv s) (l : LinkState) : HealthyInv { s with link := l } := h

protected theorem HealthyInv.withHunt (h : HealthyInv s) (x : HuntState) : HealthyInv { s with hunt := x } := h

/-! ### Notices, hand-overs and the count -/

protected theorem HealthyInv.queueTagged (h : HealthyInv s) (k : NoticeKind) (a : Byte) (d1 d2 : Half) (x y : Byte) :
    HealthyInv (queueTagged k a d1 d2 x y s) := h.frame (by simp)

protected theorem HealthyInv.queueOwn (h : HealthyInv s) (k : NoticeKind) (d1 d2 : Half) :
    HealthyInv (queueOwn k d1 d2 s) := h.frame (by simp)

protected theorem HealthyInv.queueProfileChanged (h : HealthyInv s) (c : ProfileChange) (p : Profile) :
    HealthyInv (queueProfileChanged c p s) := h.frame (by simp)

protected theorem HealthyInv.handOver (h : HealthyInv s) (e : Instr) : HealthyInv (handOver e s) := h

protected theorem HealthyInv.takeHandOver (h : HealthyInv s) (e : Instr) : HealthyInv (takeHandOver e s) := h

protected theorem HealthyInv.placeFrame (h : HealthyInv s) (f : OwnedFrame) : HealthyInv (placeFrame f s) := h

protected theorem HealthyInv.advanceFree (h : HealthyInv s) : HealthyInv (advanceFree s) := h

protected theorem HealthyInv.arriveAt (h : HealthyInv s) (x : Ms) : HealthyInv (s.arriveAt x) := h

/-! ### TRIPCO, BLK and PROF -/

protected theorem HealthyInv.tripcoReview (h : HealthyInv s) : HealthyInv (tripcoReview s) := h.frame (by simp)

protected theorem HealthyInv.onRecord (h : HealthyInv s) (a : Byte) (f : Restraint → Restraint) :
    HealthyInv (onRecord a f s) := h

/-- A frame of a neighbour acts on its restraint record where the neighbour is a downstream one (R137). -/
protected theorem HealthyInv.onRecordIf (h : HealthyInv s) (c : Bool) (a : Byte) (f : Restraint → Restraint) :
    HealthyInv (if c then onRecord a f s else s) := by
  split
  · exact h.onRecord a f
  · exact h

protected theorem HealthyInv.takeBreakerFail (h : HealthyInv s) (a : Byte) : HealthyInv (takeBreakerFail a s) := by
  unfold takeBreakerFail
  split
  · exact (h.onRecord a _).withElem _
  · exact h

protected theorem HealthyInv.refreshRestraint (h : HealthyInv s) : HealthyInv (refreshRestraint s) := by
  unfold refreshRestraint
  split
  · exact h
  · exact h

protected theorem HealthyInv.storeBlock (h : HealthyInv s) (k : BlockKey) (e : BlockEffect) (d : Option Nat) :
    HealthyInv (storeBlock k e d s) := h.frame (by simp)

protected theorem HealthyInv.profRest (h : HealthyInv s) : HealthyInv (profRest s) := h.frame (by simp)

protected theorem HealthyInv.expireRelax (h : HealthyInv s) : HealthyInv (expireRelax s) := h.frame (by simp)

protected theorem HealthyInv.followTarget (h : HealthyInv s) : HealthyInv (followTarget s) := h.frame (by simp)

protected theorem HealthyInv.askIfChanged (h : HealthyInv s) (p : ProfState) : HealthyInv (askIfChanged p s) :=
  h.frame (by simp)

protected theorem HealthyInv.retireWatch (h : HealthyInv s) (w : Watch) : HealthyInv (retireWatch w s) :=
  h.frame (by simp)

/-! ### HUNT, ELEM and MEAS -/

protected theorem HealthyInv.storeCycle (h : HealthyInv s) (l : List Sample) : HealthyInv (storeCycle l s) :=
  h.withMeas (by rfl)

protected theorem HealthyInv.huntCycle (h : HealthyInv s) : HealthyInv (huntCycle s) := h.frame (by simp)

protected theorem HealthyInv.huntLost (h : HealthyInv s) : HealthyInv (huntLost s) := h.frame (by simp)

protected theorem HealthyInv.huntPosition (h : HealthyInv s) : HealthyInv (huntPosition s) := h.frame (by simp)

protected theorem HealthyInv.enterCapture (h : HealthyInv s) : HealthyInv (enterCapture s) := h.frame (by simp)

protected theorem HealthyInv.report (h : HealthyInv s) (r : OwnReport) : HealthyInv (report r s) := h.frame (by simp)

protected theorem HealthyInv.queueVerdict (h : HealthyInv s) (a : Byte) : HealthyInv (queueVerdict a s) :=
  h.frame (by simp)

protected theorem HealthyInv.actOnVerdict (h : HealthyInv s) (v : Verdict) (st : SeqState) :
    HealthyInv (actOnVerdict v st s) := h.frame (by simp)

protected theorem HealthyInv.enterCooldown (h : HealthyInv s) : HealthyInv (enterCooldown s) := h

protected theorem HealthyInv.endCooldown (h : HealthyInv s) : HealthyInv (endCooldown s) := h.frame (by simp)

protected theorem HealthyInv.requestTrip (h : HealthyInv s) (c : Option ProtCause) : HealthyInv (requestTrip c s) :=
  h.frame (by simp)

protected theorem HealthyInv.alarmSef (h : HealthyInv s) (before : State) : HealthyInv (alarmSef before s) :=
  h.frame (by simp)

/-- A snapshot that fails leaves the MEAS status. -/
protected theorem HealthyInv.failSnapshot (h : HealthyInv s) : HealthyInv (failSnapshot s) := by
  unfold failSnapshot
  split
  · exact h
  · exact h

protected theorem HealthyInv.fillSnapshot (h : HealthyInv s) (c : Option ProtCause) :
    HealthyInv (fillSnapshot c s) := by
  unfold fillSnapshot
  split
  · exact h
  · exact h

/-! ### FIN's own operations -/

protected theorem HealthyInv.setSense (h : HealthyInv s) (x : SenseState) : HealthyInv (setSense x s) := h

protected theorem HealthyInv.beginPeriod (h : HealthyInv s) (x : Ms) : HealthyInv (beginPeriod x s) := h

protected theorem HealthyInv.beginDiscrepancy (h : HealthyInv s) : HealthyInv (beginDiscrepancy s) := by
  unfold beginDiscrepancy
  split
  · exact h
  · exact h

protected theorem HealthyInv.queueInputChange (h : HealthyInv s) (n : Nat) (first level : Bool) :
    HealthyInv (queueInputChange n first level s) := h.frame (by simp)

/-! ### LINK and CPORT -/

protected theorem HealthyInv.queuePeerStatus (h : HealthyInv s) (old : NbrStatus) (e : Neighbour) :
    HealthyInv (queuePeerStatus old e s) := h.frame (by simp)

protected theorem HealthyInv.handLost (h : HealthyInv s) (old : NbrStatus) (e : Neighbour) :
    HealthyInv (handLost old e s) := h.frame (by simp)

protected theorem HealthyInv.ensureNeighbour (h : HealthyInv s) (a : Byte) : HealthyInv (ensureNeighbour a s) :=
  h.frame (by simp)

protected theorem HealthyInv.dispatchFrame (h : HealthyInv s) (a : Byte) (b : FrameBody) :
    HealthyInv (dispatchFrame a b s) := h.frame (by simp)

protected theorem HealthyInv.takeOwnAddress (h : HealthyInv s) (f : RawFrame) : HealthyInv (takeOwnAddress f s) :=
  h.frame (by simp)

protected theorem HealthyInv.placeBeacon (h : HealthyInv s) : HealthyInv (placeBeacon s) := h.frame (by simp)

protected theorem HealthyInv.enterResponse (h : HealthyInv s) (b : Byte) (r : Result) (l : List Byte) :
    HealthyInv (enterResponse b r l s) := h

end Sys2Proof.Safety
end

section
/-! The HEALTHY line (R53), SEQ: every transition ends with FIN setting the line anew, so that R53 holds after it,
whatever held before. -/

namespace Sys2Proof.Safety

open Sys2Proof Sys2Proof.Machine

variable {s : State}

theorem healthyInv_refreshHealthy (s : State) : HealthyInv (refreshHealthy s) :=
  (healthyInv_iff _).2 rfl

/-- FIN learns of each transition (R72), and sets HEALTHY from SEQ's new state. -/
theorem healthyInv_handTransition (s : State) : HealthyInv (handTransition s) :=
  (healthyInv_refreshHealthy _).tripcoReview

/-! ### Transitions -/

theorem healthyInv_seqMove (st : SeqState) (d : Option Ms) (r : Reason) (s : State) : HealthyInv (seqMove st d r s) :=
  healthyInv_handTransition _

theorem healthyInv_seqSlip (st : SeqState) (d : Option Ms) (s : State) : HealthyInv (seqSlip st d s) :=
  healthyInv_handTransition _

/-- FAILED lowers the line (R63, R67). -/
theorem healthyInv_seqFail (op : FailedOp) (r : Reason) (s : State) : HealthyInv (seqFail op r s) :=
  healthyInv_handTransition _

theorem healthyInv_seqOpened (s : State) : HealthyInv (seqOpened s) := by
  unfold seqOpened
  split
  · exact healthyInv_seqMove ..
  split
  · exact healthyInv_seqMove ..
  · exact healthyInv_seqSlip ..

theorem healthyInv_seqClosed (s : State) : HealthyInv (seqClosed s) := healthyInv_seqMove ..

theorem healthyInv_seqClosing (s : State) : HealthyInv (seqClosing s) := by
  simp only [seqClosing]
  split
  · exact healthyInv_seqClosed _
  · exact healthyInv_seqSlip ..

theorem healthyInv_seqExternalOpen (s : State) : HealthyInv (seqExternalOpen s) := healthyInv_handTransition _

theorem healthyInv_seqExternalClose (s : State) : HealthyInv (seqExternalClose s) := healthyInv_seqMove ..

/-! ### Trips (R58 to R61) -/

theorem healthyInv_finishTrip (s : State) : HealthyInv (finishTrip s) := by
  by_cases opened : s.fin.position = .opened
  · rw [finishTrip_of_open s opened]
    exact healthyInv_seqOpened _
  · rw [finishTrip_of_not_open s opened]
    exact healthyInv_handTransition _

theorem healthyInv_takeTrip (c : ProtCause) (s : State) : HealthyInv (takeTrip c s) := healthyInv_finishTrip _

theorem healthyInv_takeManualTrip (s : State) : HealthyInv (takeManualTrip s) := healthyInv_finishTrip _

protected theorem HealthyInv.seqTripRequest (h : HealthyInv s) (c : ProtCause) : HealthyInv (seqTripRequest c s) := by
  unfold seqTripRequest
  split
  · exact (healthyInv_takeTrip c s).profRest
  · exact h

/-! ### Positions, the block table, raises and expiries -/

protected theorem HealthyInv.seqPosition (h : HealthyInv s) : HealthyInv (seqPosition s) := by
  unfold seqPosition
  split
  · exact (healthyInv_seqOpened s).profRest
  · exact (healthyInv_seqClosed s).profRest
  iterate 2 exact (healthyInv_seqExternalOpen s).profRest
  iterate 4 exact (healthyInv_seqExternalClose s).profRest
  · exact h

theorem healthyInv_judgeBlocks {hold : State → State} (h : HealthyInv (hold s)) :
    HealthyInv (judgeBlocks hold s) := by
  unfold judgeBlocks
  split
  · exact healthyInv_seqMove ..
  split
  · exact healthyInv_seqClosing s
  · exact h

theorem healthyInv_seqDeadTimeOver (s : State) : HealthyInv (seqDeadTimeOver s) :=
  healthyInv_judgeBlocks (healthyInv_seqSlip ..)

protected theorem HealthyInv.seqBlockChange (h : HealthyInv s) : HealthyInv (seqBlockChange s) := by
  unfold seqBlockChange
  split
  · exact (healthyInv_judgeBlocks h).profRest
  · exact h

protected theorem HealthyInv.seqRaise (h : HealthyInv s) : HealthyInv (seqRaise s) := by
  by_cases locks : (s.sequencer.st = .deadTime ∨ s.sequencer.st = .deadHold) ∧ s.shotLimit < s.sequencer.shot
  · rw [seqRaise_locks s locks.1 locks.2]
    exact healthyInv_seqMove ..
  · rw [seqRaise_stays s fun waits => Nat.le_of_not_lt fun beyond => locks ⟨waits, beyond⟩]
    exact h

/-- A state timer that runs out makes a transition; one that is stopped does nothing (R56). -/
protected theorem HealthyInv.seqExpiry (h : HealthyInv s) (st : SeqState) {f : State → State}
    (hf : ∀ u, HealthyInv (f u)) : HealthyInv (seqExpiry st f s) := by
  unfold seqExpiry
  split
  · split
    · exact (hf _).profRest
    · exact h
  · exact h

end Sys2Proof.Safety
end

section
/-! The HEALTHY line (R53), BLK, PROF, the watches and HUNT: what they change of the line they change through SEQ. -/

namespace Sys2Proof.Safety

open Sys2Proof Sys2Proof.Machine

variable {s : State}

/-! ### The block table (R79 to R83) -/

protected theorem HealthyInv.placeBlock (h : HealthyInv s) (k : BlockKey) (e : BlockEffect) (d : Option Nat) :
    HealthyInv (placeBlock k e d s) := by
  unfold placeBlock
  split
  · exact h.storeBlock k e d
  · exact (h.storeBlock k e d).seqBlockChange

protected theorem HealthyInv.removeBlock (h : HealthyInv s) (k : BlockKey) : HealthyInv (removeBlock k s) := by
  unfold removeBlock
  split
  · exact (h.withBlk _).seqBlockChange
  · exact h

protected theorem HealthyInv.removeBlocks (h : HealthyInv s) (ks : List BlockKey) : HealthyInv (removeBlocks ks s) :=
  List.foldlRecOn ks _ h fun _ hu k _ => hu.removeBlock k

protected theorem HealthyInv.removeWatchTag (h : HealthyInv s) (n : Half) : HealthyInv (removeWatchTag n s) :=
  h.removeBlocks _

/-! ### The demands (R100 to R106) -/

/-- A raise reaches SEQ before or after PROF's notice (log 5). -/
protected theorem HealthyInv.handRaise (h : HealthyInv s) (p : Profile) : HealthyInv (handRaise p s) := by
  unfold handRaise
  split
  · exact (h.seqRaise.queueProfileChanged .raised p).advanceFree
  · exact (h.queueProfileChanged .raised p).seqRaise.advanceFree

protected theorem HealthyInv.takeTarget (h : HealthyInv s) : HealthyInv (takeTarget s) := by
  unfold takeTarget
  split
  · exact (h.withProf _).handRaise _
  split
  · exact h.withProf _
  · exact h.withProf _

protected theorem HealthyInv.settle (h : HealthyInv s) (port field peer : Profile) :
    HealthyInv (settle port field peer s) := by
  simp only [settle]
  split
  · refine HealthyInv.askIfChanged ?_ _
    split
    · exact h.withProf _
    · exact (h.withProf _).takeTarget
  · split
    · exact h.withProf _
    · exact (h.withProf _).followTarget

protected theorem HealthyInv.refreshPeerDemand (h : HealthyInv s) : HealthyInv (refreshPeerDemand s) := h.settle ..

/-! ### The watches (R93 to R96) -/

protected theorem HealthyInv.watchPlace (h : HealthyInv s) (a : Byte) (w : Watch) : HealthyInv (watchPlace a w s) := by
  unfold watchPlace
  split
  · exact h.placeBlock ..
  · exact h

protected theorem HealthyInv.watchIntertrip (h : HealthyInv s) : HealthyInv (watchIntertrip s) := by
  unfold watchIntertrip
  split
  · exact (h.seqTripRequest .intertrip).advanceFree
  · exact (h.handOver _).advanceFree

protected theorem HealthyInv.watchAct (h : HealthyInv s) (a : Byte) (w : Watch) (x : WatchAction) :
    HealthyInv (watchAct a w x s) := by
  cases x with
  | none => exact h
  | placeBlock => exact h.watchPlace a w
  | removeBlock => exact h.removeWatchTag _
  | intertrip => exact h.watchIntertrip

protected theorem HealthyInv.watchMatch (h : HealthyInv s) (a : Byte) (b : FrameBody) (w : Watch) :
    HealthyInv (watchMatch a b w s) :=
  (((h.watchAct a w w.action1).watchAct a w w.action2).queueTagged ..).retireWatch w

protected theorem HealthyInv.matchFrame (h : HealthyInv s) (a : Byte) (b : FrameBody) :
    HealthyInv (matchFrame a b s) :=
  List.foldlRecOn _ _ h fun _ hu w _ => hu.watchMatch a b w

/-! ### HUNT -/

protected theorem HealthyInv.joinRound (h : HealthyInv s) (r : Round) : HealthyInv (joinRound r s) :=
  ((h.withHunt _).placeBlock ..).enterCapture

protected theorem HealthyInv.callRound (h : HealthyInv s) : HealthyInv (callRound s) :=
  (((h.withHunt _).placeBlock ..).placeFrame _).enterCapture

protected theorem HealthyInv.huntStep (h : HealthyInv s) : HealthyInv (huntStep s) := by
  simp only [huntStep]
  split
  · split
    · exact (h.withHunt _).callRound
    · exact h.withHunt _
  · exact h.withHunt _

protected theorem HealthyInv.giveVerdict (h : HealthyInv s) (v : Verdict) : HealthyInv (giveVerdict v s) :=
  ((((h.withHunt _).removeBlock _).queueVerdict _).actOnVerdict ..).enterCooldown

protected theorem HealthyInv.reachDeadline (h : HealthyInv s) : HealthyInv (reachDeadline s) := by
  refine HealthyInv.giveVerdict ?_ _
  split
  · exact h.report _
  · exact h

protected theorem HealthyInv.takeCall (h : HealthyInv s) (r : Round) : HealthyInv (takeCall r s) := by
  unfold takeCall
  split
  · split
    · exact h.joinRound r
    · exact h
  · split
    · exact h
    · exact h
  iterate 2 exact h

end Sys2Proof.Safety
end

section
/-! The HEALTHY line (R53), MEAS and FIN: MEAS sets the line anew where its status changes, and the events FIN hands on
reach it through SEQ. -/

namespace Sys2Proof.Safety

open Sys2Proof Sys2Proof.Machine

variable {s : State}

/-! ### FRESH and STALE (R12 to R14) -/

protected theorem HealthyInv.placeSelf (h : HealthyInv s) : HealthyInv (placeSelf s) := by
  unfold placeSelf
  split
  · exact h.placeBlock ..
  · exact h

protected theorem HealthyInv.removeSelf (h : HealthyInv s) : HealthyInv (removeSelf s) := by
  unfold removeSelf
  split
  · exact h.removeBlock _
  · exact h

protected theorem HealthyInv.becomeStale (h : HealthyInv s) (c : StaleCause) : HealthyInv (becomeStale c s) := by
  unfold becomeStale
  split
  · exact ((healthyInv_refreshHealthy _).queueOwn ..).placeSelf.failSnapshot
  · exact h

protected theorem HealthyInv.becomeFresh (h : HealthyInv s) : HealthyInv (becomeFresh s) := by
  unfold becomeFresh
  split
  · exact ((healthyInv_refreshHealthy _).queueOwn ..).removeSelf
  · exact h

/-! ### Lost and completed cycles (R4, R11) -/

protected theorem HealthyInv.loseCycle (h : HealthyInv s) : HealthyInv (loseCycle s) :=
  (h.withMeas (by rfl)).huntLost.failSnapshot

protected theorem HealthyInv.loseCycleInOrder (h : HealthyInv s) : HealthyInv (loseCycleInOrder s) := by
  simp only [loseCycleInOrder]
  split
  · exact h.loseCycle.becomeStale .lostCycles
  · exact h.loseCycle

protected theorem HealthyInv.elemStep (h : HealthyInv s) : HealthyInv (elemStep s) :=
  (((h.withElem _).requestTrip _).alarmSef s).tripcoReview.profRest.huntStep

protected theorem HealthyInv.handCycle (h : HealthyInv s) : HealthyInv (handCycle s).2 := by
  unfold handCycle
  split
  · exact h.elemStep.huntCycle
  · exact h

protected theorem HealthyInv.completeCycle (h : HealthyInv s) (l : List Sample) : HealthyInv (completeCycle l s) :=
  (h.storeCycle l).becomeFresh.handCycle.fillSnapshot _

protected theorem HealthyInv.takeSample (h : HealthyInv s) (l : List Sample) : HealthyInv (takeSample l s) :=
  h.withMeas (by rfl)

protected theorem HealthyInv.takeLastSample (h : HealthyInv s) (l : List Sample) : HealthyInv (takeLastSample l s) :=
  (h.withMeas (by rfl)).completeCycle l

/-- A valid frame joins, completes or loses a cycle (R3). -/
protected theorem HealthyInv.assemble (h : HealthyInv s) (p : Nat) (x : Sample) : HealthyInv (assemble p x s) := by
  unfold assemble
  split
  · split
    · exact h.takeSample _
    · exact h
  split
  · split
    · exact h.takeLastSample _
    · exact h.takeSample _
  split
  · exact h.loseCycleInOrder.takeSample _
  · exact h.loseCycleInOrder

protected theorem HealthyInv.expireSilence (h : HealthyInv s) : HealthyInv (expireSilence s) := by
  refine HealthyInv.becomeStale ?_ _
  split
  · exact h.withMeas (by rfl)
  · exact (h.withMeas (by rfl)).loseCycle

/-! ### Breaker position (R46, R47) -/

protected theorem HealthyInv.handPosition (h : HealthyInv s) : HealthyInv (handPosition s) := h.seqPosition.huntPosition

protected theorem HealthyInv.setPosition (h : HealthyInv s) (p : Position) : HealthyInv (setPosition p s) := by
  simp only [setPosition]
  split
  · exact h.withFin (by rfl)
  · exact (h.withFin (by rfl)).handPosition

protected theorem HealthyInv.derivePosition (h : HealthyInv s) : HealthyInv (derivePosition s) := by
  unfold derivePosition
  split
  · exact h.setPosition _
  · exact h.setPosition _
  · exact h.beginDiscrepancy
  iterate 2 exact h

protected theorem HealthyInv.expireDiscrepancy (h : HealthyInv s) : HealthyInv (expireDiscrepancy s) := by
  refine HealthyInv.queueOwn ?_ ..
  split
  · exact h.withFin (by rfl)
  · exact (h.withFin (by rfl)).handPosition

/-! ### Inputs confirmed anew (R45, R48 to R50) -/

protected theorem HealthyInv.deriveDemand (h : HealthyInv s) : HealthyInv (deriveDemand s) := by
  simp only [deriveDemand]
  split
  · exact h
  · exact (h.withFin (by rfl)).settle ..

protected theorem HealthyInv.handFieldRecord (h : HealthyInv s) (n : Nat) (first level : Bool) :
    HealthyInv (handFieldRecord n first level s) := by
  unfold handFieldRecord
  split
  · split
    · exact h.placeBlock ..
    split
    · exact h
    · exact h.removeBlock _
  · exact h

protected theorem HealthyInv.handInput (h : HealthyInv s) (a b : List InputState) (n : Nat) :
    HealthyInv (handInput a b s n) := by
  unfold handInput
  split
  · exact h
  split
  · exact h
  · exact (h.queueInputChange ..).handFieldRecord ..

protected theorem HealthyInv.handConfirmed (h : HealthyInv s) (a b : List InputState) :
    HealthyInv (handConfirmed a b s) := by
  have position : HealthyInv (if confirmedAnew a b 0 || confirmedAnew a b 1 then derivePosition s else s) := by
    split
    · exact h.derivePosition
    · exact h
  refine List.foldlRecOn _ _ ?_ fun _ hu n _ => hu.handInput a b n
  split
  · exact position.deriveDemand
  · exact position

protected theorem HealthyInv.takeInputs (h : HealthyInv s) (l : List InputState) : HealthyInv (takeInputs l s) :=
  (h.withFin (by rfl)).handConfirmed ..

protected theorem HealthyInv.takeSamplesNow (h : HealthyInv s) (row : SampleRow) (levels : Byte) :
    HealthyInv (takeSamplesNow row levels s) :=
  (h.setSense _).takeInputs _

protected theorem HealthyInv.takeSamples (h : HealthyInv s) (row : SampleRow) (levels : Byte) :
    HealthyInv (takeSamples row levels s) := by
  unfold takeSamples
  split
  · exact h.setSense _
  · exact (h.arriveAt _).takeSamplesNow ..

end Sys2Proof.Safety
end

section
/-! The HEALTHY line (R53), LINK, the resets and the host commands. -/

namespace Sys2Proof.Safety

open Sys2Proof Sys2Proof.Machine

variable {s : State}

/-! ### LINK -/

protected theorem HealthyInv.changeStatus (h : HealthyInv s) (old : NbrStatus) (e : Neighbour) :
    HealthyInv (changeStatus old e s) :=
  ((h.withLink _).queuePeerStatus old e).refreshPeerDemand.handLost old e

protected theorem HealthyInv.acceptFrame (h : HealthyInv s) (f : RawFrame) (b : FrameBody) :
    HealthyInv (acceptFrame f b s) := by
  have known := h.ensureNeighbour f.source
  simp only [acceptFrame]
  split
  · exact (known.changeStatus ..).dispatchFrame ..
  · exact known

protected theorem HealthyInv.takeForeign (h : HealthyInv s) (f : RawFrame) : HealthyInv (takeForeign f s) := by
  unfold takeForeign
  split
  · split
    · exact h.acceptFrame ..
    · exact h
  · exact h

protected theorem HealthyInv.checkFrame (h : HealthyInv s) (f : RawFrame) : HealthyInv (checkFrame f s) := by
  unfold checkFrame
  split
  · split
    · exact h.takeOwnAddress f
    · exact h.takeForeign f
  · exact h

protected theorem HealthyInv.receiveFrame (h : HealthyInv s) (l : List Byte) : HealthyInv (receiveFrame l s) := by
  unfold receiveFrame
  split
  · exact h.checkFrame _
  · exact h

protected theorem HealthyInv.takeRxByte (h : HealthyInv s) (b : Byte) (stopBit : Bool) :
    HealthyInv (takeRxByte b stopBit s) := by
  simp only [takeRxByte]
  split
  · exact h
  · exact h

protected theorem HealthyInv.txExpiry (h : HealthyInv s) (st : TxState) {f : State → State}
    (hf : ∀ u, HealthyInv u → HealthyInv (f u)) : HealthyInv (txExpiry st f s) := by
  unfold txExpiry
  split
  · split
    · exact hf _ (h.arriveAt _)
    · exact h
  · exact h

/-! ### START and the resets -/

/-- START sets the line last (R175). -/
theorem healthyInv_enterRun (s : State) : HealthyInv (enterRun s) := healthyInv_refreshHealthy _

/-- A SOFT RESET in RUN sets the line last (R178). -/
theorem healthyInv_softResetRun (s : State) : HealthyInv (softResetRun s) := healthyInv_refreshHealthy _

/-- In CONFIG a low line is as R53 gives. -/
theorem healthyInv_of_config (config : s.isRun = false) (low : s.fin.healthy = false) : HealthyInv s := by
  simp [HealthyInv, config, low]

theorem healthyInv_powerOn (held : Bool) (s : State) : HealthyInv (powerOn held s) := healthyInv_of_config rfl rfl

theorem healthyInv_softResetConfig (config : s.isRun = false) : HealthyInv (softResetConfig s) :=
  healthyInv_of_config config rfl

/-! ### Settings, START and SOFT RESET as commands -/

protected theorem HealthyInv.cmdLoadSettings (h : HealthyInv s) (area : Byte) (off : Half) (data : List Byte) :
    HealthyInv (cmdLoadSettings area off data s).after := by
  unfold cmdLoadSettings
  split
  · exact h
  split
  · split
    · exact HealthyInv.refreshPeerDemand h
    · exact h
  · exact h

protected theorem HealthyInv.cmdStart (h : HealthyInv s) : HealthyInv (cmdStart s).after := by
  unfold cmdStart
  split
  · exact h
  split
  · exact h
  · exact healthyInv_enterRun s

theorem healthyInv_cmdSoftReset (s : State) : HealthyInv (cmdSoftReset s).after := by
  unfold cmdSoftReset
  split
  next => exact healthyInv_softResetRun s
  next config => exact healthyInv_softResetConfig (Bool.eq_false_iff.2 config)

/-! ### Profile, blocks and watches as commands -/

protected theorem HealthyInv.cmdSelectProfile (h : HealthyInv s) (p : Byte) :
    HealthyInv (cmdSelectProfile p s).after := by
  unfold cmdSelectProfile
  split
  · exact h.settle ..
  · exact h

protected theorem HealthyInv.cmdTag (h : HealthyInv s) (n d : Half) : HealthyInv (cmdTag n d s).after := by
  unfold cmdTag
  split
  · exact h.placeBlock ..
  · exact h

protected theorem HealthyInv.removeByCommand (h : HealthyInv s) (k : BlockKey) :
    HealthyInv (removeByCommand k s).after := by
  unfold removeByCommand
  split
  · exact h.removeBlock k
  · exact h

protected theorem HealthyInv.cmdUntag (h : HealthyInv s) (n : Half) : HealthyInv (cmdUntag n s).after := by
  unfold cmdUntag
  split
  · exact h.removeByCommand _
  · exact h

protected theorem HealthyInv.cmdUnblock (h : HealthyInv s) (source origin : Byte) (n : Half) :
    HealthyInv (cmdUnblock source origin n s).after := by
  unfold cmdUnblock
  split
  · split
    · split
      · exact h.removeByCommand _
      · exact h
    · exact h
  · exact h

protected theorem HealthyInv.cmdClearOverflow (h : HealthyInv s) : HealthyInv (cmdClearOverflow s).after := by
  unfold cmdClearOverflow
  split
  · split
    · exact h
    split
    · exact (h.withBlk _).seqBlockChange
    · exact h
  · exact h

protected theorem HealthyInv.bookWatch (h : HealthyInv s) (w : Watch) : HealthyInv (bookWatch w s).after := by
  unfold bookWatch
  split
  · exact h
  · exact h

protected theorem HealthyInv.cmdBookWatch (h : HealthyInv s) (w : WatchOperand) :
    HealthyInv (cmdBookWatch w s).after := by
  unfold cmdBookWatch
  split
  · split
    · split
      · exact h.bookWatch _
      · exact h
    · exact h
  · exact h

protected theorem HealthyInv.cmdUnbookWatch (h : HealthyInv s) (station kind substate : Byte) :
    HealthyInv (cmdUnbookWatch station kind substate s).after := by
  unfold cmdUnbookWatch
  split
  · split
    · exact h
    · exact h
  · exact h

/-! ### Manual commands (R73 to R76) -/

protected theorem HealthyInv.judgeManual (h : HealthyInv s) {f : State → Reply} (hf : HealthyInv (f s).after) :
    HealthyInv (judgeManual f s).after := by
  unfold judgeManual
  split
  · exact h
  split
  · exact h
  · exact hf

protected theorem HealthyInv.manualOpen (h : HealthyInv s) : HealthyInv (manualOpen s).after := by
  unfold manualOpen
  split
  iterate 3 exact (healthyInv_takeManualTrip s).profRest
  · exact h
  iterate 2 exact (healthyInv_seqMove ..).profRest
  iterate 4 exact h

protected theorem HealthyInv.manualClose (h : HealthyInv s) : HealthyInv (manualClose s).after := by
  unfold manualClose
  split
  case h_3 => exact h
  all_goals
    split
    · exact h
    split
    · exact h
    · exact (healthyInv_seqClosing _).profRest

protected theorem HealthyInv.cmdResetFail (h : HealthyInv s) : HealthyInv (cmdResetFail s).after := by
  unfold cmdResetFail
  split
  · split
    iterate 2 exact (healthyInv_seqMove ..).profRest
    · exact h
  · exact h

/-! ### Hunting, snapshots, notices and tables as commands -/

protected theorem HealthyInv.cmdStartHunt (h : HealthyInv s) : HealthyInv (cmdStartHunt s).after := by
  unfold cmdStartHunt
  split
  · exact h.callRound
  · exact h

protected theorem HealthyInv.cmdSnapshotRequest (h : HealthyInv s) : HealthyInv (cmdSnapshotRequest s).after := by
  unfold cmdSnapshotRequest
  split
  · exact h
  · exact h

protected theorem HealthyInv.cmdReadNotice (h : HealthyInv s) : HealthyInv (cmdReadNotice s).after := by
  unfold cmdReadNotice
  split
  · exact h
  · exact h

protected theorem HealthyInv.cmdReadTable (h : HealthyInv s) (table first count : Byte) :
    HealthyInv (cmdReadTable table first count s).after := by
  unfold cmdReadTable
  split
  · split
    · exact h
    · exact h
  · exact h

end Sys2Proof.Safety
end

section
/-! The HEALTHY line (R53), the rows of the table: each keeps R53, and so does a step. -/

namespace Sys2Proof.Safety

open Sys2Proof Sys2Proof.Machine

variable {s : State}

/-- R53 holds after the command where it held before. -/
def KeepsHealthy (f : State → Host.Outcome State Fault Refusal) : Prop :=
  ∀ s t : State, HealthyInv s → f s = .next t → HealthyInv t

theorem keepsHealthy_next {f : State → State} (hf : ∀ s, HealthyInv s → HealthyInv (f s)) :
    KeepsHealthy (fun s => .next (f s)) := by
  intro s t h hnext
  obtain rfl : f s = t := by simpa using hnext
  exact hf s h

/-- A part held in reset stays as it is (R176). -/
theorem keepsHealthy_awake {f : State → State} (hf : ∀ s, HealthyInv s → HealthyInv (f s)) :
    KeepsHealthy (awake f) := by
  refine keepsHealthy_next fun s h => ?_
  split
  · exact h
  · exact hf s h

/-- A timer that runs out acts at its own instant, and one that is stopped does nothing (log 3). -/
theorem keepsHealthy_onTimer (timer : State → Option Ms) (f : Ms → State → State)
    (hf : ∀ x s, HealthyInv s → HealthyInv (f x s)) :
    KeepsHealthy (awake fun s => match timer s with
      | some x => f x (s.arriveAt x)
      | none => s) := by
  refine keepsHealthy_awake fun s h => ?_
  split
  · exact hf _ _ (h.arriveAt _)
  · exact h

/-! ### MEAS, SEQ and HUNT -/

theorem keepsHealthy_sampleFrame (bytes : List Byte) (extra : Nat) : KeepsHealthy (execSampleFrame bytes extra) := by
  refine keepsHealthy_awake fun s h => ?_
  split
  · exact h.assemble _ _
  · exact h

theorem keepsHealthy_seqExpiry (st : SeqState) {f : State → State} (hf : ∀ u, HealthyInv (f u)) :
    KeepsHealthy (awake (seqExpiry st f)) :=
  keepsHealthy_awake fun _ h => h.seqExpiry st hf

theorem keepsHealthy_huntCallReceived (a n : Byte) : KeepsHealthy (execHuntCallReceived a n) := by
  refine keepsHealthy_awake fun s h => ?_
  have taken := h.takeHandOver (.huntCallReceived a n)
  simp only
  split
  · exact taken.takeCall _
  · exact taken

/-! ### LINK -/

theorem keepsHealthy_neighbourQuietExpiry (a : Byte) : KeepsHealthy (execNeighbourQuietExpiry a) := by
  refine keepsHealthy_awake fun s h => ?_
  split
  · exact (h.arriveAt _).changeStatus ..
  · exact h

theorem keepsHealthy_neighbourLostExpiry (a : Byte) : KeepsHealthy (execNeighbourLostExpiry a) := by
  refine keepsHealthy_awake fun s h => ?_
  split
  · exact (h.arriveAt _).changeStatus ..
  · exact h

theorem keepsHealthy_rxdByteCompleted (b : Byte) (stopBit : Bool) : KeepsHealthy (execRxdByteCompleted b stopBit) := by
  refine keepsHealthy_awake fun s h => ?_
  split
  · exact h
  · exact h.takeRxByte b stopBit

theorem keepsHealthy_txExpiry (st : TxState) {f : State → State} (hf : ∀ u, HealthyInv u → HealthyInv (f u)) :
    KeepsHealthy (awake (txExpiry st f)) :=
  keepsHealthy_awake fun _ h => h.txExpiry st hf

theorem keepsHealthy_sendComplete : KeepsHealthy execSendComplete := by
  refine keepsHealthy_awake fun s h => ?_
  split
  · exact h.frame (by simp)
  · exact h

/-! ### CPORT: the response adds nothing to what the command made of the part -/

theorem healthyInv_respond {r : Reply} (h : HealthyInv r.after) : HealthyInv (respond r) := by
  unfold respond
  split
  · exact h.enterResponse ..
  split
  · exact (h.enterResponse ..).advanceFree
  · exact (h.enterResponse ..).advanceFree

theorem keepsHealthy_hostCommand {cmd : State → Reply} (hcmd : ∀ s, HealthyInv s → HealthyInv (cmd s).after) :
    KeepsHealthy (hostCommand cmd) :=
  keepsHealthy_awake fun s h => healthyInv_respond (hcmd s h)

protected theorem HealthyInv.runCommand (h : HealthyInv s) (c : HostCommand) : HealthyInv (runCommand c s).after := by
  cases c with
  | loadSettings area offset data => exact h.cmdLoadSettings area offset data
  | start => exact h.cmdStart
  | softReset => exact healthyInv_cmdSoftReset s
  | selectProfile p => exact h.cmdSelectProfile p
  | tag n d => exact h.cmdTag n d
  | untag n => exact h.cmdUntag n
  | unblock source origin n => exact h.cmdUnblock source origin n
  | clearOverflow => exact h.cmdClearOverflow
  | bookWatch w => exact h.cmdBookWatch w
  | unbookWatch station kind substate => exact h.cmdUnbookWatch station kind substate
  | manualOpen => exact h.judgeManual h.manualOpen
  | manualClose => exact h.judgeManual h.manualClose
  | resetFail => exact h.cmdResetFail
  | startHunt => exact h.cmdStartHunt
  | snapshotRequest => exact h.cmdSnapshotRequest
  | snapshotRead => exact h
  | readNotice => exact h.cmdReadNotice
  | readTable table first count => exact h.cmdReadTable table first count
  | readStatus => exact h

/-- A host command of the table is the command of its bytes (log 9). -/
theorem keepsHealthy_runCommand (c : HostCommand) : KeepsHealthy (hostCommand (runCommand c)) :=
  keepsHealthy_hostCommand fun _ h => h.runCommand c

protected theorem HealthyInv.answer (h : HealthyInv s) (j : Judgement) : HealthyInv (answer j s) := by
  cases j with
  | rejected r => exact healthyInv_respond h
  | passed c => exact healthyInv_respond (h.runCommand c)

theorem keepsHealthy_commandRejected (code length : Byte) (payload : List Byte) (crc : Byte) :
    KeepsHealthy (execCommandRejected code length payload crc) := by
  refine keepsHealthy_awake fun s h => ?_
  split
  · exact h.answer _
  · exact h

protected theorem HealthyInv.takeBuffer (h : HealthyInv s) (l : List Byte) : HealthyInv (takeBuffer l s) := by
  have buffered : HealthyInv (setBuffer l s) := h
  unfold takeBuffer
  split
  · split
    · exact h
    split
    · exact buffered.answer _
    · exact buffered
  · exact buffered

protected theorem HealthyInv.takePortByte (h : HealthyInv s) (b : Byte) : HealthyInv (takePortByte b s) := by
  unfold takePortByte
  split
  · exact h.takeBuffer _
  iterate 3 exact h

/-! ### A step -/

theorem keepsHealthy_exec (c : Instr) : KeepsHealthy (exec c) := by
  cases c with
  | sampleFrame bytes extraBits => exact keepsHealthy_sampleFrame bytes extraBits
  | frameSilenceExpiry => exact keepsHealthy_onTimer (·.meas.silenceAt) _ fun _ _ h => h.expireSilence
  | staticSample levels => exact keepsHealthy_awake fun _ h => h.takeSamples .static levels
  | sensePeriodStart => exact keepsHealthy_onTimer (·.fin.nextPeriodAt) _ fun x _ h => h.beginPeriod x
  | cyclicSample levels => exact keepsHealthy_awake fun _ h => h.takeSamples .cyclic levels
  | discrepancyTimeout => exact keepsHealthy_onTimer (·.fin.discAt) _ fun _ _ h => h.expireDiscrepancy
  | tripRequest cause => exact keepsHealthy_awake fun _ h => (h.takeHandOver _).seqTripRequest cause
  | tripFailExpiry => exact keepsHealthy_seqExpiry .tripping (healthyInv_seqFail _ _)
  | deadTimeExpiry => exact keepsHealthy_seqExpiry .deadTime healthyInv_seqDeadTimeOver
  | holdMaxExpiry => exact keepsHealthy_seqExpiry .deadHold (healthyInv_seqMove _ _ _)
  | closeFailExpiry => exact keepsHealthy_seqExpiry .closing (healthyInv_seqFail _ _)
  | reclaimExpiry => exact keepsHealthy_seqExpiry .reclaim fun _ => healthyInv_seqMove ..
  | loadSettings area offset data => exact keepsHealthy_runCommand (.loadSettings area offset data)
  | start => exact keepsHealthy_runCommand .start
  | softReset => exact keepsHealthy_runCommand .softReset
  | selectProfile profile => exact keepsHealthy_runCommand (.selectProfile profile)
  | tag number duration => exact keepsHealthy_runCommand (.tag number duration)
  | untag number => exact keepsHealthy_runCommand (.untag number)
  | unblock source origin number => exact keepsHealthy_runCommand (.unblock source origin number)
  | clearOverflow => exact keepsHealthy_runCommand .clearOverflow
  | bookWatch w => exact keepsHealthy_runCommand (.bookWatch w)
  | unbookWatch station kind substate => exact keepsHealthy_runCommand (.unbookWatch station kind substate)
  | manualOpen => exact keepsHealthy_runCommand .manualOpen
  | manualClose => exact keepsHealthy_runCommand .manualClose
  | resetFail => exact keepsHealthy_runCommand .resetFail
  | startHunt => exact keepsHealthy_runCommand .startHunt
  | snapshotRequest => exact keepsHealthy_runCommand .snapshotRequest
  | snapshotRead => exact keepsHealthy_runCommand .snapshotRead
  | readNotice => exact keepsHealthy_runCommand .readNotice
  | readTable table first count => exact keepsHealthy_runCommand (.readTable table first count)
  | readStatus => exact keepsHealthy_runCommand .readStatus
  | commandRejected code length payload crc => exact keepsHealthy_commandRejected code length payload crc
  | transactionBegin => exact keepsHealthy_awake fun _ h => h
  | transactionEnd => exact keepsHealthy_awake fun _ h => h
  | powerOnReset cause => exact keepsHealthy_next fun s _ => healthyInv_powerOn _ s
  | blockRecordExpiry key => exact keepsHealthy_onTimer (recordInstant key) _ fun _ _ h => h.removeBlock key
  | watchFrameMatch source body => exact keepsHealthy_awake fun _ h => (h.takeHandOver _).matchFrame source body
  | relaxTimerExpiry => exact keepsHealthy_onTimer (·.prof.relaxAt) _ fun _ _ h => h.expireRelax
  | linkFrameReceived bytes => exact keepsHealthy_awake fun _ h => (h.takeHandOver _).receiveFrame bytes
  | receiveGapTimeout => exact keepsHealthy_awake fun _ h => h.withLink _
  | neighbourQuietExpiry address => exact keepsHealthy_neighbourQuietExpiry address
  | neighbourLostExpiry address => exact keepsHealthy_neighbourLostExpiry address
  | framePlacement p => exact keepsHealthy_awake fun _ h => h.frame (by simp)
  | carrierDetectChange busy => exact keepsHealthy_awake fun _ h => h.frame (by simp)
  | deferQuietExpiry => exact keepsHealthy_txExpiry .defer fun _ h => h.frame (by simp)
  | backoffExpiry => exact keepsHealthy_txExpiry .backoff fun _ h => h.frame (by simp)
  | keyupExpiry => exact keepsHealthy_txExpiry .keyup fun _ h => h.frame (by simp)
  | sendComplete => exact keepsHealthy_sendComplete
  | keydownExpiry => exact keepsHealthy_txExpiry .keydown fun _ h => h.frame (by simp)
  | beaconTimerExpiry => exact keepsHealthy_onTimer (·.link.beaconAt) _ fun _ _ h => h.placeBeacon
  | restrainReceived source r => exact keepsHealthy_awake fun _ h => (h.takeHandOver _).onRecordIf _ source _
  | releaseReceived source => exact keepsHealthy_awake fun _ h => (h.takeHandOver _).onRecordIf _ source _
  | stateFrameReceived source x => exact keepsHealthy_awake fun _ h => (h.takeHandOver _).onRecordIf _ source _
  | tripFrameReceived source t => exact keepsHealthy_awake fun _ h => (h.takeHandOver _).onRecordIf _ source _
  | breakerFailReceived source op => exact keepsHealthy_awake fun _ h => (h.takeHandOver _).takeBreakerFail source
  | restraintExpiry address => exact keepsHealthy_onTimer (restraintInstant address) _ fun _ _ h => h.onRecord address _
  | refreshTimerExpiry => exact keepsHealthy_onTimer (·.tripco.refreshAt) _ fun _ _ h => h.refreshRestraint
  | huntCallReceived source seqNo => exact keepsHealthy_huntCallReceived source seqNo
  | huntReportReceived source r => exact keepsHealthy_awake fun _ h => h.frame (by simp)
  | huntVerdictReceived source round => exact keepsHealthy_awake fun _ h => h.frame (by simp)
  | roundDeadlineExpiry => exact keepsHealthy_onTimer (·.hunt.deadlineAt) _ fun _ _ h => h.reachDeadline
  | cooldownExpiry => exact keepsHealthy_onTimer (·.hunt.cooldownAt) _ fun _ _ h => h.endCooldown
  | rxdByteCompleted byte stopBit => exact keepsHealthy_rxdByteCompleted byte stopBit
  | commandByteTaken byte => exact keepsHealthy_awake fun _ h => h.takePortByte byte
  | resetnRelease =>
    refine keepsHealthy_next fun s h => ?_
    split
    · exact healthyInv_powerOn false s
    · exact h

protected theorem HealthyInv.tick (h : HealthyInv s) : HealthyInv (tick s) := by
  unfold tick
  split
  · exact h
  · exact h

/-- Settles O57: what moves SEQ, MEAS or the part-wide state sets the line anew before the step ends, and every other
event touches neither the line nor its three conditions. -/
theorem healthyInvariant : Obligations.HealthyInvariant := by
  unfold Obligations.HealthyInvariant Kept
  intro s t h hstep
  unfold step at hstep
  split at hstep
  next c rest _ => exact keepsHealthy_exec c (s.withPending rest) t h hstep
  next =>
    split at hstep
    next e _ => exact keepsHealthy_exec e s t h hstep
    next =>
      obtain rfl : tick s = t := by simpa using hstep
      exact h.tick

end Sys2Proof.Safety
end

section
/-! What each invariant of the part reads of a state: two states that agree there have it together. -/

namespace Sys2Proof.Safety

open Sys2Proof Sys2Proof.Machine

variable {s t : State}

theorem image_congr (same : t.cport.staging = s.cport.staging ∧ t.cport.locked = s.cport.locked) :
    t.image = s.image := by
  simp [State.image, same]

theorem isRun_congr (same : t.cport.part = s.cport.part) : t.isRun = s.isRun := by
  simp [State.isRun, same]

protected theorem SequencerInv.congr (h : SequencerInv s)
    (same : t.sequencer = s.sequencer ∧ t.cport.part = s.cport.part ∧ t.shotLimit = s.shotLimit) :
    SequencerInv t := by
  obtain ⟨sequencer, part, limit⟩ := same
  constructor <;> simp only [sequencer, isRun_congr part, limit]
  · exact h.tripLine
  · exact h.closeLine
  · exact h.timer
  · exact h.dormant
  · exact h.shot
  · exact h.trip
  · exact h.between

protected theorem ProfileInv.congr (h : ProfileInv s)
    (same : t.prof = s.prof ∧ t.fin.fieldDemand = s.fin.fieldDemand ∧ t.link.table = s.link.table ∧
      t.image = s.image) : ProfileInv t := by
  obtain ⟨prof, field, table, image⟩ := same
  constructor <;> simp only [prof, field, IsPeerDemand, table, image]
  · exact h.ownDemand
  · exact h.copy
  · exact h.peer
  · exact h.target
  · exact h.effective

protected theorem NoticeInv.congr (h : NoticeInv s)
    (same : t.cport.notices = s.cport.notices ∧ t.cport.attn = s.cport.attn ∧ t.image = s.image) :
    NoticeInv t := by
  obtain ⟨notices, attn, image⟩ := same
  constructor <;> simp only [notices, attn, image]
  · exact h.room
  · exact h.attn

protected theorem SettingsInv.congr (h : SettingsInv s)
    (same : t.cport.part = s.cport.part ∧ t.cport.staging = s.cport.staging ∧ t.cport.locked = s.cport.locked) :
    SettingsInv t := by
  obtain ⟨part, staging, locked⟩ := same
  constructor <;> simp only [isRun_congr part, staging, locked]
  · exact h.locked
  · exact h.areaS
  · exact h.areaF

protected theorem TransmitInv.congr (h : TransmitInv s)
    (same : t.link.sol = s.link.sol ∧ t.link.key = s.link.key ∧ t.link.tx = s.link.tx ∧ t.link.txd = s.link.txd ∧
      t.link.slots = s.link.slots ∧ t.link.beaconAt = s.link.beaconAt ∧ t.cport.part = s.cport.part) :
    TransmitInv t := by
  obtain ⟨sol, key, tx, txd, slots, beacon, part⟩ := same
  constructor <;> simp only [sol, key, tx, txd, slots, beacon, isRun_congr part]
  · exact h.sol
  · exact h.key
  · exact h.txd
  · exact h.quiet

protected theorem BlockInv.congr (h : BlockInv s) (same : t.blk.table = s.blk.table) : BlockInv t := by
  constructor <;> simp only [same]
  · exact h.room
  · exact h.keys

protected theorem WatchInv.congr (h : WatchInv s) (same : t.blk.watches = s.blk.watches) : WatchInv t := by
  constructor <;> simp only [same]
  · exact h.room
  · exact h.keys

protected theorem NeighbourInv.congr (h : NeighbourInv s) (same : t.link.table = s.link.table) : NeighbourInv t := by
  constructor <;> simp only [same]
  · exact h.room
  · exact h.addresses

protected theorem HuntInv.congr (h : HuntInv s)
    (same : t.hunt.table = s.hunt.table ∧ t.hunt.arm = s.hunt.arm ∧ t.hunt.phase = s.hunt.phase ∧
      t.hunt.deadlineAt = s.hunt.deadlineAt ∧ t.hunt.cooldownAt = s.hunt.cooldownAt) : HuntInv t := by
  obtain ⟨table, arm, phase, deadline, cooldown⟩ := same
  constructor <;> simp only [table, arm, phase, deadline, cooldown]
  · exact h.room
  · exact h.stations
  · exact h.arm
  · exact h.deadline
  · exact h.cooldown

protected theorem MeasureInv.congr (h : MeasureInv s) (same : t.meas = s.meas ∧ t.elem = s.elem) : MeasureInv t := by
  obtain ⟨meas, elem⟩ := same
  constructor <;> simp only [meas, elem]
  · exact h.partialCycle
  · exact h.losses
  · exact h.snapshot
  · exact h.accumulators
  · exact h.run

end Sys2Proof.Safety
end

section
/-! Two relations between a state and a later one of the same step, and what they are closed under. An operation keeps an
invariant where the state it leaves has it as soon as the state the step began with had it. The invariants of SEQ and of
PROF are broken and mended within some operations, so the others are kept apart from these two. -/

namespace Sys2Proof.Safety

open Sys2Proof Sys2Proof.Machine

variable {s t u : State}

/-- From `s` to `t` every invariant is kept but those of SEQ and PROF, and no command joins or leaves the queue. -/
structure KeepsApart (s t : State) : Prop where
  pending : t.pending = s.pending
  notices : NoticeInv s → NoticeInv t
  settings : SettingsInv s → SettingsInv t
  transmit : TransmitInv s → TransmitInv t
  blocks : BlockInv s → BlockInv t
  watches : WatchInv s → WatchInv t
  neighbours : NeighbourInv s → NeighbourInv t
  hunt : HuntInv s → HuntInv t
  measure : MeasureInv s → MeasureInv t

/-- From `s` to `t` every invariant is kept, and no command joins or leaves the queue. -/
structure Keeps (s t : State) : Prop extends KeepsApart s t where
  sequencer : SequencerInv s → SequencerInv t
  profile : ProfileInv s → ProfileInv t

protected theorem Keeps.rfl : Keeps s s := ⟨⟨rfl, id, id, id, id, id, id, id, id⟩, id, id⟩

/-- An operation that reaches neither LINK, BLK, HUNT, MEAS and ELEM nor the settings and the notices. -/
protected theorem KeepsApart.frame (h : KeepsApart s u)
    (same : t.pending = u.pending ∧ t.blk = u.blk ∧ t.link = u.link ∧ t.hunt = u.hunt ∧ t.meas = u.meas ∧
      t.elem = u.elem ∧ t.cport.part = u.cport.part ∧ t.cport.staging = u.cport.staging ∧
      t.cport.locked = u.cport.locked ∧ t.cport.notices = u.cport.notices ∧ t.cport.attn = u.cport.attn) :
    KeepsApart s t := by
  obtain ⟨pending, blk, link, hunt, meas, elem, part, staging, locked, notices, attn⟩ := same
  exact {
    pending := pending.trans h.pending
    notices := fun i => (h.notices i).congr ⟨notices, attn, image_congr ⟨staging, locked⟩⟩
    settings := fun i => (h.settings i).congr ⟨part, staging, locked⟩
    transmit := fun i => (h.transmit i).congr (by simp [link, part])
    blocks := fun i => (h.blocks i).congr (by rw [blk])
    watches := fun i => (h.watches i).congr (by rw [blk])
    neighbours := fun i => (h.neighbours i).congr (by rw [link])
    hunt := fun i => (h.hunt i).congr (by simp [hunt])
    measure := fun i => (h.measure i).congr ⟨meas, elem⟩ }

/-- An operation that reaches no block's invariant. -/
protected theorem Keeps.frame (h : Keeps s u)
    (same : t.pending = u.pending ∧ t.blk = u.blk ∧ t.link = u.link ∧ t.hunt = u.hunt ∧ t.meas = u.meas ∧
      t.elem = u.elem ∧ t.cport.part = u.cport.part ∧ t.cport.staging = u.cport.staging ∧
      t.cport.locked = u.cport.locked ∧ t.cport.notices = u.cport.notices ∧ t.cport.attn = u.cport.attn)
    (kept : t.sequencer = u.sequencer ∧ t.prof = u.prof ∧ t.fin.fieldDemand = u.fin.fieldDemand) : Keeps s t := by
  have apart := h.toKeepsApart.frame same
  obtain ⟨-, -, link, -, -, -, part, staging, locked, -, -⟩ := same
  obtain ⟨sequencer, prof, field⟩ := kept
  have image : t.image = u.image := image_congr ⟨staging, locked⟩
  exact {
    toKeepsApart := apart
    sequencer := fun i => (h.sequencer i).congr ⟨sequencer, part, by simp [State.shotLimit, image, prof]⟩
    profile := fun i => (h.profile i).congr ⟨prof, field, by rw [link], image⟩ }

/-! ### A block's state replaced -/

protected theorem Keeps.withFin (h : Keeps s u) {f : FinState} (field : f.fieldDemand = u.fin.fieldDemand) :
    Keeps s { u with fin := f } :=
  h.frame (by simp) ⟨rfl, rfl, field⟩

protected theorem Keeps.withMeas (h : Keeps s u) {m : MeasState}
    (kept : MeasureInv u → MeasureInv { u with meas := m }) : Keeps s { u with meas := m } where
  pending := h.pending
  notices i := (h.notices i).congr ⟨rfl, rfl, rfl⟩
  settings i := (h.settings i).congr ⟨rfl, rfl, rfl⟩
  transmit i := (h.transmit i).congr (by simp)
  blocks i := (h.blocks i).congr rfl
  watches i := (h.watches i).congr rfl
  neighbours i := (h.neighbours i).congr rfl
  hunt i := (h.hunt i).congr (by simp)
  measure i := kept (h.measure i)
  sequencer i := (h.sequencer i).congr ⟨rfl, rfl, rfl⟩
  profile i := (h.profile i).congr ⟨rfl, rfl, rfl, rfl⟩

protected theorem Keeps.withElem (h : Keeps s u) {e : ElemState}
    (kept : MeasureInv u → MeasureInv { u with elem := e }) : Keeps s { u with elem := e } where
  pending := h.pending
  notices i := (h.notices i).congr ⟨rfl, rfl, rfl⟩
  settings i := (h.settings i).congr ⟨rfl, rfl, rfl⟩
  transmit i := (h.transmit i).congr (by simp)
  blocks i := (h.blocks i).congr rfl
  watches i := (h.watches i).congr rfl
  neighbours i := (h.neighbours i).congr rfl
  hunt i := (h.hunt i).congr (by simp)
  measure i := kept (h.measure i)
  sequencer i := (h.sequencer i).congr ⟨rfl, rfl, rfl⟩
  profile i := (h.profile i).congr ⟨rfl, rfl, rfl, rfl⟩

protected theorem Keeps.withHunt (h : Keeps s u) {x : HuntState}
    (kept : HuntInv u → HuntInv { u with hunt := x }) : Keeps s { u with hunt := x } where
  pending := h.pending
  notices i := (h.notices i).congr ⟨rfl, rfl, rfl⟩
  settings i := (h.settings i).congr ⟨rfl, rfl, rfl⟩
  transmit i := (h.transmit i).congr (by simp)
  blocks i := (h.blocks i).congr rfl
  watches i := (h.watches i).congr rfl
  neighbours i := (h.neighbours i).congr rfl
  hunt i := kept (h.hunt i)
  measure i := (h.measure i).congr ⟨rfl, rfl⟩
  sequencer i := (h.sequencer i).congr ⟨rfl, rfl, rfl⟩
  profile i := (h.profile i).congr ⟨rfl, rfl, rfl, rfl⟩

protected theorem Keeps.withBlk (h : Keeps s u) {b : BlkState} (blocks : BlockInv u → BlockInv { u with blk := b })
    (watches : WatchInv u → WatchInv { u with blk := b }) : Keeps s { u with blk := b } where
  pending := h.pending
  notices i := (h.notices i).congr ⟨rfl, rfl, rfl⟩
  settings i := (h.settings i).congr ⟨rfl, rfl, rfl⟩
  transmit i := (h.transmit i).congr (by simp)
  blocks i := blocks (h.blocks i)
  watches i := watches (h.watches i)
  neighbours i := (h.neighbours i).congr rfl
  hunt i := (h.hunt i).congr (by simp)
  measure i := (h.measure i).congr ⟨rfl, rfl⟩
  sequencer i := (h.sequencer i).congr ⟨rfl, rfl, rfl⟩
  profile i := (h.profile i).congr ⟨rfl, rfl, rfl, rfl⟩

protected theorem KeepsApart.withLink (h : KeepsApart s u) {x : LinkState}
    (transmit : TransmitInv s → TransmitInv { u with link := x })
    (neighbours : NeighbourInv u → NeighbourInv { u with link := x }) : KeepsApart s { u with link := x } where
  pending := h.pending
  notices i := (h.notices i).congr ⟨rfl, rfl, rfl⟩
  settings i := (h.settings i).congr ⟨rfl, rfl, rfl⟩
  transmit := transmit
  blocks i := (h.blocks i).congr rfl
  watches i := (h.watches i).congr rfl
  neighbours i := neighbours (h.neighbours i)
  hunt i := (h.hunt i).congr (by simp)
  measure i := (h.measure i).congr ⟨rfl, rfl⟩

/-- What LINK does to its transmitter or receiver, its neighbour table being as it was. -/
protected theorem Keeps.withLink (h : Keeps s u) {x : LinkState} (table : x.table = u.link.table)
    (transmit : TransmitInv s → TransmitInv { u with link := x }) : Keeps s { u with link := x } where
  toKeepsApart := h.toKeepsApart.withLink transmit fun i => i.congr table
  sequencer i := (h.sequencer i).congr ⟨rfl, rfl, rfl⟩
  profile i := (h.profile i).congr ⟨rfl, rfl, table, rfl⟩

protected theorem Keeps.withSequencer (h : Keeps s u) {q : SequencerState}
    (kept : SequencerInv u → SequencerInv { u with sequencer := q }) : Keeps s { u with sequencer := q } where
  toKeepsApart := h.toKeepsApart.frame (by simp)
  sequencer i := kept (h.sequencer i)
  profile i := (h.profile i).congr ⟨rfl, rfl, rfl, rfl⟩

protected theorem Keeps.withProf (h : Keeps s u) {p : ProfState}
    (sequencer : SequencerInv u → SequencerInv { u with prof := p })
    (profile : ProfileInv u → ProfileInv { u with prof := p }) : Keeps s { u with prof := p } where
  toKeepsApart := h.toKeepsApart.frame (by simp)
  sequencer i := sequencer (h.sequencer i)
  profile i := profile (h.profile i)

/-! ### Notices (R179, R180) -/

/-- A notice is queued with ATTN set anew, and dropped where 64 are present. -/
protected theorem NoticeInv.queueTagged (h : NoticeInv u) (k : NoticeKind) (a : Byte) (d1 d2 : Half) (x y : Byte) :
    NoticeInv (queueTagged k a d1 d2 x y u) := by
  have image : (Machine.queueTagged k a d1 d2 x y u).image = u.image := by simp
  constructor
  · simp only [Machine.queueTagged, CportState.queue]
    split
    · simp only [List.length_append, List.length_singleton]
      omega
    · exact h.room
  · rw [image]
    simp only [Machine.queueTagged, CportState.queue]
    split
    · exact (enabledQueued_iff _ _).symm
    · exact h.attn

protected theorem KeepsApart.queueTagged (h : KeepsApart s u) (k : NoticeKind) (a : Byte) (d1 d2 : Half) (x y : Byte) :
    KeepsApart s (queueTagged k a d1 d2 x y u) where
  pending := by simp [h.pending]
  notices i := (h.notices i).queueTagged k a d1 d2 x y
  settings i := (h.settings i).congr (by simp)
  transmit i := (h.transmit i).congr (by simp)
  blocks i := (h.blocks i).congr (by simp)
  watches i := (h.watches i).congr (by simp)
  neighbours i := (h.neighbours i).congr (by simp)
  hunt i := (h.hunt i).congr (by simp)
  measure i := (h.measure i).congr (by simp)

protected theorem Keeps.queueTagged (h : Keeps s u) (k : NoticeKind) (a : Byte) (d1 d2 : Half) (x y : Byte) :
    Keeps s (queueTagged k a d1 d2 x y u) where
  toKeepsApart := h.toKeepsApart.queueTagged k a d1 d2 x y
  sequencer i := (h.sequencer i).congr (by simp [State.shotLimit])
  profile i := (h.profile i).congr (by simp)

protected theorem Keeps.queueOwn (h : Keeps s u) (k : NoticeKind) (d1 d2 : Half) : Keeps s (queueOwn k d1 d2 u) :=
  h.queueTagged k _ d1 d2 0 0

protected theorem Keeps.queueAbout (h : Keeps s u) (k : NoticeKind) (a : Byte) (d1 d2 : Half) :
    Keeps s (queueAbout k a d1 d2 u) := h.queueTagged k a d1 d2 0 0

/-! ### Hand-overs, the count and the lines -/

protected theorem Keeps.handOver (h : Keeps s u) (e : Instr) : Keeps s (handOver e u) := h.frame (by simp) (by simp)

protected theorem Keeps.takeHandOver (h : Keeps s u) (e : Instr) : Keeps s (takeHandOver e u) :=
  h.frame (by simp) (by simp)

protected theorem Keeps.placeFrame (h : Keeps s u) (f : OwnedFrame) : Keeps s (placeFrame f u) :=
  h.frame (by simp) (by simp)

protected theorem Keeps.askBeacon (h : Keeps s u) : Keeps s (askBeacon u) := h.frame (by simp) (by simp)

protected theorem Keeps.advanceFree (h : Keeps s u) : Keeps s (advanceFree u) := h.frame (by simp) (by simp)

protected theorem Keeps.arriveAt (h : Keeps s u) (x : Ms) : Keeps s (u.arriveAt x) := h.frame (by simp) (by simp)

protected theorem Keeps.refreshHealthy (h : Keeps s u) : Keeps s (refreshHealthy u) := h.frame (by simp) (by simp)

protected theorem Keeps.setSense (h : Keeps s u) (x : SenseState) : Keeps s (setSense x u) :=
  h.frame (by simp) (by simp)

end Sys2Proof.Safety
end

section
/-! What each step keeps: the block table, and the transitions of SEQ. -/

namespace Sys2Proof.Safety

open Sys2Proof Sys2Proof.Machine

variable {s t u : State}

/-! ### The block table (R78 to R81) -/

theorem map_key_refreshRecord (k : BlockKey) (e : BlockEffect) (x : Option Ms) (l : List BlockRecord) :
    (refreshRecord k e x l).map (·.key) = l.map (·.key) := by
  rw [refreshRecord, List.map_map]
  refine List.map_congr_left fun r _ => ?_
  simp only [Function.comp_apply]
  split <;> rfl

/-- With the overflow flag set or clear, the records are as they were. -/
protected theorem Keeps.withOverflow (h : Keeps s u) (b : Bool) :
    Keeps s { u with blk := { u.blk with overflow := b } } :=
  h.withBlk (fun i => i.congr rfl) (fun i => i.congr rfl)

protected theorem Keeps.withTable (h : Keeps s u) {l : List BlockRecord}
    (kept : BlockInv u → l.length ≤ 16 ∧ (l.map (·.key)).Nodup) :
    Keeps s { u with blk := { u.blk with table := l } } :=
  h.withBlk (fun i => ⟨(kept i).1, (kept i).2⟩) (fun i => i.congr rfl)

protected theorem Keeps.storeBlock (h : Keeps s u) (k : BlockKey) (e : BlockEffect) (d : Option Nat) :
    Keeps s (storeBlock k e d u) := by
  by_cases present : hasKey k u.blk.table = true
  · rw [storeBlock_refresh k e d u present]
    exact h.withTable fun i => ⟨by simpa [refreshRecord] using i.room, by rw [map_key_refreshRecord]; exact i.keys⟩
  rw [Bool.not_eq_true] at present
  by_cases room : u.blk.table.length < 16
  · rw [storeBlock_new k e d u present room]
    have new : ∀ r ∈ u.blk.table, r.key ≠ k := by simpa [hasKey] using present
    refine h.withTable fun i => ⟨by rw [List.length_append]; exact room, ?_⟩
    rw [List.map_append, List.nodup_append]
    refine ⟨i.keys, by simp, ?_⟩
    simpa using new
  · rw [storeBlock_full k e d u present room]
    exact (h.withOverflow true).queueOwn _ _ _

/-- Records that leave the table leave the others as they were. -/
protected theorem Keeps.filterTable (h : Keeps s u) (p : BlockRecord → Bool) :
    Keeps s { u with blk := { u.blk with table := u.blk.table.filter p } } :=
  h.withTable fun i => ⟨Nat.le_trans (List.length_filter_le ..) i.room, i.keys.sublist (List.filter_sublist.map _)⟩

/-! ### A state of SEQ in RUN -/

/-- A state of SEQ that its invariant allows in RUN under this shot limit. -/
structure FitsRun (limit : Nat) (q : SequencerState) : Prop where
  tripLine : q.tripLine = true ↔ q.st = .tripping
  closeLine : q.closeLine = true ↔ q.st = .closing
  timer : q.timer.isSome = timedState q.st
  live : q.st ≠ .dormant
  shot : q.shot ≤ 4
  trip : q.st = .tripping → q.noReclose = false → 1 ≤ q.shot
  between : q.st = .deadTime ∨ q.st = .deadHold → 1 ≤ q.shot ∧ q.shot ≤ limit

theorem FitsRun.sequencerInv (h : FitsRun s.shotLimit s.sequencer) (run : s.isRun = true) : SequencerInv s where
  tripLine := h.tripLine
  closeLine := h.closeLine
  timer := h.timer
  dormant := by simp [run, h.live]
  shot := h.shot
  trip := h.trip
  between := h.between

theorem SequencerInv.isRun (h : SequencerInv s) (live : s.sequencer.st ≠ .dormant) : s.isRun = true :=
  Bool.not_eq_false _ ▸ fun config => live (h.dormant.1 config)

theorem SequencerInv.fitsRun (h : SequencerInv s) (live : s.sequencer.st ≠ .dormant) :
    FitsRun s.shotLimit s.sequencer where
  tripLine := h.tripLine
  closeLine := h.closeLine
  timer := h.timer
  live := live
  shot := h.shot
  trip := h.trip
  between := h.between

/-- The states whose shot count answers to nothing but its own range. -/
def plainState : SeqState → Bool
  | .closedRest | .closing | .reclaim | .lockout | .opened | .failed => true
  | .dormant | .tripping | .deadTime | .deadHold => false

/-- SEQ enters a state with the lines and the timer that belong to it (R55, R56). -/
theorem fitsRun_enter {limit : Nat} {q : SequencerState} {st : SeqState} {d : Option Ms}
    (timer : d.isSome = timedState st) (live : st ≠ .dormant) (shot : q.shot ≤ 4)
    (trip : st = .tripping → q.noReclose = false → 1 ≤ q.shot)
    (between : st = .deadTime ∨ st = .deadHold → 1 ≤ q.shot ∧ q.shot ≤ limit) : FitsRun limit (q.enter st d) where
  tripLine := by simp [SequencerState.enter]
  closeLine := by simp [SequencerState.enter]
  timer := timer
  live := live
  shot := shot
  trip := trip
  between := between

theorem fitsRun_enter_plain {limit : Nat} {q : SequencerState} {st : SeqState} {d : Option Ms}
    (plain : plainState st = true) (timer : d.isSome = timedState st) (shot : q.shot ≤ 4) :
    FitsRun limit (q.enter st d) := by
  refine fitsRun_enter timer ?_ shot ?_ ?_
  · rintro rfl
    simp [plainState] at plain
  · rintro rfl
    simp [plainState] at plain
  · rintro (rfl | rfl) <;> simp [plainState] at plain

/-! ### Transitions (R55, R56, R70, R72) -/

/-- SEQ's own state is replaced by one that fits RUN, the part being in RUN as SEQ is not DORMANT. -/
protected theorem Keeps.moves (h : Keeps s u) (live : u.sequencer.st ≠ .dormant) {q : SequencerState}
    (fits : SequencerInv u → FitsRun u.shotLimit q) : Keeps s { u with sequencer := q } :=
  h.withSequencer fun i => (fits i).sequencerInv (i.isRun live)

protected theorem Keeps.handTransition (h : Keeps s u) : Keeps s (handTransition u) := h.frame (by simp) (by simp)

protected theorem Keeps.announceState (h : Keeps s u) (r : Reason) : Keeps s (announceState r u) :=
  (h.placeFrame _).queueOwn ..

/-- FIN, TRIPCO and the host learn of an announced transition. -/
protected theorem Keeps.seqMove_of_enter {st : SeqState} {d : Option Ms} (h : Keeps s (seqEnter st d u)) (r : Reason) :
    Keeps s (seqMove st d r u) :=
  (h.announceState r).handTransition

/-- An announced transition to a plain state, SEQ's counts being those of `q`. -/
protected theorem Keeps.seqMoveWith (h : Keeps s u) (live : u.sequencer.st ≠ .dormant) {q : SequencerState}
    {st : SeqState} {d : Option Ms} (r : Reason) (plain : plainState st = true) (timer : d.isSome = timedState st)
    (shot : u.sequencer.shot ≤ 4 → q.shot ≤ 4) : Keeps s (seqMove st d r { u with sequencer := q }) := by
  have entered : Keeps s (seqEnter st d { u with sequencer := q }) :=
    h.moves (q := q.enter st d) live fun i => fitsRun_enter_plain plain timer (shot i.shot)
  exact entered.seqMove_of_enter r

/-- An announced transition to a plain state. -/
protected theorem Keeps.seqMove (h : Keeps s u) (live : u.sequencer.st ≠ .dormant) {st : SeqState} {d : Option Ms}
    (r : Reason) (plain : plainState st = true) (timer : d.isSome = timedState st) : Keeps s (seqMove st d r u) :=
  h.seqMoveWith live r plain timer id

protected theorem Keeps.seqSlip (h : Keeps s u) (live : u.sequencer.st ≠ .dormant) {st : SeqState} {d : Option Ms}
    (fits : SequencerInv u → FitsRun u.shotLimit (u.sequencer.enter st d)) : Keeps s (seqSlip st d u) :=
  (h.moves live fits).handTransition

/-! ### The ends of a coil operation (R61 to R63, R67) -/

protected theorem Keeps.seqOpened (h : Keeps s u) (tripping : u.sequencer.st = .tripping) : Keeps s (seqOpened u) := by
  have live : u.sequencer.st ≠ .dormant := by simp [tripping]
  unfold Machine.seqOpened
  split
  · exact h.seqMove live .noReclose rfl rfl
  next reclose =>
    split
    · exact h.seqMove live .shotLimit rfl rfl
    next below =>
      refine h.seqSlip live fun i => fitsRun_enter rfl (by simp) i.shot (by simp) fun _ => ?_
      exact ⟨i.trip tripping (by simpa using reclose), Nat.le_of_not_lt below⟩

protected theorem Keeps.seqClosed (h : Keeps s u) (live : u.sequencer.st ≠ .dormant) : Keeps s (seqClosed u) :=
  h.seqMove live .closeDone rfl rfl

/-- SEQ enters CLOSING, its counts being those of `q`. -/
protected theorem Keeps.seqClosingWith (h : Keeps s u) (live : u.sequencer.st ≠ .dormant) {q : SequencerState}
    (shot : u.sequencer.shot ≤ 4 → q.shot ≤ 4) : Keeps s (seqClosing { u with sequencer := q }) := by
  have closing : ∀ d : Nat, Keeps s (seqSlip .closing (u.timerIn d) { u with sequencer := q }) := fun d =>
    Keeps.handTransition (h.moves (q := q.enter .closing _) live fun i => fitsRun_enter_plain rfl rfl (shot i.shot))
  simp only [seqClosing]
  split
  · exact (closing _).seqClosed (by simp [SequencerState.enter])
  · exact closing _

protected theorem Keeps.seqFail (h : Keeps s u) (live : u.sequencer.st ≠ .dormant) (op : FailedOp) (r : Reason) :
    Keeps s (seqFail op r u) := by
  have failed : Keeps s (seqEnter .failed none u) := h.moves live fun i => fitsRun_enter_plain rfl rfl i.shot
  exact (((failed.placeFrame _).queueOwn ..).announceState r).handTransition

/-! ### Trips (R58 to R61) -/

protected theorem Keeps.finishTrip (h : Keeps s u) (tripping : u.sequencer.st = .tripping) : Keeps s (finishTrip u) := by
  have announced : Keeps s (handTransition (announceTrip u)) := ((h.placeFrame _).queueOwn ..).handTransition
  by_cases opened : u.fin.position = .opened
  · rw [finishTrip_of_open u opened]
    exact announced.seqOpened (by simp [tripping])
  · rw [finishTrip_of_not_open u opened]
    exact announced

/-- A trip either counts a shot or sets no-reclose (R59, R74). -/
theorem fitsRun_trip {limit : Nat} {q : SequencerState} {cause : Cause} {shot : Nat} {final : Bool} {x : Ms}
    (range : shot ≤ 4) (counts : final = false → 1 ≤ shot) : FitsRun limit (q.trip cause shot final (some x)) where
  tripLine := by simp [SequencerState.trip, SequencerState.enter]
  closeLine := by simp [SequencerState.trip, SequencerState.enter]
  timer := rfl
  live := by simp [SequencerState.trip, SequencerState.enter]
  shot := range
  trip := fun _ => counts
  between := by simp [SequencerState.trip, SequencerState.enter]

protected theorem Keeps.takeTrip (h : Keeps s u) (live : u.sequencer.st ≠ .dormant) (c : ProtCause) :
    Keeps s (takeTrip c u) := by
  have entered : Keeps s { u with
      sequencer := u.sequencer.trip (protCause c) (min (u.sequencer.shot + 1) 4) (tripIsFinal c u)
        (u.timerIn u.image.tripFail) } :=
    h.moves live fun _ => fitsRun_trip (by omega) (by omega)
  unfold Machine.takeTrip
  split
  · exact (entered.storeBlock _ .lock none).finishTrip (by simp [SequencerState.trip, SequencerState.enter])
  · exact entered.finishTrip (by simp [SequencerState.trip, SequencerState.enter])

protected theorem Keeps.takeManualTrip (h : Keeps s u) (live : u.sequencer.st ≠ .dormant) :
    Keeps s (takeManualTrip u) :=
  Keeps.finishTrip (h.moves live fun i => fitsRun_trip i.shot (by simp)) rfl

/-! ### A relax that completes (R108, R109): at rest no shot count answers to the limit -/

protected theorem Keeps.completeRelax (h : Keeps s u) (rest : u.atRest = true) : Keeps s (completeRelax u) := by
  have still : ¬ (u.sequencer.st = .deadTime ∨ u.sequencer.st = .deadHold) := by
    rintro (st | st) <;> simp [State.atRest, SequencerState.atRest, st] at rest
  refine ((h.withProf ?_ ?_).queueOwn ..).askBeacon
  · exact fun i => ⟨i.tripLine, i.closeLine, i.timer, i.dormant, i.shot, i.trip, fun st => absurd st still⟩
  · exact fun i => ⟨i.ownDemand, i.copy, i.peer, i.target, Nat.le_refl _⟩

protected theorem Keeps.profRest (h : Keeps s u) : Keeps s (profRest u) := by
  unfold Machine.profRest
  split
  next rest => exact h.completeRelax rest.2
  next => exact h

protected theorem Keeps.expireRelax (h : Keeps s u) : Keeps s (expireRelax u) := by
  unfold Machine.expireRelax
  split
  next rest => exact h.completeRelax rest
  next => exact h.withProf (fun i => i.congr ⟨rfl, rfl, rfl⟩) fun i => ⟨i.ownDemand, i.copy, i.peer, i.target, i.effective⟩

/-! ### Requests, positions, the block table and the timers of SEQ -/

protected theorem Keeps.seqTripRequest (h : Keeps s u) (c : ProtCause) : Keeps s (seqTripRequest c u) := by
  unfold Machine.seqTripRequest
  split
  next takes =>
    refine (h.takeTrip ?_ c).profRest
    intro dormant
    simp [takesTrip, dormant] at takes
  next => exact h

protected theorem Keeps.seqExternalOpen (h : Keeps s u) (live : u.sequencer.st ≠ .dormant) :
    Keeps s (seqExternalOpen u) := by
  have opened : Keeps s (seqEnter .opened none u) := h.moves live fun i => fitsRun_enter_plain rfl rfl i.shot
  exact ((opened.queueOwn ..).announceState _).handTransition

protected theorem Keeps.seqExternalClose (h : Keeps s u) (live : u.sequencer.st ≠ .dormant) :
    Keeps s (seqExternalClose u) :=
  h.seqMoveWith live .externalClose rfl rfl fun _ => Nat.zero_le _

protected theorem Keeps.seqPosition (h : Keeps s u) : Keeps s (seqPosition u) := by
  unfold Machine.seqPosition
  split
  next st _ => exact (h.seqOpened st).profRest
  next st _ => exact (h.seqClosed (by simp [st])).profRest
  iterate 2 next st _ => exact (h.seqExternalOpen (by simp [st])).profRest
  iterate 4 next st _ => exact (h.seqExternalClose (by simp [st])).profRest
  next => exact h

protected theorem Keeps.judgeBlocks (h : Keeps s u) (live : u.sequencer.st ≠ .dormant) {hold : State → State}
    (held : Keeps s (hold u)) : Keeps s (judgeBlocks hold u) := by
  unfold Machine.judgeBlocks
  split
  · exact h.seqMove live .blockLock rfl rfl
  split
  · exact h.seqClosingWith live id
  · exact held

protected theorem Keeps.seqDeadTimeOver (h : Keeps s u) (st : u.sequencer.st = .deadTime) :
    Keeps s (seqDeadTimeOver u) := by
  have live : u.sequencer.st ≠ .dormant := by simp [st]
  exact h.judgeBlocks live
    (h.seqSlip live fun i => fitsRun_enter rfl (by simp) i.shot (by simp) fun _ => i.between (Or.inl st))

protected theorem Keeps.seqBlockChange (h : Keeps s u) : Keeps s (seqBlockChange u) := by
  unfold Machine.seqBlockChange
  split
  next st => exact (h.judgeBlocks (by simp [st]) h).profRest
  next => exact h

/-- A state timer that runs out acts in the state that set it; one that is stopped does nothing (R56). -/
protected theorem Keeps.seqExpiry (h : Keeps s u) (st : SeqState) {f : State → State}
    (hf : ∀ v, Keeps s v → v.sequencer.st = st → Keeps s (f v)) : Keeps s (seqExpiry st f u) := by
  unfold Machine.seqExpiry
  split
  next same =>
    split
    · exact (hf _ (h.arriveAt _) (by simpa using same)).profRest
    · exact h
  next => exact h

protected theorem Keeps.seqReclaimDone (h : Keeps s u) (live : u.sequencer.st ≠ .dormant) : Keeps s (seqReclaimDone u) :=
  h.seqMoveWith live .reclaimDone rfl rfl fun _ => Nat.zero_le _

end Sys2Proof.Safety
end

section
/-! What each step keeps: BLK and the demands of PROF. -/

namespace Sys2Proof.Safety

open Sys2Proof Sys2Proof.Machine

variable {s t u : State}

/-! ### The block table as events at SEQ (R83) -/

protected theorem Keeps.placeBlock (h : Keeps s u) (k : BlockKey) (e : BlockEffect) (d : Option Nat) :
    Keeps s (placeBlock k e d u) := by
  unfold Machine.placeBlock
  split
  · exact h.storeBlock k e d
  · exact (h.storeBlock k e d).seqBlockChange

protected theorem Keeps.removeBlock (h : Keeps s u) (k : BlockKey) : Keeps s (removeBlock k u) := by
  unfold Machine.removeBlock
  split
  · exact (h.filterTable _).seqBlockChange
  · exact h

protected theorem Keeps.removeBlocks (h : Keeps s u) (ks : List BlockKey) : Keeps s (removeBlocks ks u) :=
  List.foldlRecOn ks _ h fun _ hv k _ => hv.removeBlock k

/-! ### A raise (R66, R105) -/

/-- SEQ takes a raise of the effective profile: in DEAD_TIME and DEAD_HOLD a shot above the new limit locks it out. -/
protected theorem SequencerInv.seqRaise (h : SequencerInv s)
    (same : u.sequencer = s.sequencer ∧ u.cport.part = s.cport.part) : SequencerInv (seqRaise u) := by
  obtain ⟨sequencer, part⟩ := same
  by_cases dormant : s.sequencer.st = .dormant
  · rw [seqRaise_stays u (by simp [sequencer, dormant])]
    constructor <;> simp only [sequencer, isRun_congr part]
    · exact h.tripLine
    · exact h.closeLine
    · exact h.timer
    · exact h.dormant
    · exact h.shot
    · exact h.trip
    · simp [dormant]
  have run : u.isRun = true := (isRun_congr part).trans (h.isRun dormant)
  have fits : FitsRun s.shotLimit u.sequencer := by rw [sequencer]; exact h.fitsRun dormant
  by_cases locks : (u.sequencer.st = .deadTime ∨ u.sequencer.st = .deadHold) ∧ u.shotLimit < u.sequencer.shot
  · rw [seqRaise_locks u locks.1 locks.2]
    exact FitsRun.sequencerInv (by rw [seqMove_sequencer]; exact fitsRun_enter_plain rfl rfl fits.shot) (by simpa using run)
  · have below := fun waits => Nat.le_of_not_lt fun above => locks ⟨waits, above⟩
    rw [seqRaise_stays u below]
    exact FitsRun.sequencerInv { fits with between := fun waits => ⟨(fits.between waits).1, below waits⟩ } run

end Sys2Proof.Safety
end

section
/-! What each step keeps: the demands of PROF, the watches and HUNT. -/

namespace Sys2Proof.Safety

open Sys2Proof Sys2Proof.Machine

variable {s t u : State}

/-! ### The demands and the target (R101 to R105, R110) -/

/-- PROF's state after `p` with another effective profile, not below the target, and another relax. -/
def Follows (p q : ProfState) : Prop :=
  ∃ (effective : Profile) (relax : RelaxState) (relaxAt : Option Ms),
    q = { p with effective := effective, relax := relax, relaxAt := relaxAt } ∧
      profileCode p.target ≤ profileCode effective

theorem handRaise_follows (p : Profile) (s : State) : (handRaise p s).prof = s.prof := by simp

theorem takeTarget_follows (s : State) : Follows s.prof (takeTarget s).prof := by
  unfold takeTarget
  split
  · exact ⟨s.prof.target, .none, none, by simp [raiseProfile], Nat.le_refl _⟩
  next above =>
    split
    next same => exact ⟨s.prof.effective, .none, none, rfl, Nat.le_of_eq (congrArg profileCode same)⟩
    next => exact ⟨s.prof.effective, .timing, _, rfl, Nat.le_of_not_lt above⟩

theorem followTarget_follows (s : State) : Follows s.prof (followTarget s).prof := by
  unfold followTarget
  split
  next same => exact ⟨s.prof.effective, s.prof.relax, s.prof.relaxAt, rfl, Nat.le_of_eq (congrArg profileCode same)⟩
  next => exact ⟨s.prof.target, s.prof.relax, s.prof.relaxAt, by simp, Nat.le_refl _⟩

/-- A change of the demands leaves PROF with the demands as given and an effective profile not below the target. -/
theorem settle_follows (port field peer : Profile) (s : State)
    (above : profileCode s.prof.target ≤ profileCode s.prof.effective) :
    Follows (s.prof.demand port field peer) (settle port field peer s).prof := by
  have same : (s.prof.demand port field peer).target = s.prof.target →
      Follows (s.prof.demand port field peer) (s.prof.demand port field peer) := fun eq =>
    ⟨s.prof.effective, s.prof.relax, s.prof.relaxAt, rfl, by rw [eq]; exact above⟩
  simp only [settle]
  split
  · simp only [askIfChanged_frame]
    split
    next eq => exact same eq
    next => exact takeTarget_follows _
  · split
    next eq => exact same eq
    next => exact followTarget_follows _

theorem Follows.profileInv {port field peer : Profile} {p : ProfState}
    (h : Follows (p.demand port field peer) t.prof) (copy : field = t.fin.fieldDemand) (isPeer : IsPeerDemand peer t) :
    ProfileInv t := by
  obtain ⟨effective, relax, relaxAt, prof, above⟩ := h
  constructor <;> rw [prof]
  · exact (isLarger_iff ..).2 rfl
  · exact copy
  · exact isPeer
  · exact (isLarger_iff ..).2 rfl
  · exact above

/-! ### SEQ at a change of the demands (R66) -/

/-- In CONFIG, where SEQ is DORMANT, no shot count answers to a limit. -/
theorem SequencerInv.config (h : SequencerInv s) (config : s.isRun = false)
    (same : t.sequencer = s.sequencer ∧ t.cport.part = s.cport.part) : SequencerInv t := by
  obtain ⟨sequencer, part⟩ := same
  constructor <;> simp only [sequencer, isRun_congr part]
  · exact h.tripLine
  · exact h.closeLine
  · exact h.timer
  · exact h.dormant
  · exact h.shot
  · exact h.trip
  · simp [h.dormant.1 config]

protected theorem SequencerInv.handRaise (h : SequencerInv s) (p : Profile)
    (same : u.sequencer = s.sequencer ∧ u.cport.part = s.cport.part) : SequencerInv (handRaise p u) := by
  unfold Machine.handRaise
  split
  · exact (h.seqRaise same).congr (by simp [State.shotLimit])
  · exact (h.seqRaise (u := queueProfileChanged .raised p u) (by simpa using same)).congr (by simp [State.shotLimit])

protected theorem SequencerInv.takeTarget (h : SequencerInv s) : SequencerInv (takeTarget s) := by
  unfold Machine.takeTarget
  split
  · exact h.handRaise _ ⟨rfl, rfl⟩
  split
  · exact h.congr ⟨rfl, rfl, rfl⟩
  · exact h.congr ⟨rfl, rfl, rfl⟩

protected theorem SequencerInv.settle (h : SequencerInv s) (port field peer : Profile) :
    SequencerInv (settle port field peer s) := by
  have held : SequencerInv { s with prof := s.prof.demand port field peer } := h.congr ⟨rfl, rfl, rfl⟩
  have asked : ∀ v, SequencerInv v → SequencerInv (askIfChanged s.prof v) := fun v i =>
    i.congr (by simp [State.shotLimit])
  simp only [Machine.settle]
  split
  · refine asked _ ?_
    split
    · exact held
    · exact held.takeTarget
  next config =>
    refine h.config (by simpa using config) ?_
    split
    · exact ⟨rfl, rfl⟩
    · simp

/-! ### The other blocks at a change of the demands -/

protected theorem KeepsApart.seqMove (h : KeepsApart s u) (st : SeqState) (d : Option Ms) (r : Reason) :
    KeepsApart s (seqMove st d r u) := by
  have placed : KeepsApart s (placeStateFrame (seqEnter st d u)) := h.frame (by simp)
  have announced : KeepsApart s (announceState r (seqEnter st d u)) := placed.queueTagged ..
  exact KeepsApart.frame (t := handTransition _) announced (by simp)

protected theorem KeepsApart.seqRaise (h : KeepsApart s u) : KeepsApart s (seqRaise u) := by
  unfold Machine.seqRaise
  split
  · split
    · exact h.seqMove ..
    · exact h
  · split
    · exact h.seqMove ..
    · exact h
  · exact h

protected theorem KeepsApart.queueProfileChanged (h : KeepsApart s u) (c : ProfileChange) (p : Profile) :
    KeepsApart s (queueProfileChanged c p u) := h.queueTagged ..

protected theorem KeepsApart.advanceFree (h : KeepsApart s u) : KeepsApart s (advanceFree u) := h.frame (by simp)

protected theorem KeepsApart.handRaise (h : KeepsApart s u) (p : Profile) : KeepsApart s (handRaise p u) := by
  unfold Machine.handRaise
  split
  · exact (h.seqRaise.queueProfileChanged ..).advanceFree
  · exact (h.queueProfileChanged ..).seqRaise.advanceFree

protected theorem KeepsApart.takeTarget (h : KeepsApart s u) : KeepsApart s (takeTarget u) := by
  unfold Machine.takeTarget
  split
  · exact KeepsApart.handRaise (h.frame (by simp)) _
  split
  · exact h.frame (by simp)
  · exact h.frame (by simp)

protected theorem KeepsApart.followTarget (h : KeepsApart s u) : KeepsApart s (followTarget u) := by
  unfold Machine.followTarget
  split
  · exact h
  · exact KeepsApart.queueTagged (h.frame (by simp)) ..

protected theorem KeepsApart.settle (h : KeepsApart s u) (port field peer : Profile) :
    KeepsApart s (settle port field peer u) := by
  have held : KeepsApart s { u with prof := u.prof.demand port field peer } := h.frame (by simp)
  have asked : ∀ v, KeepsApart s v → KeepsApart s (askIfChanged u.prof v) := fun v i => i.frame (by simp)
  simp only [Machine.settle]
  split
  · refine asked _ ?_
    split
    · exact held
    · exact held.takeTarget
  · split
    · exact held
    · exact held.followTarget

/-- PROF takes new demands: it need not have had its invariant before, if the demands are now those that it asks for. -/
protected theorem KeepsApart.keeps_settle (h : KeepsApart s u) (sequencer : SequencerInv s → SequencerInv u)
    {port field peer : Profile} (demands : ProfileInv s → field = u.fin.fieldDemand ∧ IsPeerDemand peer u ∧
      profileCode u.prof.target ≤ profileCode u.prof.effective) : Keeps s (settle port field peer u) where
  toKeepsApart := h.settle port field peer
  sequencer i := (sequencer i).settle port field peer
  profile i := by
    obtain ⟨copy, isPeer, above⟩ := demands i
    refine (settle_follows port field peer u above).profileInv (by simpa using copy) ?_
    simpa [IsPeerDemand] using isPeer

protected theorem Keeps.setPortDemand (h : Keeps s u) (p : Profile) : Keeps s (setPortDemand p u) :=
  h.toKeepsApart.keeps_settle h.sequencer fun i =>
    ⟨(h.profile i).copy, (h.profile i).peer, (h.profile i).effective⟩

/-- FIN's field demand and PROF's copy of it change together (R48, R101). -/
protected theorem Keeps.deriveDemand (h : Keeps s u) : Keeps s (deriveDemand u) := by
  simp only [Machine.deriveDemand]
  split
  · exact h
  · have changed : KeepsApart s { u with fin := { u.fin with fieldDemand := keyDemand (u.input 4) (u.input 3) } } :=
      h.toKeepsApart.frame (by simp)
    exact changed.keeps_settle (fun i => (h.sequencer i).congr ⟨rfl, rfl, rfl⟩) fun i =>
      ⟨rfl, (h.profile i).peer, (h.profile i).effective⟩

/-- What the invariant of PROF says apart from the peer demand, which the neighbour table and the settings can change. -/
def PeerApart (s : State) : Prop :=
  s.prof.field = s.fin.fieldDemand ∧ profileCode s.prof.target ≤ profileCode s.prof.effective

theorem ProfileInv.peerApart (h : ProfileInv s) : PeerApart s := ⟨h.copy, h.effective⟩

/-- PROF recomputes the peer demand, whatever changed it (R102, R103). -/
protected theorem KeepsApart.keeps_refreshPeerDemand (h : KeepsApart s u) (sequencer : SequencerInv s → SequencerInv u)
    (profile : ProfileInv s → PeerApart u) : Keeps s (refreshPeerDemand u) :=
  h.keeps_settle sequencer fun i => ⟨(profile i).1, isPeerDemand_peerDemand u, (profile i).2⟩

/-! ### The watches (R93 to R96) -/

protected theorem Keeps.filterWatches (h : Keeps s u) (p : Watch → Bool) :
    Keeps s { u with blk := { u.blk with watches := u.blk.watches.filter p } } :=
  h.withBlk (fun i => i.congr rfl) fun i =>
    ⟨Nat.le_trans (List.length_filter_le ..) i.room, i.keys.sublist (List.filter_sublist.map _)⟩

protected theorem Keeps.watchIntertrip (h : Keeps s u) : Keeps s (watchIntertrip u) := by
  unfold Machine.watchIntertrip
  split
  · exact (h.seqTripRequest .intertrip).advanceFree
  · exact (h.handOver _).advanceFree

protected theorem Keeps.watchAct (h : Keeps s u) (a : Byte) (w : Watch) (x : WatchAction) :
    Keeps s (watchAct a w x u) := by
  cases x with
  | none => exact h
  | placeBlock =>
    simp only [Machine.watchAct, watchPlace]
    split
    · exact h.placeBlock ..
    · exact h
  | removeBlock => exact h.removeBlocks _
  | intertrip => exact h.watchIntertrip

protected theorem Keeps.retireWatch (h : Keeps s u) (w : Watch) : Keeps s (retireWatch w u) := by
  unfold Machine.retireWatch
  split
  · exact h.filterWatches _
  · exact h

protected theorem Keeps.watchMatch (h : Keeps s u) (a : Byte) (b : FrameBody) (w : Watch) :
    Keeps s (watchMatch a b w u) :=
  (((h.watchAct a w w.action1).watchAct a w w.action2).queueTagged ..).retireWatch w

protected theorem Keeps.matchFrame (h : Keeps s u) (a : Byte) (b : FrameBody) : Keeps s (matchFrame a b u) :=
  List.foldlRecOn _ _ h fun _ hv w _ => hv.watchMatch a b w

/-- The key of a watch (R89). -/
abbrev watchKey (w : Watch) : Byte × FrameKind × Byte := (w.station, w.kind, w.substate)

theorem sameKey_iff (v w : Watch) : v.sameKey w = true ↔ watchKey v = watchKey w := by
  simp [Watch.sameKey, and_assoc]

theorem map_watchKey_book (w : Watch) (l : List Watch) :
    (l.map fun v => if v.sameKey w then w else v).map watchKey = l.map watchKey := by
  rw [List.map_map]
  refine List.map_congr_left fun v _ => ?_
  simp only [Function.comp_apply]
  split
  next same => exact ((sameKey_iff v w).1 same).symm
  next => rfl

/-- A booking keeps the watch table's size and its keys apart (R89, R90). -/
theorem WatchInv.bookIn (h : WatchInv s) {w : Watch} {l : List Watch} (booked : bookIn w s.blk.watches = some l) :
    l.length ≤ 12 ∧ (l.map watchKey).Nodup := by
  unfold Machine.bookIn at booked
  split at booked
  next =>
    obtain rfl : _ = l := by simpa using booked
    exact ⟨by simpa using h.room, by rw [map_watchKey_book]; exact h.keys⟩
  next new =>
    split at booked
    next room =>
      obtain rfl : _ = l := by simpa using booked
      refine ⟨by rw [List.length_append]; exact room, ?_⟩
      rw [List.map_append, List.nodup_append]
      refine ⟨h.keys, by simp, ?_⟩
      intro a ha b hb
      obtain ⟨v, hv, rfl⟩ := List.mem_map.1 ha
      obtain rfl : b = watchKey w := by simpa using hb
      exact fun same => new (List.any_eq_true.2 ⟨v, hv, (sameKey_iff v w).2 same⟩)
    next => simp at booked

end Sys2Proof.Safety
end

section
/-! What each step keeps: the rounds of HUNT. -/

namespace Sys2Proof.Safety

open Sys2Proof Sys2Proof.Machine

variable {s t u : State}

/-! ### The hunt table (R160) -/

theorem dropOldestOther_sublist (l : List HuntReport) : (dropOldestOther l).Sublist l := by
  induction l with
  | nil => exact List.Sublist.refl _
  | cons r l ih =>
    unfold dropOldestOther
    split
    · exact List.sublist_cons_self r l
    · exact ih.cons_cons r

theorem dropOldestOther_length {l : List HuntReport} (present : l.any (fun e => e.relation == .other) = true) :
    (dropOldestOther l).length + 1 = l.length := by
  induction l with
  | nil => simp at present
  | cons r l ih =>
    unfold dropOldestOther
    split
    · rfl
    next other =>
      have rest : l.any (fun e => e.relation == .other) = true := by simpa [other] using present
      simpa using ih rest

theorem nodup_station_append {l : List HuntReport} {r : HuntReport} (nodup : (l.map (·.station)).Nodup)
    (new : ∀ e ∈ l, e.station ≠ r.station) : ((l ++ [r]).map (·.station)).Nodup := by
  rw [List.map_append, List.nodup_append]
  exact ⟨nodup, by simp, by simpa using new⟩

theorem insertReport_keeps (r : HuntReport) {l : List HuntReport} (room : l.length ≤ 16)
    (stations : (l.map (·.station)).Nodup) :
    (insertReport r l).length ≤ 16 ∧ ((insertReport r l).map (·.station)).Nodup := by
  unfold insertReport
  split
  next =>
    refine ⟨by simpa using room, ?_⟩
    have same : (l.map fun e => if e.station = r.station then r else e).map (·.station) = l.map (·.station) := by
      rw [List.map_map]
      refine List.map_congr_left fun e _ => ?_
      simp only [Function.comp_apply]
      split
      next eq => exact eq.symm
      next => rfl
    rw [same]
    exact stations
  next absent =>
    have new : ∀ e ∈ l, e.station ≠ r.station := by simpa using absent
    split
    next below => exact ⟨by rw [List.length_append]; exact below, nodup_station_append stations new⟩
    split
    next other =>
      have dropped := dropOldestOther_sublist l
      refine ⟨?_, nodup_station_append (stations.sublist (dropped.map _)) fun e he => new e (dropped.mem he)⟩
      rw [List.length_append, List.length_singleton, dropOldestOther_length other]
      exact room
    · exact ⟨room, stations⟩

protected theorem Keeps.storeReport (h : Keeps s u) (r : HuntReport) : Keeps s (storeReport r u) :=
  h.withHunt fun i => by
    obtain ⟨room, stations⟩ := insertReport_keeps r i.room i.stations
    exact ⟨room, stations, i.arm, i.deadline, i.cooldown⟩

/-! ### The capture (R155 to R159) -/

protected theorem Keeps.report (h : Keeps s u) (r : OwnReport) : Keeps s (report r u) := by
  have held : Keeps s { u with hunt := { u.hunt with ownReport := some r } } :=
    h.withHunt fun i => i.congr ⟨rfl, rfl, rfl, rfl, rfl⟩
  exact (held.placeFrame _).storeReport _

/-- COLLECT follows CAPTURE under the same deadline (R159). -/
protected theorem Keeps.endCapture (h : Keeps s u) (capturing : u.hunt.phase = .capture) (r : OwnReport) :
    Keeps s (endCapture r u) := by
  have phase : (report r u).hunt.phase = .capture := capturing
  refine (h.report r).withHunt fun i => ⟨i.room, i.stations, i.arm, ?_, ?_⟩
  · have deadline := i.deadline
    rw [phase] at deadline
    simpa using deadline
  · have cooldown := i.cooldown
    rw [phase] at cooldown
    simpa using cooldown

protected theorem Keeps.checkCapture (h : Keeps s u) (capturing : u.hunt.phase = .capture) :
    Keeps s (checkCapture u) := by
  unfold Machine.checkCapture
  split
  · exact h.endCapture capturing _
  split
  · exact h.endCapture capturing _
  · exact h

protected theorem Keeps.onCapture (h : Keeps s u) (f : Capture → Capture) : Keeps s (onCapture f u) :=
  h.withHunt fun i => i.congr ⟨rfl, rfl, rfl, rfl, rfl⟩

protected theorem Keeps.huntCycle (h : Keeps s u) : Keeps s (huntCycle u) := by
  unfold Machine.huntCycle
  split
  next taken => exact (h.onCapture _).checkCapture taken.1
  next => exact h

protected theorem Keeps.huntLost (h : Keeps s u) : Keeps s (huntLost u) := by
  unfold Machine.huntLost
  split
  next capturing => exact (h.onCapture _).checkCapture capturing
  next => exact h

protected theorem Keeps.huntPosition (h : Keeps s u) : Keeps s (huntPosition u) := by
  unfold Machine.huntPosition
  split
  next opened => exact h.endCapture opened.1 _
  next => exact h

/-! ### Opening a round (R149 to R154) -/

theorem HuntInv.begin (h : HuntInv u) (round : Round) (excluded : Option Nat) (ownSeq : Byte) :
    HuntInv { u with hunt := { u.hunt.begin round excluded with ownSeq := ownSeq } } where
  room := Nat.zero_le _
  stations := List.nodup_nil
  arm := Nat.zero_le _
  deadline := h.deadline
  cooldown := h.cooldown

/-- A round opens in IDLE, where neither timer runs (R152). -/
protected theorem Keeps.enterCapture (h : Keeps s u) (idle : u.hunt.phase = .idle) : Keeps s (enterCapture u) := by
  have entered : Keeps s { u with
      hunt := { u.hunt with deadlineAt := some (after u.now 600), phase := .capture } } :=
    h.withHunt fun i => ⟨i.room, i.stations, i.arm, by simp, by simpa [idle] using i.cooldown⟩
  exact entered.huntPosition

protected theorem Keeps.joinRound (h : Keeps s u) (idle : u.hunt.phase = .idle) (round : Round) :
    Keeps s (joinRound round u) :=
  Keeps.enterCapture (Keeps.placeBlock (h.withHunt fun i => i.begin round _ _) _ .hold none)
    (by simpa [HuntState.begin] using idle)

protected theorem Keeps.callRound (h : Keeps s u) (idle : u.hunt.phase = .idle) : Keeps s (callRound u) :=
  Keeps.enterCapture ((Keeps.placeBlock (h.withHunt fun i => i.begin _ _ _) _ .hold none).placeFrame _)
    (by simpa [HuntState.begin] using idle)

protected theorem Keeps.huntStep (h : Keeps s u) : Keeps s (huntStep u) := by
  simp only [Machine.huntStep]
  split
  next idle =>
    have armed : Keeps s { u with hunt := { u.hunt with arm := nextArm u.elem.sefPickup u.hunt.arm } } := by
      refine h.withHunt fun i => ⟨i.room, i.stations, ?_, i.deadline, i.cooldown⟩
      simp only [nextArm]
      split <;> omega
    split
    · exact armed.callRound idle
    · exact armed
  next => exact h.withHunt fun i => ⟨i.room, i.stations, Nat.zero_le _, i.deadline, i.cooldown⟩

/-! ### The verdict (R162 to R166) -/

protected theorem Keeps.setDeferral (h : Keeps s u) : Keeps s (setDeferral u) :=
  h.withElem fun i => ⟨i.partialCycle, i.losses, i.snapshot, i.accumulators, i.run⟩

protected theorem Keeps.requestOwnerTrip (h : Keeps s u) (st : SeqState) : Keeps s (requestOwnerTrip st u) := by
  unfold Machine.requestOwnerTrip
  split
  · exact h.advanceFree
  · exact (h.handOver _).advanceFree

protected theorem Keeps.actOnVerdict (h : Keeps s u) (v : Verdict) (st : SeqState) : Keeps s (actOnVerdict v st u) := by
  cases v with
  | owner =>
    simp only [Machine.actOnVerdict, actAsOwner]
    split
    · exact (h.placeFrame _).requestOwnerTrip st
    · exact h.placeFrame _
  | notOwner => exact h.setDeferral
  | none => exact h
  | uncertain => exact h
  | notInvolved => exact h

protected theorem Keeps.queueVerdict (h : Keeps s u) (a : Byte) : Keeps s (queueVerdict a u) := h.queueAbout ..

/-- The round is over: its deadline stops and the cooldown begins (R163). -/
protected theorem Keeps.enterCooldown (h : Keeps s u) : Keeps s (enterCooldown u) :=
  h.withHunt fun i => ⟨i.room, i.stations, i.arm, by simp, by simp⟩

protected theorem Keeps.giveVerdict (h : Keeps s u) (v : Verdict) : Keeps s (giveVerdict v u) := by
  have held : Keeps s { u with hunt := { u.hunt with verdict := v } } :=
    h.withHunt fun i => i.congr ⟨rfl, rfl, rfl, rfl, rfl⟩
  exact (((held.removeBlock _).queueVerdict _).actOnVerdict ..).enterCooldown

protected theorem Keeps.reachDeadline (h : Keeps s u) : Keeps s (reachDeadline u) := by
  refine Keeps.giveVerdict ?_ _
  split
  · exact h.report _
  · exact h

/-- HUNT returns to IDLE once the cooldown ran out, when no deadline runs (R166). -/
protected theorem Keeps.endCooldown (h : Keeps s u) {x : Ms} (running : u.hunt.cooldownAt = some x) :
    Keeps s (endCooldown u) := by
  refine Keeps.profRest (h.withHunt fun i => ⟨i.room, i.stations, i.arm, ?_, by simp⟩)
  have phase : u.hunt.phase = .cooldown := i.cooldown.1 (by simp [running])
  simpa [phase] using i.deadline

/-! ### Frames from other stations (R151, R160, R161, R165) -/

protected theorem Keeps.takeCall (h : Keeps s u) (round : Round) : Keeps s (takeCall round u) := by
  have counted : ∀ x : HuntState, x.table = u.hunt.table ∧ x.arm = u.hunt.arm ∧ x.phase = u.hunt.phase ∧
      x.deadlineAt = u.hunt.deadlineAt ∧ x.cooldownAt = u.hunt.cooldownAt → Keeps s { u with hunt := x } :=
    fun x same => h.withHunt fun i => i.congr same
  unfold Machine.takeCall
  split
  next idle =>
    split
    · exact h.joinRound idle round
    · exact h
  · split
    · exact h
    · exact counted _ ⟨rfl, rfl, rfl, rfl, rfl⟩
  iterate 2 exact counted _ ⟨rfl, rfl, rfl, rfl, rfl⟩

protected theorem Keeps.takeReport (h : Keeps s u) (a : Byte) (r : ReportInfo) : Keeps s (takeReport a r u) := by
  unfold Machine.takeReport
  split
  iterate 2 exact h.storeReport _
  iterate 2 exact h

protected theorem Keeps.takeVerdict (h : Keeps s u) (a : Byte) : Keeps s (takeVerdict a u) := by
  unfold Machine.takeVerdict
  split
  iterate 2 exact h.withHunt fun i => i.congr ⟨rfl, rfl, rfl, rfl, rfl⟩
  · split
    · have resolved : Keeps s { setDeferral u with hunt := { u.hunt with verdict := .notOwner } } :=
        h.setDeferral.withHunt fun i => i.congr ⟨rfl, rfl, rfl, rfl, rfl⟩
      exact resolved.queueVerdict a
    · exact h
  · exact h

end Sys2Proof.Safety
end

section
/-! What each step keeps: MEAS, ELEM and FIN. -/

namespace Sys2Proof.Safety

open Sys2Proof Sys2Proof.Machine

variable {s t u : State}

/-! ### Snapshots, FRESH and STALE (R12 to R17) -/

protected theorem Keeps.failSnapshot (h : Keeps s u) : Keeps s (failSnapshot u) := by
  unfold Machine.failSnapshot
  split
  next pending =>
    refine h.withMeas fun i => ⟨i.partialCycle, i.losses, ?_, i.accumulators, i.run⟩
    simpa [pending] using i.snapshot
  next => exact h

protected theorem Keeps.fillSnapshot (h : Keeps s u) (c : Option ProtCause) : Keeps s (fillSnapshot c u) := by
  unfold Machine.fillSnapshot
  split
  · have filled : Keeps s { u with
        meas := { u.meas with
          snapState := .valid, snapshot := some (snapshotOf (shownSequencer c u) u) } } :=
      h.withMeas fun i => ⟨i.partialCycle, i.losses, by simp, i.accumulators, i.run⟩
    exact filled.advanceFree
  · exact h

protected theorem Keeps.placeSelf (h : Keeps s u) : Keeps s (placeSelf u) := by
  unfold Machine.placeSelf
  split
  · exact h.placeBlock ..
  · exact h

protected theorem Keeps.removeSelf (h : Keeps s u) : Keeps s (removeSelf u) := by
  unfold Machine.removeSelf
  split
  · exact h.removeBlock _
  · exact h

protected theorem Keeps.becomeStale (h : Keeps s u) (c : StaleCause) : Keeps s (becomeStale c u) := by
  unfold Machine.becomeStale
  split
  · have stale : Keeps s { u with meas := { u.meas with status := .stale, staleSince := u.now, staleLoss := 0 } } :=
      h.withMeas fun i => ⟨i.partialCycle, ⟨i.losses.1, Nat.zero_le _⟩, i.snapshot, i.accumulators, i.run⟩
    exact (stale.refreshHealthy.queueOwn ..).placeSelf.failSnapshot
  · exact h

protected theorem Keeps.becomeFresh (h : Keeps s u) : Keeps s (becomeFresh u) := by
  unfold Machine.becomeFresh
  split
  · have fresh : Keeps s { u with meas := { u.meas with status := .fresh } } :=
      h.withMeas fun i => ⟨i.partialCycle, i.losses, i.snapshot, i.accumulators, i.run⟩
    exact (fresh.refreshHealthy.queueOwn ..).removeSelf
  · exact h

/-! ### Lost cycles (R4) -/

protected theorem Keeps.loseCycle (h : Keeps s u) : Keeps s (loseCycle u) := by
  have counted : Keeps s { u with meas := u.meas.countLoss } := by
    refine h.withMeas fun i => ⟨Nat.zero_le _, ⟨Nat.min_le_right .., ?_⟩, i.snapshot, i.accumulators, i.run⟩
    simp only [MeasState.countLoss]
    split
    · exact Nat.min_le_right ..
    · exact i.losses.2
  exact counted.huntLost.failSnapshot

protected theorem Keeps.loseCycleInOrder (h : Keeps s u) : Keeps s (loseCycleInOrder u) := by
  simp only [Machine.loseCycleInOrder]
  split
  · exact h.loseCycle.becomeStale .lostCycles
  · exact h.loseCycle

/-! ### The element step and the completion of a cycle (R11, R20) -/

theorem stepAccumulator_le (curve tm resetTime q : Nat) {a : Nat} (full : a ≤ 16777216) :
    stepAccumulator curve tm resetTime q a ≤ 16777216 := by
  unfold stepAccumulator aFull
  split
  · split
    · exact Nat.zero_le _
    · exact Nat.le_trans (Nat.sub_le ..) full
  split
  · exact full
  · exact Nat.min_le_left ..

theorem nextPhhRun_le (s : State) : nextPhhRun s ≤ 255 := by
  unfold nextPhhRun
  split <;> omega

protected theorem Keeps.requestTrip (h : Keeps s u) (c : Option ProtCause) : Keeps s (requestTrip c u) := by
  cases c with
  | none => exact h
  | some c => exact h.handOver _

protected theorem Keeps.alarmSef (h : Keeps s u) (before : State) : Keeps s (alarmSef before u) := by
  unfold Machine.alarmSef
  split
  · exact h.queueOwn ..
  · exact h

protected theorem Keeps.tripcoReview (h : Keeps s u) : Keeps s (tripcoReview u) := h.frame (by simp) (by simp)

protected theorem Keeps.elemStep (h : Keeps s u) : Keeps s (elemStep u) := by
  have stepped : Keeps s { u with elem := nextElem u } := h.withElem fun i =>
    ⟨i.partialCycle, i.losses, i.snapshot,
      ⟨stepAccumulator_le _ _ _ _ i.accumulators.1, stepAccumulator_le _ _ _ _ i.accumulators.2⟩, nextPhhRun_le u⟩
  exact ((stepped.requestTrip _).alarmSef u).tripcoReview.profRest.huntStep

protected theorem Keeps.handCycle (h : Keeps s u) : Keeps s (handCycle u).2 := by
  unfold Machine.handCycle
  split
  · exact h.elemStep.huntCycle
  · exact h

protected theorem Keeps.completeCycle (h : Keeps s u) (l : List Sample) : Keeps s (completeCycle l u) := by
  have stored : Keeps s (storeCycle l u) :=
    h.withMeas fun i => ⟨Nat.zero_le _, ⟨Nat.zero_le _, i.losses.2⟩, i.snapshot, i.accumulators, i.run⟩
  exact stored.becomeFresh.handCycle.fillSnapshot _

/-! ### Cycle assembly (R3, R5) -/

protected theorem Keeps.takeSample (h : Keeps s u) {l : List Sample} (short : MeasureInv u → l.length ≤ 31) :
    Keeps s (takeSample l u) :=
  h.withMeas fun i => ⟨short i, i.losses, i.snapshot, i.accumulators, i.run⟩

/-- MEAS with its frame-silence timer set or stopped. -/
protected theorem Keeps.withSilence (h : Keeps s u) (x : Option Ms) :
    Keeps s { u with meas := { u.meas with silenceAt := x } } :=
  h.withMeas fun i => ⟨i.partialCycle, i.losses, i.snapshot, i.accumulators, i.run⟩

protected theorem Keeps.assemble (h : Keeps s u) {p : Nat} (position : p < 32) (x : Sample) :
    Keeps s (assemble p x u) := by
  unfold Machine.assemble
  split
  · split
    · exact h.takeSample fun _ => by simp
    · exact h
  split
  next next_ =>
    split
    · exact (h.withSilence _).completeCycle _
    next before =>
      refine h.takeSample fun _ => ?_
      rw [List.length_append, List.length_singleton]
      omega
  next =>
    split
    · exact h.loseCycleInOrder.takeSample fun _ => by simp
    · exact h.loseCycleInOrder

theorem readSampleFrame_position {bytes : List Byte} {extra p : Nat} {x : Sample}
    (read : readSampleFrame bytes extra = some (p, x)) : p < 32 := by
  unfold readSampleFrame at read
  split at read
  · split at read
    next checks =>
      obtain ⟨rfl, -⟩ : _ = p ∧ _ = x := by simpa using read
      exact checks.2.2
    next => simp at read
  · simp at read

protected theorem Keeps.expireSilence (h : Keeps s u) : Keeps s (expireSilence u) := by
  have stopped := h.withSilence none
  refine Keeps.becomeStale ?_ _
  split
  · exact stopped
  · exact stopped.loseCycle

/-! ### FIN: the position (R46, R47) -/

protected theorem Keeps.handPosition (h : Keeps s u) : Keeps s (handPosition u) := h.seqPosition.huntPosition

protected theorem Keeps.setPosition (h : Keeps s u) (p : Position) : Keeps s (setPosition p u) := by
  have held : Keeps s { u with fin := { u.fin with position := p, discrepancy := false, discAt := none } } :=
    h.withFin rfl
  simp only [Machine.setPosition]
  split
  · exact held
  · exact held.handPosition

protected theorem Keeps.beginDiscrepancy (h : Keeps s u) : Keeps s (beginDiscrepancy u) := by
  unfold Machine.beginDiscrepancy
  split
  · exact h
  · exact h.withFin rfl

protected theorem Keeps.derivePosition (h : Keeps s u) : Keeps s (derivePosition u) := by
  unfold Machine.derivePosition
  split
  iterate 2 exact h.setPosition _
  · exact h.beginDiscrepancy
  iterate 2 exact h

protected theorem Keeps.expireDiscrepancy (h : Keeps s u) : Keeps s (expireDiscrepancy u) := by
  have unknown : Keeps s { u with fin := { u.fin with position := .unknown, discAt := none } } := h.withFin rfl
  refine Keeps.queueOwn ?_ ..
  split
  · exact unknown
  · exact unknown.handPosition

/-! ### FIN: the inputs (R41 to R45, R48 to R52) -/

protected theorem Keeps.handFieldRecord (h : Keeps s u) (n : Nat) (first level : Bool) :
    Keeps s (handFieldRecord n first level u) := by
  unfold Machine.handFieldRecord
  split
  · split
    · exact h.placeBlock ..
    split
    · exact h
    · exact h.removeBlock _
  · exact h

protected theorem Keeps.handInput (h : Keeps s u) (a b : List InputState) (n : Nat) : Keeps s (handInput a b u n) := by
  unfold Machine.handInput
  split
  · exact h
  split
  · exact h
  · exact Keeps.handFieldRecord (h.queueOwn ..) ..

protected theorem Keeps.handConfirmed (h : Keeps s u) (a b : List InputState) : Keeps s (handConfirmed a b u) := by
  have position : Keeps s (if confirmedAnew a b 0 || confirmedAnew a b 1 then derivePosition u else u) := by
    split
    · exact h.derivePosition
    · exact h
  refine List.foldlRecOn _ _ ?_ fun _ hv n _ => hv.handInput a b n
  split
  · exact position.deriveDemand
  · exact position

protected theorem Keeps.takeInputs (h : Keeps s u) (l : List InputState) : Keeps s (takeInputs l u) :=
  Keeps.handConfirmed (u := { u with fin := { u.fin with inputs := l } }) (h.withFin rfl) _ _

protected theorem Keeps.takeSamples (h : Keeps s u) (row : SampleRow) (levels : Byte) :
    Keeps s (takeSamples row levels u) := by
  unfold Machine.takeSamples
  split
  · exact h.setSense _
  · exact ((h.arriveAt _).setSense _).takeInputs _

end Sys2Proof.Safety
end

section
/-! What each step keeps: LINK. -/

namespace Sys2Proof.Safety

open Sys2Proof Sys2Proof.Machine

variable {s t u : State}

/-! ### The transmitter (R128 to R131): it leaves IDLE in RUN alone -/

theorem TransmitInv.isRun (h : TransmitInv s) (busy : s.link.tx ≠ .idle) : s.isRun = true :=
  Bool.not_eq_false _ ▸ fun config => busy (h.quiet config).1

theorem TransmitInv.isRun_of_beacon (h : TransmitInv s) {x : Ms} (running : s.link.beaconAt = some x) :
    s.isRun = true :=
  Bool.not_eq_false _ ▸ fun config => by simp [(h.quiet config).2.2] at running

/-- Where KEY is low nothing is on TXD. -/
theorem TransmitInv.txd_none (h : TransmitInv s) (other : s.link.tx ≠ .sending) : s.link.txd = none :=
  Option.not_isSome_iff_eq_none.1 fun sent => other (h.txd sent)

/-- In RUN the invariant of LINK asks for the counter, KEY and TXD alone. -/
theorem transmitInv_of_run (run : t.isRun = true) (sol : 1 ≤ t.link.sol ∧ t.link.sol ≤ 63)
    (key : t.link.key = keyedState t.link.tx) (txd : t.link.txd.isSome = true → t.link.tx = .sending) :
    TransmitInv t := ⟨sol, key, txd, fun config => by simp [run] at config⟩

/-- An attempt waits: DEFER, BACKOFF or IDLE, with KEY low. -/
protected theorem Keeps.txEnter (h : Keeps s u) {st : TxState} (waits : keyedState st = false) (d : Option Ms)
    (low : keyedState u.link.tx = false) (run : TransmitInv s → u.isRun = true) : Keeps s (txEnter st d u) := by
  have silent : u.link.tx ≠ .sending := fun st => by simp [st, keyedState] at low
  refine h.withLink rfl fun i => transmitInv_of_run (run i) (h.transmit i).sol ?_ ?_
  · simp [(h.transmit i).key, low, waits]
  · simp [(h.transmit i).txd_none silent]

protected theorem Keeps.enterDefer (h : Keeps s u) (low : keyedState u.link.tx = false)
    (run : TransmitInv s → u.isRun = true) : Keeps s (enterDefer u) := h.txEnter rfl _ low run

/-- A frame was fixed in KEYUP, and goes out. -/
protected theorem Keeps.enterSending (h : Keeps s u) (keyup : u.link.tx = .keyup) : Keeps s (enterSending u) := by
  refine h.withLink rfl fun i => ?_
  have before := h.transmit i
  exact transmitInv_of_run (before.isRun (by simp [keyup])) before.sol (by simp [before.key, keyup, keyedState])
    fun _ => rfl

protected theorem Keeps.keyUp (h : Keeps s u) (p : Placement) (rest : Slots) (low : keyedState u.link.tx = false)
    (run : TransmitInv s → u.isRun = true) : Keeps s (keyUp p rest u) := by
  have silent : u.link.tx ≠ .sending := fun st => by simp [st, keyedState] at low
  have fixed : Keeps s { u with
      link := { u.link with
        key := true, rx := .hunt, slots := rest, sending := some (fixFrame p u),
        tx := .keyup, txTimer := some (after u.now u.image.keyupTime) } } :=
    h.withLink rfl fun i => transmitInv_of_run (run i) (h.transmit i).sol rfl (by simp [(h.transmit i).txd_none silent])
  simp only [Machine.keyUp]
  split
  · exact fixed.enterSending rfl
  · exact fixed

protected theorem Keeps.endBackoff (h : Keeps s u) (low : keyedState u.link.tx = false)
    (run : TransmitInv s → u.isRun = true) : Keeps s (endBackoff u) := by
  unfold Machine.endBackoff
  split
  · exact h.enterDefer low run
  split
  · exact h.keyUp _ _ low run
  · exact h.txEnter rfl none low run

protected theorem Keeps.enterBackoff (h : Keeps s u) (low : keyedState u.link.tx = false)
    (run : TransmitInv s → u.isRun = true) : Keeps s (enterBackoff u) := by
  have drawn : Keeps s { u with link := { u.link with lfsr := lfsrNext u.link.lfsr } } :=
    h.withLink rfl fun i => (h.transmit i).congr (by simp)
  simp only [Machine.enterBackoff]
  split
  · exact drawn.endBackoff low run
  · exact drawn.txEnter rfl _ low run

theorem nextSol_range (n : Nat) : 1 ≤ nextSol n ∧ nextSol n ≤ 63 := by
  unfold nextSol
  split <;> omega

protected theorem Keeps.finishSending (h : Keeps s u) (sending : u.link.tx = .sending) : Keeps s (finishSending u) := by
  refine h.withLink rfl fun i => ?_
  have before := h.transmit i
  exact transmitInv_of_run (before.isRun (by simp [sending])) (nextSol_range _)
    (by simp [before.key, sending, keyedState]) (by simp)

/-- KEY falls as the transmitter leaves KEYDOWN (R131). -/
protected theorem Keeps.keyDown (h : Keeps s u) (keydown : u.link.tx = .keydown) : Keeps s (keyDown u) := by
  have lowered : ∀ (st : TxState) (d : Option Ms), keyedState st = false →
      Keeps s (txEnter st d { u with link := { u.link with key := false } }) := by
    intro st d waits
    refine h.withLink (x := { u.link with key := false, tx := st, txTimer := d }) rfl fun i => ?_
    have before := h.transmit i
    exact transmitInv_of_run (before.isRun (by simp [keydown])) before.sol waits.symm
      (by simp [before.txd_none, keydown])
  simp only [Machine.keyDown]
  split
  · exact lowered .defer _ rfl
  · exact lowered .idle none rfl

/-- The transmitter timer runs out in the state that set it (R128 to R131). -/
protected theorem Keeps.txExpiry (h : Keeps s u) (st : TxState) {f : State → State}
    (hf : ∀ v, Keeps s v → v.link.tx = st → Keeps s (f v)) : Keeps s (txExpiry st f u) := by
  unfold Machine.txExpiry
  split
  next same =>
    split
    · exact hf _ (h.arriveAt _) (by simpa using same)
    · exact h
  next => exact h

protected theorem Keeps.takeCarrier (h : Keeps s u) (busy : Bool) : Keeps s (takeCarrier busy u) := by
  have held : Keeps s { u with link := { u.link with cd := busy } } :=
    h.withLink rfl fun i => (h.transmit i).congr (by simp)
  simp only [Machine.takeCarrier]
  split
  · exact h
  split
  next defer =>
    exact held.enterDefer (by simp [defer, keyedState]) fun i => (held.transmit i).isRun (by simp [defer])
  next => exact held

/-! ### Placements (R127, R128, R132): they fill slots in RUN alone -/

protected theorem Keeps.startTransmitter (h : Keeps s u) (run : TransmitInv s → u.isRun = true) :
    Keeps s (startTransmitter u) := by
  unfold Machine.startTransmitter
  split
  next idle => exact h.enterDefer (by simp [idle, keyedState]) run
  next => exact h

/-- A slot is filled, and the beacon timer perhaps set anew. -/
protected theorem Keeps.withSlots (h : Keeps s u) (run : TransmitInv s → u.isRun = true) (slots : Slots)
    (beaconAt : Option Ms) : Keeps s { u with link := { u.link with slots := slots, beaconAt := beaconAt } } :=
  h.withLink rfl fun i =>
    transmitInv_of_run (run i) (h.transmit i).sol (h.transmit i).key (h.transmit i).txd

protected theorem Keeps.placeBeacon (h : Keeps s u) (run : TransmitInv s → u.isRun = true) :
    Keeps s (placeBeacon u) :=
  (h.withSlots run _ _).startTransmitter run

protected theorem Keeps.takePlacement (h : Keeps s u) (p : Placement) : Keeps s (takePlacement p u) := by
  unfold Machine.takePlacement
  split
  next run =>
    split
    · exact (h.withSlots (fun _ => run) _ u.link.beaconAt).startTransmitter fun _ => run
    · exact h.placeBeacon fun _ => run
  next => exact h

/-! ### The neighbour table (R124, R125) -/

/-- A table of at most 24 entries, at most one for each station. -/
def NeighboursFit (l : List Neighbour) : Prop := l.length ≤ 24 ∧ (l.map (·.address)).Nodup

theorem neighbourInv_iff (s : State) : NeighbourInv s ↔ NeighboursFit s.link.table :=
  ⟨fun h => ⟨h.room, h.addresses⟩, fun h => ⟨h.1, h.2⟩⟩

theorem NeighboursFit.sublist {l l' : List Neighbour} (h : NeighboursFit l) (sub : l'.Sublist l) : NeighboursFit l' :=
  ⟨Nat.le_trans sub.length_le h.1, h.2.sublist (sub.map _)⟩

theorem makeRoom_sublist (now : Ms) (l : List Neighbour) : (makeRoom now l).Sublist l := by
  unfold makeRoom
  split
  · exact List.Sublist.refl _
  split
  · exact List.filter_sublist
  · exact List.Sublist.refl _

theorem findNeighbour_eq_none {a : Byte} {l : List Neighbour} :
    findNeighbour a l = none ↔ ∀ e ∈ l, e.address ≠ a := by
  simp [findNeighbour]

theorem NeighboursFit.addNeighbour {l : List Neighbour} (h : NeighboursFit l) (now : Ms) {e : Neighbour}
    (new : findNeighbour e.address l = none) : NeighboursFit (addNeighbour now e l) := by
  unfold Machine.addNeighbour
  split
  next room =>
    have kept := h.sublist (makeRoom_sublist now l)
    refine ⟨by rw [List.length_append]; exact room, ?_⟩
    rw [List.map_append, List.nodup_append]
    refine ⟨kept.2, by simp, ?_⟩
    simpa using fun x hx => findNeighbour_eq_none.1 new x ((makeRoom_sublist now l).mem hx)
  next => exact h

theorem map_address_onNeighbour {a : Byte} {f : Neighbour → Neighbour} (l : List Neighbour)
    (same : ∀ e, e.address = a → (f e).address = a) :
    (onNeighbour a f l).map (·.address) = l.map (·.address) := by
  rw [onNeighbour, List.map_map]
  refine List.map_congr_left fun e _ => ?_
  simp only [Function.comp_apply]
  split
  next eq => exact (same e eq).trans eq.symm
  next => rfl

theorem NeighboursFit.onNeighbour {l : List Neighbour} (h : NeighboursFit l) {a : Byte} {f : Neighbour → Neighbour}
    (same : ∀ e, e.address = a → (f e).address = a) : NeighboursFit (onNeighbour a f l) :=
  ⟨by simpa [Machine.onNeighbour] using h.1, by rw [map_address_onNeighbour l same]; exact h.2⟩

theorem NeighboursFit.pinAll {l : List Neighbour} (h : NeighboursFit l) (now : Ms) (i : Image) :
    NeighboursFit (pinAll now i l) := by
  refine List.foldlRecOn _ _ (h.sublist List.filter_sublist) fun l fits c _ => ?_
  unfold pinOne
  split
  · exact fits.onNeighbour fun _ eq => eq
  next absent => exact fits.addNeighbour now (Option.not_isSome_iff_eq_none.1 absent)

/-- The neighbours that START and the resets pin are LOST until they are heard (R125). -/
theorem pinAll_nil_lost (now : Ms) (i : Image) : ∀ e ∈ pinAll now i [], e.status = .lost := by
  refine List.foldlRecOn (motive := fun l => ∀ e ∈ l, Neighbour.status e = .lost) _ _ (by simp) fun l lost c _ => ?_
  unfold pinOne
  split
  · intro e he
    obtain ⟨x, hx, rfl⟩ := List.mem_map.1 he
    split
    · rfl
    · exact lost x hx
  · unfold addNeighbour
    split
    · intro e he
      rcases List.mem_append.1 he with he | he
      · exact lost e ((makeRoom_sublist now l).mem he)
      · obtain rfl : e = _ := by simpa using he
        rfl
    · exact lost

/-! ### Supervision and acceptance (R122 to R126) -/

protected theorem Keeps.handLost (h : Keeps s u) (old : NbrStatus) (e : Neighbour) : Keeps s (handLost old e u) :=
  h.frame (by simp) (by simp)

protected theorem KeepsApart.queuePeerStatus (h : KeepsApart s u) (old : NbrStatus) (e : Neighbour) :
    KeepsApart s (queuePeerStatus old e u) := by
  unfold Machine.queuePeerStatus
  split
  · exact h.queueTagged ..
  · exact h

/-- LINK's neighbour table is replaced by one that fits. -/
protected theorem KeepsApart.withNeighbours (h : KeepsApart s u) {l : List Neighbour}
    (fits : NeighboursFit u.link.table → NeighboursFit l) :
    KeepsApart s { u with link := { u.link with table := l } } :=
  h.withLink (fun i => (h.transmit i).congr (by simp)) fun i =>
    (neighbourInv_iff _).2 (fits ((neighbourInv_iff u).1 i))

/-- An entry takes the place of its old one, and PROF recomputes the peer demand from the new table (R103, R126). -/
protected theorem KeepsApart.keeps_changeStatus (h : KeepsApart s u) (sequencer : SequencerInv s → SequencerInv u)
    (profile : ProfileInv s → PeerApart u) (old : NbrStatus) (e : Neighbour) : Keeps s (changeStatus old e u) := by
  have replaced := (h.withNeighbours (l := onNeighbour e.address (fun _ => e) u.link.table)
    fun fits => fits.onNeighbour fun _ _ => rfl).queuePeerStatus old e
  refine Keeps.handLost (replaced.keeps_refreshPeerDemand ?_ ?_) old e
  · exact fun i => (sequencer i).congr (by simp [State.shotLimit, State.image])
  · exact fun i => by simpa [PeerApart] using profile i

protected theorem Keeps.changeStatus (h : Keeps s u) (old : NbrStatus) (e : Neighbour) :
    Keeps s (changeStatus old e u) :=
  h.toKeepsApart.keeps_changeStatus h.sequencer (fun i => (h.profile i).peerApart) old e

/-- A source with no entry, for which the table finds no room, is given none. -/
theorem ensureNeighbour_none {a : Byte} (absent : findNeighbour a (ensureNeighbour a s).link.table = none) :
    ensureNeighbour a s = s := by
  unfold ensureNeighbour at absent ⊢
  split at absent
  next known => simp [absent] at known
  next unknown =>
    rw [if_neg unknown]
    simp only [addNeighbour] at absent ⊢
    split at absent
    · exact absurd rfl (findNeighbour_eq_none.1 absent _ (List.mem_append_right _ (List.mem_singleton_self _)))
    next full => rw [if_neg full]

protected theorem KeepsApart.ensureNeighbour (h : KeepsApart s u) (a : Byte) : KeepsApart s (ensureNeighbour a u) := by
  unfold Machine.ensureNeighbour
  split
  · exact h
  next absent => exact h.withNeighbours fun fits => fits.addNeighbour _ (Option.not_isSome_iff_eq_none.1 absent)

protected theorem Keeps.dispatchFrame (h : Keeps s u) (a : Byte) (b : FrameBody) : Keeps s (dispatchFrame a b u) :=
  h.frame (by simp) (by simp)

protected theorem Keeps.acceptFrame (h : Keeps s u) (f : RawFrame) (b : FrameBody) : Keeps s (acceptFrame f b u) := by
  simp only [Machine.acceptFrame]
  split
  · refine Keeps.dispatchFrame (KeepsApart.keeps_changeStatus (h.ensureNeighbour f.source) ?_ ?_ _ _) _ _
    · exact fun i => (h.sequencer i).congr (by simp [State.shotLimit])
    · exact fun i => by simpa [PeerApart] using (h.profile i).peerApart
  next absent =>
    rw [ensureNeighbour_none absent]
    exact h

protected theorem Keeps.receiveFrame (h : Keeps s u) (l : List Byte) : Keeps s (receiveFrame l u) := by
  have own : ∀ f, Keeps s (takeOwnAddress f u) := by
    intro f
    unfold takeOwnAddress
    split
    · exact h
    · exact h.queueOwn ..
  have foreign : ∀ f, Keeps s (takeForeign f u) := by
    intro f
    unfold takeForeign
    split
    · split
      · exact h.acceptFrame ..
      · exact h
    · exact h
  unfold Machine.receiveFrame
  split
  · unfold checkFrame
    split
    · split
      · exact own _
      · exact foreign _
    · exact h
  · exact h

protected theorem Keeps.withRx (h : Keeps s u) (x : RxState) : Keeps s { u with link := { u.link with rx := x } } :=
  h.withLink rfl fun i => (h.transmit i).congr (by simp)

protected theorem Keeps.takeRxByte (h : Keeps s u) (b : Byte) (stopBit : Bool) : Keeps s (takeRxByte b stopBit u) := by
  simp only [Machine.takeRxByte]
  split
  · exact (h.withRx _).handOver _
  · exact h.withRx _

end Sys2Proof.Safety
end

section
/-! What each step keeps: START and the resets. -/

namespace Sys2Proof.Safety

open Sys2Proof Sys2Proof.Machine

variable {s t u : State}

protected theorem KeepsApart.trans (h : KeepsApart s u) (k : KeepsApart u t) : KeepsApart s t where
  pending := k.pending.trans h.pending
  notices i := k.notices (h.notices i)
  settings i := k.settings (h.settings i)
  transmit i := k.transmit (h.transmit i)
  blocks i := k.blocks (h.blocks i)
  watches i := k.watches (h.watches i)
  neighbours i := k.neighbours (h.neighbours i)
  hunt i := k.hunt (h.hunt i)
  measure i := k.measure (h.measure i)

/-- Operations that mend the invariants of SEQ and of PROF, followed by one that keeps all. -/
protected theorem KeepsApart.mended (h : KeepsApart s u) (sequencer : SequencerInv s → SequencerInv u)
    (profile : ProfileInv s → ProfileInv u) (k : Keeps u t) : Keeps s t where
  toKeepsApart := h.trans k.toKeepsApart
  sequencer i := k.sequencer (sequencer i)
  profile i := k.profile (profile i)

/-! ### Notices and settings replaced -/

theorem noticeInv_refreshAttn (room : s.cport.notices.length ≤ 64) : NoticeInv (refreshAttn s) :=
  ⟨room, (enabledQueued_iff _ _).symm⟩

/-- The notice queue is replaced, and ATTN with it (R180). -/
protected theorem Keeps.withNotices (h : Keeps s u) {l : List Notice} {overflow attn : Bool}
    (kept : NoticeInv u → NoticeInv { u with
      cport := { u.cport with notices := l, overflow := overflow, attn := attn } }) :
    Keeps s { u with cport := { u.cport with notices := l, overflow := overflow, attn := attn } } where
  pending := h.pending
  notices i := kept (h.notices i)
  settings i := (h.settings i).congr ⟨rfl, rfl, rfl⟩
  transmit i := (h.transmit i).congr (by simp)
  blocks i := (h.blocks i).congr rfl
  watches i := (h.watches i).congr rfl
  neighbours i := (h.neighbours i).congr rfl
  hunt i := (h.hunt i).congr (by simp)
  measure i := (h.measure i).congr ⟨rfl, rfl⟩
  sequencer i := (h.sequencer i).congr ⟨rfl, rfl, rfl⟩
  profile i := (h.profile i).congr ⟨rfl, rfl, rfl, rfl⟩

/-- The settings or the part-wide state change, and ATTN is set anew after it. -/
protected theorem KeepsApart.withSettings (h : KeepsApart s u) {c : CportState}
    (same : c.notices = u.cport.notices) (settings : SettingsInv u → SettingsInv { u with cport := c })
    (part : c.part = u.cport.part ∨ c.part = .run) : KeepsApart s (refreshAttn { u with cport := c }) where
  pending := h.pending
  notices i := noticeInv_refreshAttn (same.symm ▸ (h.notices i).room)
  settings i := (settings (h.settings i)).congr ⟨rfl, rfl, rfl⟩
  transmit i := by
    have before := h.transmit i
    rcases part with part | part
    · exact before.congr ⟨rfl, rfl, rfl, rfl, rfl, rfl, part⟩
    · exact transmitInv_of_run (by simp [State.isRun, refreshAttn, part]) before.sol before.key before.txd
  blocks i := (h.blocks i).congr rfl
  watches i := (h.watches i).congr rfl
  neighbours i := (h.neighbours i).congr rfl
  hunt i := (h.hunt i).congr (by simp)
  measure i := (h.measure i).congr ⟨rfl, rfl⟩

/-! ### Shared steps of the resets -/

protected theorem Keeps.takePlacements (h : Keeps s u) : Keeps s (takePlacements u) :=
  List.foldlRecOn _ _ h fun _ hv _ _ => (hv.takeHandOver _).takePlacement _

protected theorem Keeps.placeStanding (h : Keeps s u) : Keeps s (placeStanding u) := by
  have stored : ∀ (c : State → Prop) [DecidablePred c] (k : State → BlockKey) (v : State), Keeps s v →
      Keeps s (if c v then storeBlock (k v) .lock none v else v) := by
    intro c _ k v hv
    split
    · exact hv.storeBlock _ .lock none
    · exact hv
  have self := stored (fun v => v.meas.status = .stale) selfKey u h
  have nonReclose := stored (fun v => v.inputSet 2 = true) (fun v => fieldKey v 2) _ self
  exact stored (fun v => v.inputSet 5 = true) (fun v => fieldKey v 5) _ nonReclose

/-- SEQ takes the state that belongs to the position it finds, in RUN. -/
theorem sequencerInv_of_enter {q : SequencerState} {st : SeqState} (run : s.isRun = true)
    (sequencer : s.sequencer = q.enter st none) (plain : plainState st = true) (timed : timedState st = false)
    (shot : q.shot ≤ 4) : SequencerInv s :=
  FitsRun.sequencerInv (by rw [sequencer]; exact fitsRun_enter_plain plain timed.symm shot) run

/-- The demands recomputed, with the effective profile at the target (R110, R114). -/
theorem profileInv_of_follow {p : ProfState} {peer : Profile} (prof : s.prof = p.follow peer)
    (copy : p.field = s.fin.fieldDemand) (isPeer : IsPeerDemand peer s) : ProfileInv s := by
  constructor <;> rw [prof]
  · exact (isLarger_iff ..).2 rfl
  · exact copy
  · exact isPeer
  · exact (isLarger_iff ..).2 rfl
  · exact Nat.le_refl _

/-! ### START (R175) -/

theorem keepsApart_lockSettings (s : State) : KeepsApart s (lockSettings s) :=
  Keeps.rfl.toKeepsApart.withSettings rfl
    (fun i => ⟨by simp [State.isRun], i.areaS, i.areaF⟩) (Or.inr rfl)

@[simp] theorem lockSettings_isRun (s : State) : (lockSettings s).isRun = true := rfl

protected theorem KeepsApart.startLink (h : KeepsApart s u) : KeepsApart s (startLink u) :=
  h.withLink (fun i => (h.transmit i).congr (by simp)) fun i =>
    (neighbourInv_iff _).2 (((neighbourInv_iff u).1 i).pinAll _ _)

protected theorem KeepsApart.startProfile (h : KeepsApart s u) : KeepsApart s (startProfile u) := by
  have followed : KeepsApart s { u with prof := u.prof.follow (peerDemand u) } := h.frame (by simp)
  have asked : ∀ v, KeepsApart s v → KeepsApart s (askBeacon v) := fun v i => i.frame (by simp)
  simp only [Machine.startProfile]
  split
  · exact asked _ followed
  · exact asked _ (followed.queueProfileChanged ..)

theorem startProfile_frame (s : State) : (startProfile s).prof = s.prof.follow (peerDemand s) ∧
    (startProfile s).fin = s.fin ∧ (startProfile s).link = s.link ∧ (startProfile s).image = s.image ∧
    (startProfile s).isRun = s.isRun := by
  simp only [startProfile]
  split <;> simp [State.image, State.isRun]

protected theorem KeepsApart.seqStart (h : KeepsApart s u) : KeepsApart s (seqStart u) := by
  have cleared : KeepsApart s { u with
      sequencer := { u.sequencer with shot := 0, manualClose := false, noReclose := false, lastCause := .none } } :=
    h.frame (by simp)
  simp only [Machine.seqStart]
  split
  · exact cleared.seqMove ..
  · exact cleared.seqMove ..

theorem sequencerInv_seqStart (run : s.isRun = true) : SequencerInv (seqStart s) := by
  simp only [seqStart]
  split
  · exact sequencerInv_of_enter (by simpa [State.isRun] using run) (seqMove_sequencer ..) rfl rfl (Nat.zero_le _)
  · exact sequencerInv_of_enter (by simpa [State.isRun] using run) (seqMove_sequencer ..) rfl rfl (Nat.zero_le _)

/-- Until PROF takes its step of START its demands stand as they were; then the peer demand is that of the table. -/
theorem profileInv_seqStart_startProfile (copy : s.prof.field = s.fin.fieldDemand) :
    ProfileInv (seqStart (startProfile s)) := by
  obtain ⟨prof, fin, link, image, -⟩ := startProfile_frame s
  refine profileInv_of_follow (p := s.prof) (peer := peerDemand s) (by simp [prof]) (by simp [fin, copy]) ?_
  simpa [IsPeerDemand, link, image] using isPeerDemand_peerDemand s

theorem keeps_enterRun (s : State) : Keeps s (enterRun s) := by
  have linked : KeepsApart s (startTripco (startLink (lockSettings s))) :=
    (keepsApart_lockSettings s).startLink.frame (by simp [startTripco])
  have announced : KeepsApart s (announceStart (startTripco (startLink (lockSettings s)))) := linked.queueTagged ..
  have run : (announceStart (startTripco (startLink (lockSettings s)))).isRun = true := by
    simp [announceStart, State.isRun, startTripco, startLink, lockSettings]
  refine announced.startProfile.seqStart.mended (fun _ => ?_) (fun i => ?_)
    Keeps.rfl.takePlacements.placeStanding.refreshHealthy
  · exact sequencerInv_seqStart ((startProfile_frame _).2.2.2.2.trans run)
  · exact profileInv_seqStart_startProfile
      (by simpa [announceStart, startTripco, startLink, lockSettings] using i.copy)

/-! ### The resets to CONFIG (R176, R177) -/

/-- After a reset to CONFIG every block has its invariant, whatever was before. -/
theorem keeps_of_reset (config : t.isRun = false) (pending : t.pending = s.pending)
    (settings : SettingsInv s → SettingsInv t)
    (reset : t.sequencer = SequencerState.reset ∧ t.prof = ProfState.reset ∧ t.fin.fieldDemand = .ordinary ∧
      t.link = { LinkState.reset with cd := t.link.cd } ∧ t.blk = BlkState.reset ∧ t.hunt = HuntState.reset ∧
      t.meas = { MeasState.reset with staleSince := t.meas.staleSince } ∧ t.elem = ElemState.reset ∧
      t.cport.notices = [] ∧ t.cport.attn = false) : Keeps s t := by
  obtain ⟨sequencer, prof, field, link, blk, hunt, meas, elem, notices, attn⟩ := reset
  have table : t.link.table = [] := by rw [link]; rfl
  exact {
    pending := pending
    settings := settings
    notices := fun _ => ⟨by simp [notices], by simp [notices, attn]⟩
    transmit := fun _ => by
      constructor <;> rw [link] <;> simp [LinkState.reset, keyedState]
    blocks := fun _ => by constructor <;> simp [blk, BlkState.reset]
    watches := fun _ => by constructor <;> simp [blk, BlkState.reset]
    neighbours := fun _ => by constructor <;> simp [table]
    hunt := fun _ => by constructor <;> simp [hunt, HuntState.reset]
    measure := fun _ => by
      constructor <;> (try rw [meas]) <;> (try rw [elem]) <;> simp [MeasState.reset, ElemState.reset, assembledCount]
    sequencer := fun _ => by constructor <;> simp [sequencer, SequencerState.reset, config, timedState]
    profile := fun _ => by constructor <;> simp [prof, ProfState.reset, field, IsPeerDemand, table] }

theorem keeps_powerOn (held : Bool) (s : State) : Keeps s (powerOn held s) :=
  keeps_of_reset rfl rfl (fun _ => ⟨rfl, by simp [powerOn, State.reset, CportState.reset, Image.zero],
    by simp [powerOn, State.reset, CportState.reset, Image.zero]⟩)
    ⟨rfl, rfl, rfl, rfl, rfl, rfl, rfl, rfl, rfl, rfl⟩

theorem keeps_softResetConfig (config : s.isRun = false) : Keeps s (softResetConfig s) :=
  keeps_of_reset config rfl (fun i => i.congr ⟨rfl, rfl, rfl⟩) ⟨rfl, rfl, rfl, rfl, rfl, rfl, rfl, rfl, rfl, rfl⟩

/-! ### SOFT RESET in RUN (R178) -/

theorem keepsApart_resetLink (run : s.isRun = true) : KeepsApart s (resetLink s) := by
  refine KeepsApart.frame (KeepsApart.withLink Keeps.rfl.toKeepsApart (x := { s.link with
      slots := Slots.empty, tx := .idle, txTimer := none, sending := none, key := false, txd := none, rx := .hunt,
      table := pinAll s.now s.image [] }) ?_ ?_) (by simp [resetLink, dropPlacements])
  · exact fun i => transmitInv_of_run run i.sol rfl (by simp)
  · exact fun _ => (neighbourInv_iff _).2 (NeighboursFit.pinAll ⟨Nat.zero_le _, by simp⟩ _ _)

theorem keeps_resetQueue (s : State) : Keeps s (resetQueue s) := by
  have emptied : Keeps s { s with cport := { s.cport with notices := [], overflow := false, attn := false } } :=
    Keeps.rfl.withNotices fun _ => ⟨Nat.zero_le _, by simp⟩
  exact emptied.queueOwn ..

theorem keeps_resetElements (s : State) : Keeps s (resetElements s) := by
  have elem : Keeps s { s with elem := ElemState.reset } := Keeps.rfl.withElem fun i =>
    ⟨i.partialCycle, i.losses, i.snapshot, by simp [ElemState.reset], by simp [ElemState.reset]⟩
  have hunt : Keeps s { s with elem := ElemState.reset, hunt := { HuntState.reset with ownSeq := s.hunt.ownSeq } } :=
    elem.withHunt fun _ => by constructor <;> simp [HuntState.reset]
  have meas : Keeps s { s with
      elem := ElemState.reset, hunt := { HuntState.reset with ownSeq := s.hunt.ownSeq },
      meas := { s.meas with snapState := .none, snapshot := none } } :=
    hunt.withMeas fun i => ⟨i.partialCycle, i.losses, by simp, i.accumulators, i.run⟩
  exact meas.frame (by simp [resetElements]) (by simp [resetElements])

theorem keeps_resetBlocks (s : State) : Keeps s (resetBlocks s) :=
  ((Keeps.rfl.filterTable _).withOverflow false).placeStanding

@[simp] theorem placeStanding_frame (s : State) :
    (placeStanding s).sequencer = s.sequencer ∧ (placeStanding s).prof = s.prof ∧ (placeStanding s).fin = s.fin ∧
      (placeStanding s).link = s.link ∧ (placeStanding s).image = s.image ∧ (placeStanding s).isRun = s.isRun ∧
      (placeStanding s).cport.part = s.cport.part := by
  simp only [placeStanding]
  (repeat' split) <;> simp

theorem restingState_plain (p : Position) :
    plainState (restingState p) = true ∧ timedState (restingState p) = false := by
  cases p <;> exact ⟨rfl, rfl⟩

theorem keeps_softResetRun (run : s.isRun = true) : Keeps s (softResetRun s) := by
  have blocks : KeepsApart s (resetBlocks (resetElements (resetQueue (resetLink s)))) :=
    (((keepsApart_resetLink run).trans (keeps_resetQueue _).toKeepsApart).trans
      (keeps_resetElements _).toKeepsApart).trans (keeps_resetBlocks _).toKeepsApart
  have profile : KeepsApart s (resetProfile (resetSequencer (resetBlocks (resetElements (resetQueue (resetLink s)))))) :=
    blocks.frame (by simp [resetProfile, resetSequencer])
  refine profile.mended (fun _ => ?_) (fun i => ?_) Keeps.rfl.takePlacements.refreshHealthy
  · obtain ⟨plain, timed⟩ := restingState_plain s.fin.position
    refine sequencerInv_of_enter (q := SequencerState.reset) (st := restingState s.fin.position) ?_ ?_ plain timed
      (Nat.zero_le _)
    · simpa [resetProfile, resetSequencer, resetBlocks, resetElements, resetQueue, resetLink, dropPlacements,
        State.isRun] using run
    · simp [resetProfile, resetSequencer, resetBlocks, resetElements, resetQueue, resetLink, dropPlacements]
  · refine profileInv_of_follow (p := s.prof) (peer := .ordinary) ?_ ?_ ?_
    · simp [resetProfile, resetSequencer, resetBlocks, resetElements, resetQueue, resetLink, dropPlacements]
    · simpa [resetProfile, resetSequencer, resetBlocks, resetElements, resetQueue, resetLink, dropPlacements]
        using i.copy
    · have table : (resetProfile (resetSequencer (resetBlocks (resetElements (resetQueue
          (resetLink s)))))).link.table = pinAll s.now s.image [] := by
        simp [resetProfile, resetSequencer, resetBlocks, resetElements, resetQueue, resetLink, dropPlacements]
      rw [IsPeerDemand, table]
      exact ⟨fun _ => ⟨fun e he heard => absurd (pinAll_nil_lost _ _ e he) heard, Or.inl rfl⟩, fun _ => rfl⟩

end Sys2Proof.Safety
end

section
/-! What each step keeps: the host commands, the rows of the table, and a step. -/

namespace Sys2Proof.Safety

open Sys2Proof Sys2Proof.Machine

variable {s t u : State}

/-! ### Settings, START, SOFT RESET and the profile -/

theorem length_overwrite {l data : List Byte} {off : Nat} (fits : off + data.length ≤ l.length) :
    (overwrite l off data).length = l.length := by
  simp only [overwrite, List.length_append, List.length_take, List.length_drop]
  omega

/-- A write leaves the areas their sizes (R173). -/
theorem write_sizes {area : Byte} {off : Nat} {data : List Byte} {i j : Image} (written : i.write area off data = some j)
    (areaS : i.areaS.length = 81) (areaF : i.areaF.length = 44) : j.areaS.length = 81 ∧ j.areaF.length = 44 := by
  unfold Image.write at written
  split at written
  next inS =>
    obtain rfl : _ = j := by simpa using written
    exact ⟨(length_overwrite (areaS.symm ▸ inS.2)).trans areaS, areaF⟩
  next =>
    split at written
    next inF =>
      obtain rfl : _ = j := by simpa using written
      exact ⟨areaS, (length_overwrite (areaF.symm ▸ inF.2)).trans areaF⟩
    next => simp at written

theorem keeps_cmdLoadSettings (area : Byte) (off : Half) (data : List Byte) (s : State) :
    Keeps s (cmdLoadSettings area off data s).after := by
  unfold cmdLoadSettings
  split
  · exact Keeps.rfl
  next config =>
    rw [Bool.not_eq_true] at config
    have part : s.cport.part ≠ .run := by simpa [State.isRun] using config
    split
    · split
      next i written =>
        have stored : KeepsApart s (storeImage i s) := Keeps.rfl.toKeepsApart.withSettings rfl
          (fun inv => ⟨by simpa [State.isRun, part] using inv.locked, (write_sizes written inv.areaS inv.areaF).1,
            (write_sizes written inv.areaS inv.areaF).2⟩) (Or.inl rfl)
        have heard : KeepsApart s { storeImage i s with
            link := { s.link with
              rx := if effectiveBaud s.cport.staging = effectiveBaud (storeImage i s).image then s.link.rx
                else .hunt } } :=
          stored.withLink (fun inv => (stored.transmit inv).congr ⟨rfl, rfl, rfl, rfl, rfl, rfl, rfl⟩)
            fun inv => inv.congr rfl
        have read : KeepsApart s (readStaged s.cport.staging (storeImage i s)) :=
          heard.frame ⟨rfl, rfl, rfl, rfl, rfl, rfl, rfl, rfl, rfl, rfl, rfl⟩
        exact read.keeps_refreshPeerDemand (fun inv => inv.config config ⟨rfl, rfl⟩) fun inv => inv.peerApart
      next => exact Keeps.rfl
    · exact Keeps.rfl

theorem keeps_cmdStart (s : State) : Keeps s (cmdStart s).after := by
  unfold cmdStart
  split
  · exact Keeps.rfl
  split
  · exact Keeps.rfl
  · exact keeps_enterRun s

theorem keeps_cmdSoftReset (s : State) : Keeps s (cmdSoftReset s).after := by
  unfold cmdSoftReset
  split
  next run => exact keeps_softResetRun run
  next config => exact keeps_softResetConfig (Bool.eq_false_iff.2 config)

theorem keeps_cmdSelectProfile (p : Byte) (s : State) : Keeps s (cmdSelectProfile p s).after := by
  unfold cmdSelectProfile
  split
  · exact Keeps.rfl.setPortDemand _
  · exact Keeps.rfl

/-! ### Blocks and watches -/

theorem keeps_cmdTag (n d : Half) (s : State) : Keeps s (cmdTag n d s).after := by
  unfold cmdTag
  split
  · exact Keeps.rfl.placeBlock ..
  · exact Keeps.rfl

theorem keeps_removeByCommand (k : BlockKey) (s : State) : Keeps s (removeByCommand k s).after := by
  unfold removeByCommand
  split
  · exact Keeps.rfl.removeBlock k
  · exact Keeps.rfl

theorem keeps_cmdUntag (n : Half) (s : State) : Keeps s (cmdUntag n s).after := by
  unfold cmdUntag
  split
  · exact keeps_removeByCommand ..
  · exact Keeps.rfl

theorem keeps_cmdUnblock (source origin : Byte) (n : Half) (s : State) : Keeps s (cmdUnblock source origin n s).after := by
  unfold cmdUnblock
  split
  · split
    · split
      · exact keeps_removeByCommand ..
      · exact Keeps.rfl
    · exact Keeps.rfl
  · exact Keeps.rfl

theorem keeps_cmdClearOverflow (s : State) : Keeps s (cmdClearOverflow s).after := by
  unfold cmdClearOverflow
  split
  · split
    · exact Keeps.rfl
    split
    · exact (Keeps.rfl.withOverflow false).seqBlockChange
    · exact Keeps.rfl
  · exact Keeps.rfl

theorem keeps_bookWatch (w : Watch) (s : State) : Keeps s (bookWatch w s).after := by
  unfold bookWatch
  split
  next booked =>
    exact Keeps.rfl.withBlk (fun i => i.congr rfl) fun i => ⟨(i.bookIn booked).1, (i.bookIn booked).2⟩
  next => exact Keeps.rfl

theorem keeps_cmdBookWatch (w : WatchOperand) (s : State) : Keeps s (cmdBookWatch w s).after := by
  unfold cmdBookWatch
  split
  · split
    · split
      · exact keeps_bookWatch ..
      · exact Keeps.rfl
    · exact Keeps.rfl
  · exact Keeps.rfl

theorem keeps_cmdUnbookWatch (station kind substate : Byte) (s : State) :
    Keeps s (cmdUnbookWatch station kind substate s).after := by
  unfold cmdUnbookWatch
  split
  · split
    · exact Keeps.rfl.filterWatches _
    · exact Keeps.rfl
  · exact Keeps.rfl

/-! ### Manual commands (R73 to R76) -/

theorem keeps_judgeManual {f : State → Reply} (hf : s.sequencer.st ≠ .dormant → Keeps s (f s).after) :
    Keeps s (judgeManual f s).after := by
  unfold judgeManual
  split
  · exact Keeps.rfl
  next live =>
    split
    · exact Keeps.rfl
    · exact hf live

theorem keeps_manualOpen (live : s.sequencer.st ≠ .dormant) : Keeps s (manualOpen s).after := by
  unfold manualOpen
  split
  iterate 3 exact (Keeps.rfl.takeManualTrip live).profRest
  next tripping =>
    refine Keeps.rfl.moves live fun i => ?_
    exact ⟨i.tripLine, i.closeLine, i.timer, live, i.shot, by simp, by simp [tripping]⟩
  iterate 2 exact (Keeps.rfl.seqMove live .manualOpen rfl rfl).profRest
  iterate 4 exact Keeps.rfl

theorem keeps_removeSource (src : BlockSource) (s : State) : Keeps s (removeSource src s) := Keeps.rfl.removeBlocks _

/-- SEQ leaves DORMANT by START alone: a change of the block table does not take it there. -/
theorem seqBlockChange_live (live : s.sequencer.st ≠ .dormant) : (seqBlockChange s).sequencer.st ≠ .dormant := by
  unfold seqBlockChange
  split
  · have rest : ∀ v : State, (profRest v).sequencer = v.sequencer := fun v => by simp
    rw [rest]
    unfold judgeBlocks
    split
    · simp [SequencerState.enter]
    split
    · simp only [seqClosing]
      split <;> simp [seqClosed, SequencerState.enter]
    · exact live
  · exact live

theorem removeBlocks_live (ks : List BlockKey) (live : s.sequencer.st ≠ .dormant) :
    (removeBlocks ks s).sequencer.st ≠ .dormant := by
  refine List.foldlRecOn (motive := fun v : State => v.sequencer.st ≠ .dormant) ks _ live fun v hv k _ => ?_
  unfold removeBlock
  split
  · exact seqBlockChange_live hv
  · exact hv

theorem keeps_manualClose (live : s.sequencer.st ≠ .dormant) : Keeps s (manualClose s).after := by
  have closes := ((keeps_removeSource .sef s).seqClosingWith (removeBlocks_live _ live)
    (q := { (removeSource .sef s).sequencer with shot := 0, manualClose := true }) fun _ => Nat.zero_le _).profRest
  unfold manualClose
  split
  case h_3 => exact Keeps.rfl
  all_goals
    split
    · exact Keeps.rfl
    split
    · exact Keeps.rfl
    · exact closes

theorem keeps_cmdResetFail (s : State) : Keeps s (cmdResetFail s).after := by
  unfold cmdResetFail
  split
  next failed =>
    have live : s.sequencer.st ≠ .dormant := by simp [failed]
    split
    iterate 2 exact (Keeps.rfl.seqMoveWith live .resetFail rfl rfl fun _ => Nat.zero_le _).profRest
    · exact Keeps.rfl
  next => exact Keeps.rfl

/-! ### Hunting, snapshots, notices and tables -/

theorem keeps_cmdStartHunt (s : State) : Keeps s (cmdStartHunt s).after := by
  unfold cmdStartHunt
  split
  next calls => exact Keeps.rfl.callRound calls.2.1
  next => exact Keeps.rfl

theorem keeps_cmdSnapshotRequest (s : State) : Keeps s (cmdSnapshotRequest s).after := by
  unfold cmdSnapshotRequest
  split
  · exact Keeps.rfl
  · exact Keeps.rfl.withMeas fun i => ⟨i.partialCycle, i.losses, by simp, i.accumulators, i.run⟩

theorem keeps_cmdReadNotice (s : State) : Keeps s (cmdReadNotice s).after := by
  unfold cmdReadNotice
  split
  · exact Keeps.rfl
  next n rest queued =>
    refine Keeps.rfl.withNotices (attn := attnLevel s.image.attnMask rest) fun i => ?_
    have room : (n :: rest).length ≤ 64 := queued ▸ i.room
    rw [List.length_cons] at room
    exact ⟨by simpa using Nat.le_of_succ_le room, (enabledQueued_iff _ _).symm⟩

theorem keeps_cmdReadTable (table first count : Byte) (s : State) : Keeps s (cmdReadTable table first count s).after := by
  unfold cmdReadTable
  split
  · split
    · exact Keeps.rfl
    · exact Keeps.rfl
  · exact Keeps.rfl

theorem keeps_runCommand (c : HostCommand) (s : State) : Keeps s (runCommand c s).after := by
  cases c with
  | loadSettings area offset data => exact keeps_cmdLoadSettings area offset data s
  | start => exact keeps_cmdStart s
  | softReset => exact keeps_cmdSoftReset s
  | selectProfile p => exact keeps_cmdSelectProfile p s
  | tag n d => exact keeps_cmdTag n d s
  | untag n => exact keeps_cmdUntag n s
  | unblock source origin n => exact keeps_cmdUnblock source origin n s
  | clearOverflow => exact keeps_cmdClearOverflow s
  | bookWatch w => exact keeps_cmdBookWatch w s
  | unbookWatch station kind substate => exact keeps_cmdUnbookWatch station kind substate s
  | manualOpen => exact keeps_judgeManual keeps_manualOpen
  | manualClose => exact keeps_judgeManual keeps_manualClose
  | resetFail => exact keeps_cmdResetFail s
  | startHunt => exact keeps_cmdStartHunt s
  | snapshotRequest => exact keeps_cmdSnapshotRequest s
  | snapshotRead => exact Keeps.rfl
  | readNotice => exact keeps_cmdReadNotice s
  | readTable table first count => exact keeps_cmdReadTable table first count s
  | readStatus => exact Keeps.rfl

/-! ### The command port -/

protected theorem Keeps.enterResponse (h : Keeps s u) (b : Byte) (r : Result) (l : List Byte) :
    Keeps s (enterResponse b r l u) := h.frame (by simp) (by simp)

theorem keeps_respond {r : Reply} (h : Keeps s r.after) : Keeps s (respond r) := by
  unfold respond
  split
  · exact h.enterResponse ..
  split
  · exact (h.enterResponse ..).advanceFree
  · exact (h.enterResponse ..).advanceFree

theorem keeps_answer (j : Judgement) (s : State) : Keeps s (answer j s) := by
  cases j with
  | rejected r => exact keeps_respond Keeps.rfl
  | passed c => exact keeps_respond (keeps_runCommand c s)

/-- The transaction on the port, its buffers and PDO answer to no invariant. -/
protected theorem Keeps.withTransaction (h : Keeps s u) {c : CportState} (same : c.part = u.cport.part ∧
    c.staging = u.cport.staging ∧ c.locked = u.cport.locked ∧ c.notices = u.cport.notices ∧ c.attn = u.cport.attn) :
    Keeps s { u with cport := c } := by
  obtain ⟨part, staging, locked, notices, attn⟩ := same
  exact h.frame ⟨rfl, rfl, rfl, rfl, rfl, rfl, part, staging, locked, notices, attn⟩ ⟨rfl, rfl, rfl⟩

protected theorem Keeps.trans (h : Keeps s u) (k : Keeps u t) : Keeps s t :=
  h.toKeepsApart.mended h.sequencer h.profile k

theorem keeps_takePortByte (b : Byte) (s : State) : Keeps s (takePortByte b s) := by
  have buffered : ∀ l, Keeps s (setBuffer l s) := fun l => Keeps.rfl.withTransaction ⟨rfl, rfl, rfl, rfl, rfl⟩
  unfold takePortByte
  split
  · unfold takeBuffer
    split
    · split
      · exact Keeps.rfl.withTransaction ⟨rfl, rfl, rfl, rfl, rfl⟩
      split
      · exact (buffered _).trans (keeps_answer _ _)
      · exact buffered _
    · exact buffered _
  · exact Keeps.rfl.withTransaction ⟨rfl, rfl, rfl, rfl, rfl⟩
  iterate 2 exact Keeps.rfl

/-! ### The rows of the table -/

/-- The command has a next state, and keeps every invariant and the queue of commands. -/
def Runs (f : State → Host.Outcome State Fault Refusal) : Prop := ∀ s : State, ∃ t : State, f s = .next t ∧ Keeps s t

/-- A part held in reset stays as it is (R176). -/
theorem runs_awake {f : State → State} (hf : ∀ s, Keeps s (f s)) : Runs (awake f) := by
  refine fun s => ⟨_, rfl, ?_⟩
  split
  · exact Keeps.rfl
  · exact hf s

/-- A timer that runs out acts at its own instant, and one that is stopped does nothing (log 3). -/
theorem runs_onTimer (timer : State → Option Ms) (f : Ms → State → State)
    (hf : ∀ s x, timer s = some x → Keeps s (f x (s.arriveAt x))) :
    Runs (awake fun s => match timer s with
      | some x => f x (s.arriveAt x)
      | none => s) := by
  refine runs_awake fun s => ?_
  split
  next running => exact hf s _ running
  next => exact Keeps.rfl

theorem runs_seqExpiry (st : SeqState) {f : State → State}
    (hf : ∀ s v, Keeps s v → v.sequencer.st = st → Keeps s (f v)) : Runs (awake (seqExpiry st f)) :=
  runs_awake fun s => Keeps.rfl.seqExpiry st (hf s)

theorem runs_txExpiry (st : TxState) {f : State → State} (hf : ∀ s v, Keeps s v → v.link.tx = st → Keeps s (f v)) :
    Runs (awake (txExpiry st f)) :=
  runs_awake fun s => Keeps.rfl.txExpiry st (hf s)

/-- A row that another block handed over takes its hand-over first (log 1). -/
theorem runs_handed (e : Instr) {f : State → State} (hf : ∀ s v, Keeps s v → Keeps s (f v)) :
    Runs (awake fun s => f (takeHandOver e s)) :=
  runs_awake fun s => hf s _ (Keeps.rfl.takeHandOver e)

/-- A host command of the table is the command of its bytes (log 9). -/
theorem runs_runCommand (c : HostCommand) : Runs (hostCommand (runCommand c)) :=
  runs_awake fun s => keeps_respond (keeps_runCommand c s)

protected theorem Keeps.onRecord (h : Keeps s u) (a : Byte) (f : Restraint → Restraint) : Keeps s (onRecord a f u) :=
  h.frame (by simp) (by simp)

/-- A frame of a neighbour acts on its restraint record where the neighbour is a downstream one (R137). -/
protected theorem Keeps.onRecordIf (h : Keeps s u) (c : Bool) (a : Byte) (f : Restraint → Restraint) :
    Keeps s (if c then onRecord a f u else u) := by
  split
  · exact h.onRecord a f
  · exact h

protected theorem Keeps.takeBreakerFail (h : Keeps s u) (a : Byte) : Keeps s (takeBreakerFail a u) := by
  unfold Machine.takeBreakerFail
  split
  · exact (h.onRecord a _).withElem fun i => ⟨i.partialCycle, i.losses, i.snapshot, i.accumulators, i.run⟩
  · exact h

protected theorem Keeps.refreshRestraint (h : Keeps s u) : Keeps s (refreshRestraint u) := by
  have restarted : Keeps s { u with tripco := { u.tripco with refreshAt := some (after u.now 100) } } :=
    h.frame (by simp) (by simp)
  simp only [Machine.refreshRestraint]
  split
  · exact restarted.placeFrame _
  · exact restarted

protected theorem Keeps.beginPeriod (h : Keeps s u) (x : Ms) : Keeps s (beginPeriod x u) := by
  have next_ : Keeps s { u with fin := { u.fin with nextPeriodAt := some (after x u.sensePeriod) } } := h.withFin rfl
  exact next_.setSense _

theorem runs_sampleFrame (bytes : List Byte) (extra : Nat) : Runs (execSampleFrame bytes extra) := by
  refine runs_awake fun s => ?_
  split
  next read => exact Keeps.rfl.assemble (readSampleFrame_position read) _
  next => exact Keeps.rfl

theorem runs_neighbourQuietExpiry (a : Byte) : Runs (execNeighbourQuietExpiry a) := by
  refine runs_awake fun s => ?_
  split
  · exact (Keeps.rfl.arriveAt _).changeStatus ..
  · exact Keeps.rfl

theorem runs_neighbourLostExpiry (a : Byte) : Runs (execNeighbourLostExpiry a) := by
  refine runs_awake fun s => ?_
  split
  · exact (Keeps.rfl.arriveAt _).changeStatus ..
  · exact Keeps.rfl

theorem runs_sendComplete : Runs execSendComplete := by
  refine runs_awake fun s => ?_
  split
  next sending => exact Keeps.rfl.finishSending sending
  next => exact Keeps.rfl

theorem runs_huntCallReceived (a n : Byte) : Runs (execHuntCallReceived a n) := by
  refine runs_awake fun s => ?_
  have taken : Keeps s (takeHandOver (.huntCallReceived a n) s) := Keeps.rfl.takeHandOver _
  simp only
  split
  · exact taken.takeCall _
  · exact taken

theorem runs_rxdByteCompleted (b : Byte) (stopBit : Bool) : Runs (execRxdByteCompleted b stopBit) := by
  refine runs_awake fun s => ?_
  split
  · exact Keeps.rfl
  · exact Keeps.rfl.takeRxByte b stopBit

theorem runs_commandRejected (code length : Byte) (payload : List Byte) (crc : Byte) :
    Runs (execCommandRejected code length payload crc) := by
  refine runs_awake fun s => ?_
  split
  · exact keeps_answer _ s
  · exact Keeps.rfl

theorem runs_resetnRelease : Runs execResetnRelease := by
  refine fun s => ⟨_, rfl, ?_⟩
  split
  · exact keeps_powerOn false s
  · exact Keeps.rfl

/-- Each command has a next state, and keeps every invariant and the queue of commands. -/
theorem runs_exec (c : Instr) : Runs (exec c) := by
  cases c with
  | sampleFrame bytes extraBits => exact runs_sampleFrame bytes extraBits
  | frameSilenceExpiry => exact runs_onTimer (·.meas.silenceAt) _ fun _ _ _ => (Keeps.rfl.arriveAt _).expireSilence
  | staticSample levels => exact runs_awake fun _ => Keeps.rfl.takeSamples .static levels
  | sensePeriodStart =>
    exact runs_onTimer (·.fin.nextPeriodAt) _ fun _ x _ => (Keeps.rfl.arriveAt x).beginPeriod x
  | cyclicSample levels => exact runs_awake fun _ => Keeps.rfl.takeSamples .cyclic levels
  | discrepancyTimeout => exact runs_onTimer (·.fin.discAt) _ fun _ _ _ => (Keeps.rfl.arriveAt _).expireDiscrepancy
  | tripRequest cause => exact runs_handed _ fun _ _ h => h.seqTripRequest cause
  | tripFailExpiry => exact runs_seqExpiry .tripping fun _ _ h st => h.seqFail (by simp [st]) .trip .tripFail
  | deadTimeExpiry => exact runs_seqExpiry .deadTime fun _ _ h st => h.seqDeadTimeOver st
  | holdMaxExpiry => exact runs_seqExpiry .deadHold fun _ _ h st => h.seqMove (by simp [st]) .holdTimeout rfl rfl
  | closeFailExpiry => exact runs_seqExpiry .closing fun _ _ h st => h.seqFail (by simp [st]) .close .closeFail
  | reclaimExpiry => exact runs_seqExpiry .reclaim fun _ _ h st => h.seqReclaimDone (by simp [st])
  | loadSettings area offset data => exact runs_runCommand (.loadSettings area offset data)
  | start => exact runs_runCommand .start
  | softReset => exact runs_runCommand .softReset
  | selectProfile profile => exact runs_runCommand (.selectProfile profile)
  | tag number duration => exact runs_runCommand (.tag number duration)
  | untag number => exact runs_runCommand (.untag number)
  | unblock source origin number => exact runs_runCommand (.unblock source origin number)
  | clearOverflow => exact runs_runCommand .clearOverflow
  | bookWatch w => exact runs_runCommand (.bookWatch w)
  | unbookWatch station kind substate => exact runs_runCommand (.unbookWatch station kind substate)
  | manualOpen => exact runs_runCommand .manualOpen
  | manualClose => exact runs_runCommand .manualClose
  | resetFail => exact runs_runCommand .resetFail
  | startHunt => exact runs_runCommand .startHunt
  | snapshotRequest => exact runs_runCommand .snapshotRequest
  | snapshotRead => exact runs_runCommand .snapshotRead
  | readNotice => exact runs_runCommand .readNotice
  | readTable table first count => exact runs_runCommand (.readTable table first count)
  | readStatus => exact runs_runCommand .readStatus
  | commandRejected code length payload crc => exact runs_commandRejected code length payload crc
  | transactionBegin => exact runs_awake fun _ => Keeps.rfl.withTransaction ⟨rfl, rfl, rfl, rfl, rfl⟩
  | transactionEnd => exact runs_awake fun _ => Keeps.rfl.withTransaction ⟨rfl, rfl, rfl, rfl, rfl⟩
  | powerOnReset cause => exact fun s => ⟨_, rfl, keeps_powerOn _ s⟩
  | blockRecordExpiry key => exact runs_onTimer (recordInstant key) _ fun _ _ _ => (Keeps.rfl.arriveAt _).removeBlock key
  | watchFrameMatch source body => exact runs_handed _ fun _ _ h => h.matchFrame source body
  | relaxTimerExpiry => exact runs_onTimer (·.prof.relaxAt) _ fun _ _ _ => (Keeps.rfl.arriveAt _).expireRelax
  | linkFrameReceived bytes => exact runs_handed _ fun _ _ h => h.receiveFrame bytes
  | receiveGapTimeout => exact runs_awake fun _ => Keeps.rfl.withRx .hunt
  | neighbourQuietExpiry address => exact runs_neighbourQuietExpiry address
  | neighbourLostExpiry address => exact runs_neighbourLostExpiry address
  | framePlacement p => exact runs_handed _ fun _ _ h => h.takePlacement p
  | carrierDetectChange busy => exact runs_awake fun _ => Keeps.rfl.takeCarrier busy
  | deferQuietExpiry =>
    exact runs_txExpiry .defer fun _ _ h st =>
      h.enterBackoff (by simp [st, keyedState]) fun i => (h.transmit i).isRun (by simp [st])
  | backoffExpiry =>
    exact runs_txExpiry .backoff fun _ _ h st =>
      h.endBackoff (by simp [st, keyedState]) fun i => (h.transmit i).isRun (by simp [st])
  | keyupExpiry => exact runs_txExpiry .keyup fun _ _ h st => h.enterSending st
  | sendComplete => exact runs_sendComplete
  | keydownExpiry => exact runs_txExpiry .keydown fun _ _ h st => h.keyDown st
  | beaconTimerExpiry =>
    exact runs_onTimer (·.link.beaconAt) _ fun _ _ running =>
      (Keeps.rfl.arriveAt _).placeBeacon fun i => i.isRun_of_beacon running
  | restrainReceived source r => exact runs_handed _ fun _ _ h => h.onRecordIf _ source _
  | releaseReceived source => exact runs_handed _ fun _ _ h => h.onRecordIf _ source _
  | stateFrameReceived source x => exact runs_handed _ fun _ _ h => h.onRecordIf _ source _
  | tripFrameReceived source t => exact runs_handed _ fun _ _ h => h.onRecordIf _ source _
  | breakerFailReceived source op => exact runs_handed _ fun _ _ h => h.takeBreakerFail source
  | restraintExpiry address =>
    exact runs_onTimer (restraintInstant address) _ fun _ _ _ => (Keeps.rfl.arriveAt _).onRecord address _
  | refreshTimerExpiry => exact runs_onTimer (·.tripco.refreshAt) _ fun _ _ _ => (Keeps.rfl.arriveAt _).refreshRestraint
  | huntCallReceived source seqNo => exact runs_huntCallReceived source seqNo
  | huntReportReceived source r => exact runs_handed _ fun _ _ h => h.takeReport source r
  | huntVerdictReceived source round => exact runs_handed _ fun _ _ h => h.takeVerdict source
  | roundDeadlineExpiry => exact runs_onTimer (·.hunt.deadlineAt) _ fun _ _ _ => (Keeps.rfl.arriveAt _).reachDeadline
  | cooldownExpiry =>
    exact runs_onTimer (·.hunt.cooldownAt) _ fun _ _ running => (Keeps.rfl.arriveAt _).endCooldown running
  | rxdByteCompleted byte stopBit => exact runs_rxdByteCompleted byte stopBit
  | commandByteTaken byte => exact runs_awake fun s => keeps_takePortByte byte s
  | resetnRelease => exact runs_resetnRelease

/-! ### A step -/

/-- A step is a command run on the state with another queue, or a millisecond: an invariant that does not read the queue
nor the count, and that every command keeps, is kept. -/
theorem kept_of_exec {inv : State → Prop} (queue : ∀ s l, inv s → inv (s.withPending l))
    (tick : ∀ s, inv s → inv (tick s)) (exec : ∀ c s t, Machine.exec c s = .next t → inv s → inv t) : Kept inv := by
  intro s t h hstep
  unfold step at hstep
  split at hstep
  next c rest _ => exact exec c _ t hstep (queue s rest h)
  next =>
    split at hstep
    next e _ => exact exec e s t hstep h
    next =>
      obtain rfl : Machine.tick s = t := by simpa using hstep
      exact tick s h

theorem exec_keeps {c : Instr} {s t : State} (ran : exec c s = .next t) : Keeps s t := by
  obtain ⟨v, ran', kept⟩ := runs_exec c s
  obtain rfl : v = t := by simpa [ran'] using ran
  exact kept

/-- The count answers to no invariant. -/
theorem tick_eq (s : State) : ∃ now : Ms, tick s = { s with now := now } := by
  unfold tick
  split
  · exact ⟨s.now, rfl⟩
  · exact ⟨_, rfl⟩

theorem keeps_tick (s : State) : Keeps s (tick s) := by
  obtain ⟨now, eq⟩ := tick_eq s
  rw [eq]
  exact Keeps.rfl.frame (by simp) (by simp)

/-! ### The obligations -/

/-- Settles O54: SEQ moves in RUN alone, to a state with the lines and the timer that belong to it; a raise that takes the
shot limit below its count locks it out, and a relax completes at rest. -/
theorem sequencerInvariant : Obligations.SequencerInvariant :=
  kept_of_exec (fun _ _ h => h.congr ⟨rfl, rfl, rfl⟩) (fun s => (keeps_tick s).sequencer)
    fun _ _ _ ran => (exec_keeps ran).sequencer

/-- Settles O55: what changes a demand, the neighbour table or the follow-peers flag has PROF recompute its demands, its
target and its effective profile before the step ends. -/
theorem profileInvariant : Obligations.ProfileInvariant :=
  kept_of_exec (fun _ _ h => h.congr ⟨rfl, rfl, rfl, rfl⟩) (fun s => (keeps_tick s).profile)
    fun _ _ _ ran => (exec_keeps ran).profile

/-- Settles O56: ATTN is set anew with each change of the queue and of the mask, and the image is locked by START alone. -/
theorem noticeAndSettingsInvariant : Obligations.NoticeAndSettingsInvariant :=
  ⟨kept_of_exec (fun _ _ h => h.congr ⟨rfl, rfl, rfl⟩) (fun s => (keeps_tick s).notices)
      fun _ _ _ ran => (exec_keeps ran).notices,
    kept_of_exec (fun _ _ h => h.congr ⟨rfl, rfl, rfl⟩) (fun s => (keeps_tick s).settings)
      fun _ _ _ ran => (exec_keeps ran).settings⟩

/-- Settles O58: in CONFIG no slot fills and the transmitter stays in IDLE; in RUN KEY and TXD go with its state. -/
theorem transmitterInvariant : Obligations.TransmitterInvariant :=
  kept_of_exec (fun _ _ h => h.congr ⟨rfl, rfl, rfl, rfl, rfl, rfl, rfl⟩) (fun s => (keeps_tick s).transmit)
    fun _ _ _ ran => (exec_keeps ran).transmit

/-- Settles O59: a record, a watch, an entry or a report joins its table where the table has room and its key is new. -/
theorem tablesInvariant : Obligations.TablesInvariant :=
  ⟨kept_of_exec (fun _ _ h => h.congr rfl) (fun s => (keeps_tick s).blocks) fun _ _ _ ran => (exec_keeps ran).blocks,
    kept_of_exec (fun _ _ h => h.congr rfl) (fun s => (keeps_tick s).watches) fun _ _ _ ran => (exec_keeps ran).watches,
    kept_of_exec (fun _ _ h => h.congr rfl) (fun s => (keeps_tick s).neighbours)
      fun _ _ _ ran => (exec_keeps ran).neighbours,
    kept_of_exec (fun _ _ h => h.congr ⟨rfl, rfl, rfl, rfl, rfl⟩) (fun s => (keeps_tick s).hunt)
      fun _ _ _ ran => (exec_keeps ran).hunt⟩

/-- Settles O60: a cycle completes at 32 samples, the counts and accumulators saturate, and a snapshot's record comes and
goes with VALID. -/
theorem measurementInvariant : Obligations.MeasurementInvariant :=
  kept_of_exec (fun _ _ h => h.congr ⟨rfl, rfl⟩) (fun s => (keeps_tick s).measure)
    fun _ _ _ ran => (exec_keeps ran).measure

/-- Settles O2: no row of the table faults or refuses, and none touches the queue of commands. -/
theorem everyCommandAnswersANextState : Obligations.EveryCommandAnswersANextState := by
  intro c s
  obtain ⟨t, ran, kept⟩ := runs_exec c s
  exact ⟨t, ran, kept.pending⟩

end Sys2Proof.Safety
end

section
/-! What the operations of SEQ, FIN and PROF are in the words of the statements: transitions, rest, and what they leave
unchanged. -/

namespace Sys2Proof.Claims

open Sys2Proof Sys2Proof.Machine

variable {s t u x : State}

/-! ### PROF at rest (R107, R109) -/

theorem atRest_iff (s : State) : s.atRest = true ↔ Rests s := by
  simp only [State.atRest, Rests, Bool.and_eq_true, Bool.not_eq_true', beq_iff_eq, and_assoc]
  refine and_congr_left fun _ => ?_
  cases h : s.sequencer.st <;> simp [SequencerState.atRest, h]

theorem demandFlags_eq (p : ProfState) : demandFlags p = changeFlags p.port p.field p.peer p.effective := by
  simp [demandFlags, changeFlags, flagBit]

theorem completeRelax_eq (s : State) : completeRelax s = { s with
    prof := { s.prof with effective := s.prof.target, relax := .none, relaxAt := none },
    cport := s.cport.queue s.image.attnMask
      (profileNote 2 s.prof.effective s.prof.target s.prof.port s.prof.field s.prof.peer s),
    handovers := s.handovers ++ [.framePlacement .beaconRequest] } := by
  rw [profileNote, ← demandFlags_eq { s.prof with effective := s.prof.target, relax := .none, relaxAt := none }]
  rfl

theorem restTaken_profRest (s : State) : RestTaken s (profRest s) := by
  refine ⟨fun h => if_neg (by rwa [atRest_iff]), fun due rests => ?_⟩
  rw [profRest, if_pos ⟨due, (atRest_iff s).2 rests⟩, completeRelax_eq]

/-- In a state of SEQ that is not at rest PROF does nothing (R107). -/
theorem restTaken_self (active : s.sequencer.atRest = false) : RestTaken s s := by
  have h := restTaken_profRest s
  rwa [profRest_of_active s active] at h

/-! ### FIN at a transition (R44, R53, R72) -/

theorem sensedStatic_iff (s : State) (n : Nat) :
    Machine.sensedStatic s.image s.fin.forced n = true ↔ SensedStatic s n :=
  Machine.sensedStatic_iff ..

theorem wetLevel_iff (s : State) : wetLevel s = true ↔ WetHigh s := by
  simp only [Machine.wetLevel_iff, sensedStatic_iff, WetHigh]

theorem healthyLevel_eq (s : State) :
    healthyLevel s = decide (s.isRun = true ∧ s.meas.status = .fresh ∧ s.sequencer.st ≠ .failed) := by
  rw [Bool.eq_iff_iff]
  simp [healthyLevel, and_assoc]

/-- The inputs after forcing or its end, one by one (R44). -/
theorem getD_changeForced (i : Image) (l : List InputState) (n : Nat) (x : InputState)
    (present : x = l.getD n InputState.reset) : (changeForced i l).getD n InputState.reset =
      if n < 2 ∧ i.inputMode n = 1 then { confirmed := x.confirmed, run := 0, prev := none, pend := none } else x := by
  subst present
  simp only [changeForced, List.getD_eq_getElem?_getD, List.getElem?_mapIdx]
  cases l[n]? with
  | none => simp [InputState.reset]
  | some x => simp [InputState.changeMode]

theorem sameContacts_of_fin (fin : t.fin = s.fin) : sameContacts s t :=
  ⟨input_congr fin, by rw [fin], by rw [fin], by rw [fin], by rw [fin], by rw [fin], by rw [fin]⟩

theorem sameContacts_trans (h : sameContacts s t) (h' : sameContacts t u) : sameContacts s u := by
  obtain ⟨input, position, discrepancy, discAt, demand, period, sense⟩ := h
  obtain ⟨input', position', discrepancy', discAt', demand', period', sense'⟩ := h'
  exact ⟨fun n => (input' n).trans (input n), position'.trans position, discrepancy'.trans discrepancy,
    discAt'.trans discAt, demand'.trans demand, period'.trans period, sense'.trans sense⟩

theorem sameContacts_forceStatic (s : State) : sameContacts s (forceStatic s) := by
  refine ⟨forceStatic_input s, ?_⟩
  unfold forceStatic
  simp only
  split <;> exact ⟨rfl, rfl, rfl, rfl, rfl, rfl⟩

theorem beq_decide {α : Type} [BEq α] [LawfulBEq α] [DecidableEq α] (a b : α) : (a == b) = decide (a = b) := by
  rw [Bool.eq_iff_iff, beq_iff_eq, decide_eq_true_iff]

theorem beq_or_beq_eq_decide (st : SeqState) :
    ((st == .tripping) || (st == .closing)) = decide (st = .tripping ∨ st = .closing) := by
  cases st <;> rfl

/-- A state of FIN follows SEQ's alone: nothing but SEQ's state differs between `s` and `x` of what FIN reads. -/
theorem finFollows_forceStatic {st : SeqState} (fin : x.fin = s.fin) (entered : x.sequencer.st = st)
    (meas : x.meas = s.meas) (run : x.isRun = s.isRun) (image : x.image = s.image) :
    FinFollows st s (refreshHealthy (forceStatic x)) := by
  have forced : (refreshHealthy (forceStatic x)).fin.forced = decide (st = .tripping ∨ st = .closing) := by
    rw [← entered, ← beq_or_beq_eq_decide]
    exact forceStatic_forced x
  have contacts : sameContacts x (refreshHealthy (forceStatic x)) := by
    obtain ⟨input, rest⟩ := sameContacts_forceStatic x
    exact ⟨input, rest⟩
  refine ⟨forced, ?_, fun same => ?_, fun changed => ?_, sameContacts_trans (sameContacts_of_fin fin) contacts⟩
  · show healthyLevel (forceStatic x) = _
    rw [healthyLevel_eq]
    simp only [forceStatic_frame, entered, meas, State.isRun] at run ⊢
    simp [run]
  · have kept : forceStatic x = x := forceStatic_same x (by
      rw [beq_or_beq_eq_decide, entered, ← forced, same, fin])
    have inputs : x.fin.inputs = s.fin.inputs := by rw [fin]
    have wet : x.fin.wet = s.fin.wet := by rw [fin]
    rw [kept]
    exact ⟨inputs, wet⟩
  · have eq := forceStatic_changes x (by
      rw [beq_or_beq_eq_decide, entered, ← forced, fin]
      exact Ne.symm changed)
    refine ⟨?_, fun n y present => ?_⟩
    · rw [← wetLevel_iff, eq]
      rfl
    · rw [eq, ← image]
      exact getD_changeForced _ _ n y (by rw [present, fin])

/-! ### Frames -/

theorem sameSettings_of_cport (cport : t.cport = s.cport) (held : t.resetHeld = s.resetHeld)
    (pending : t.pending = s.pending) : sameSettings s t := by
  simp [sameSettings, cport, held, pending]

theorem sameBlock_trans {b : Block} (h : sameBlock s t b) (h' : sameBlock t u b) : sameBlock s u b := by
  cases b <;> exact Eq.trans h' h

section EventFrame

variable {bs cs : List Block}

theorem EventFrame.refl (s : State) : EventFrame bs s s := by
  refine ⟨⟨fun b _ => ?_, ?_, rfl⟩, ?_⟩
  · cases b <;> rfl
  · simp [sameSettings]
  · simp [sameTransaction]

theorem Frame.mono (h : Frame bs s t) (sub : cs ⊆ bs) : Frame cs s t := by
  obtain ⟨blocks, settings, now⟩ := h
  exact ⟨fun b mem => blocks b (sub mem), settings, now⟩

theorem EventFrame.mono (h : EventFrame bs s t) (sub : cs ⊆ bs) : EventFrame cs s t :=
  ⟨h.1.mono sub, h.2⟩

theorem Frame.trans (h : Frame bs s t) (h' : Frame bs t u) : Frame bs s u := by
  obtain ⟨blocks, ⟨part, staging, locked, held, pending⟩, now⟩ := h
  obtain ⟨blocks', ⟨part', staging', locked', held', pending'⟩, now'⟩ := h'
  exact ⟨fun b mem => sameBlock_trans (blocks b mem) (blocks' b mem), ⟨part'.trans part, staging'.trans staging,
    locked'.trans locked, held'.trans held, pending'.trans pending⟩, now'.trans now⟩

theorem EventFrame.trans (h : EventFrame bs s t) (h' : EventFrame bs t u) : EventFrame bs s u := by
  obtain ⟨frame, trans, rxBuf, resp, respPos, pdo⟩ := h
  obtain ⟨frame', trans', rxBuf', resp', respPos', pdo'⟩ := h'
  exact ⟨frame.trans frame', trans'.trans trans, rxBuf'.trans rxBuf, resp'.trans resp, respPos'.trans respPos,
    pdo'.trans pdo⟩

theorem Frame.image (h : Frame bs s t) : t.image = s.image := by
  obtain ⟨-, ⟨part, staging, locked, held, pending⟩, now⟩ := h
  rw [State.image, staging, locked, State.image]

theorem Frame.address (h : Frame bs s t) : t.address = s.address := congrArg Image.stationAddress h.image

theorem Frame.isRun (h : Frame bs s t) : t.isRun = s.isRun := by
  obtain ⟨-, ⟨part, -⟩, -⟩ := h
  rw [State.isRun, part, State.isRun]

end EventFrame

theorem queue_settings (c : CportState) (mask : Nat) (n : Notice) :
    (c.queue mask n).part = c.part ∧ (c.queue mask n).staging = c.staging ∧ (c.queue mask n).locked = c.locked ∧
      (c.queue mask n).trans = c.trans ∧ (c.queue mask n).rxBuf = c.rxBuf ∧ (c.queue mask n).resp = c.resp ∧
      (c.queue mask n).respPos = c.respPos ∧ (c.queue mask n).pdo = c.pdo := by
  unfold CportState.queue
  split <;> simp

/-- Notices leave CPORT all but the queue, its overflow flag and ATTN. -/
theorem queueAll_settings (mask : Nat) (ns : List Notice) (c : CportState) :
    (ns.foldl (fun c n => c.queue mask n) c).part = c.part ∧
      (ns.foldl (fun c n => c.queue mask n) c).staging = c.staging ∧
      (ns.foldl (fun c n => c.queue mask n) c).locked = c.locked ∧
      (ns.foldl (fun c n => c.queue mask n) c).trans = c.trans ∧
      (ns.foldl (fun c n => c.queue mask n) c).rxBuf = c.rxBuf ∧
      (ns.foldl (fun c n => c.queue mask n) c).resp = c.resp ∧
      (ns.foldl (fun c n => c.queue mask n) c).respPos = c.respPos ∧
      (ns.foldl (fun c n => c.queue mask n) c).pdo = c.pdo := by
  induction ns generalizing c with
  | nil => simp
  | cons n ns ih => simpa [queue_settings] using ih (c.queue mask n)

/-! ### Transitions -/

/-- SEQ has entered a state, its notices are queued and its frames placed, and nothing else has happened. -/
def announced (q : SequencerState) (ns : List Notice) (fs : List OwnedFrame) (s : State) : State :=
  { s with
    sequencer := q, cport := ns.foldl (fun c n => c.queue s.image.attnMask n) s.cport,
    handovers := s.handovers ++ placements fs }

section Announced

variable (q : SequencerState) (ns : List Notice) (fs : List OwnedFrame) (s : State)

theorem announced_isRun : (announced q ns fs s).isRun = s.isRun := by
  simp [announced, State.isRun, queueAll_settings]

theorem announced_image : (announced q ns fs s).image = s.image := by
  simp [announced, State.image, queueAll_settings]

theorem announced_address : (announced q ns fs s).address = s.address := by
  simp [State.address, announced_image]

theorem eventFrame_announced :
    EventFrame [.meas, .elem, .fin, .blk, .prof, .link, .tripco, .hunt] s (announced q ns fs s) := by
  simp [EventFrame, Frame, sameBlock, sameSettings, sameTransaction, announced, queueAll_settings]

theorem queueOwn_announced (k : NoticeKind) (d1 d2 : Half) : queueOwn k d1 d2 (announced q ns fs s) =
    announced q (ns ++ [note k s.address d1 d2 s]) fs s := by
  have cport : (queueOwn k d1 d2 (announced q ns fs s)).cport = (announced q ns fs s).cport.queue s.image.attnMask
      (note k s.address d1 d2 s) := by
    rw [queueOwn_cport, announced_image, announced_address]
    rfl
  calc queueOwn k d1 d2 (announced q ns fs s)
      = { announced q ns fs s with cport := (queueOwn k d1 d2 (announced q ns fs s)).cport } := rfl
    _ = _ := by
      rw [cport, announced, announced, List.foldl_append]
      rfl

theorem placeFrame_announced (f : OwnedFrame) :
    placeFrame f (announced q ns fs s) = announced q ns (fs ++ [f]) s := by
  simp [placeFrame, handOver, announced, placements]

theorem announceState_announced (r : Reason) : announceState r (announced q ns fs s) =
    announced q (ns ++ [stateNote q.st r s]) (fs ++ [stateFrame q.st q.shot s]) s := by
  rw [announceState, placeStateFrame, placeFrame_announced, queueOwn_announced]
  rfl

theorem seqEnter_announced (st : SeqState) (timer : Option Ms) :
    seqEnter st timer s = announced (s.sequencer.enter st timer) [] [] s := by
  simp [seqEnter, announced, placements]

end Announced

/-- What SEQ's announced entry makes of FIN and TRIPCO is a transition of the statements. -/
theorem transition_announced {st : SeqState} {timer : Option Ms} {ns : List Notice} {fs : List OwnedFrame}
    {q : SequencerState} (entered : q = s.sequencer.enter st timer) :
    Transition st timer ns fs s (handTransition (announced q ns fs s)) := by
  subst entered
  refine ⟨refreshHealthy (forceStatic (announced _ ns fs s)), ?_, ?_, ?_, ?_,
    finFollows_forceStatic rfl rfl rfl (announced_isRun ..) (announced_image ..), ?_, rfl⟩
  · simp [SeqIs, announced, SequencerState.enter, beq_decide]
  · simp [sameCounts, announced, SequencerState.enter]
  · simp [Queued, announced]
  · simp [announced]
  · simp [EventFrame, Frame, sameBlock, sameSettings, sameTransaction, announced, queueAll_settings]

theorem transition_seqMove (st : SeqState) (timer : Option Ms) (r : Reason) (s : State) :
    Transition st timer [stateNote st r s] [stateFrame st s.sequencer.shot s] s (seqMove st timer r s) := by
  rw [seqMove, seqEnter_announced, announceState_announced]
  exact transition_announced rfl

theorem transition_seqSlip (st : SeqState) (timer : Option Ms) (s : State) :
    Transition st timer [] [] s (seqSlip st timer s) := by
  rw [seqSlip, seqEnter_announced]
  exact transition_announced rfl

theorem transition_seqExternalOpen (s : State) : Transition .opened none
    [note .externalOpen s.address (half (seqStateCode s.sequencer.st)) (half s.sequencer.shot) s,
      stateNote .opened .externalOpen s] [stateFrame .opened s.sequencer.shot s] s (seqExternalOpen s) := by
  rw [seqExternalOpen, seqEnter_announced, queueOwn_announced, announceState_announced]
  exact transition_announced rfl

/-- The second detail of a BREAKER_FAIL notice (R71; 11.5). -/
def failDetail (op : FailedOp) (q : SequencerState) : Half :=
  half (match op with
    | .trip => causeCode q.lastCause
    | .close => if q.manualClose then 1 else 0)

theorem announceFailure_eq (op : FailedOp) (s : State) : announceFailure op s =
    queueOwn .breakerFail (half (failedOpCode op)) (failDetail op s.sequencer) (placeFrame (.breakerFail op) s) := by
  cases op <;> rfl

theorem transition_seqFail (op : FailedOp) (r : Reason) (s : State) : Transition .failed none
    [note .breakerFail s.address (half (failedOpCode op)) (failDetail op s.sequencer) s, stateNote .failed r s]
    [.breakerFail op, stateFrame .failed s.sequencer.shot s] s (seqFail op r s) := by
  rw [seqFail, seqEnter_announced, announceFailure_eq, placeFrame_announced, queueOwn_announced, announceState_announced]
  exact transition_announced rfl

/-! ### Transitions and the state they leave -/

section Transition

variable {st : SeqState} {timer : Option Ms} {ns : List Notice} {fs : List OwnedFrame}

/-- PROF's relax leaves all but PROF, the notices and the placements. -/
theorem RestTaken.frame (h : RestTaken s t) : t.sequencer = s.sequencer ∧ t.fin = s.fin ∧ t.blk = s.blk ∧
    t.tripco = s.tripco ∧ EventFrame [.meas, .elem, .fin, .sequencer, .blk, .link, .tripco, .hunt] s t := by
  obtain ⟨stays, completes⟩ := h
  by_cases c : s.prof.relax = .due ∧ Rests s
  · rw [completes c.1 c.2]
    simp [EventFrame, Frame, sameBlock, sameSettings, sameTransaction, queue_settings]
  · rw [stays c]
    simp [EventFrame, Frame, sameBlock, sameSettings, sameTransaction]

theorem Transition.leaves (h : Transition st timer ns fs s t) : SeqIs st timer t ∧ sameCounts s t ∧ sameContacts s t ∧
    t.blk = s.blk ∧ t.tripco.records = s.tripco.records ∧ t.prof = s.prof ∧
    EventFrame [.meas, .elem, .blk, .prof, .link, .hunt] s t := by
  obtain ⟨p, seqIs, counts, -, -, ⟨-, -, -, -, contacts⟩, frame, rfl⟩ := h
  simp only [EventFrame, Frame, List.forall_mem_cons, sameBlock, sameSettings, sameTransaction] at frame
  obtain ⟨⟨⟨meas, elem, blk, prof, link, tripco, hunt, -⟩, settings, now⟩, transaction⟩ := frame
  refine ⟨?_, ?_, ?_, by simp [blk], by simp [tripco], by simp [prof], ?_⟩
  · simpa [SeqIs] using seqIs
  · simpa [sameCounts] using counts
  · simpa [sameContacts, State.input] using contacts
  · simpa [EventFrame, Frame, sameBlock, sameSettings, sameTransaction, meas, elem, blk, prof, link, hunt, now]
      using ⟨settings, transaction⟩

/-- A transition, and PROF after it (R109). -/
theorem Transition.moves {v : State} (h : Transition st timer ns fs s v) (rest : RestTaken v t) :
    MovesTo st timer ns fs s t := by
  obtain ⟨seqIs, counts, contacts, blk, records, -⟩ := h.leaves
  obtain ⟨sequencer, fin, blk', tripco, -⟩ := rest.frame
  refine ⟨?_, ?_, sameContacts_trans contacts (sameContacts_of_fin fin), blk'.trans blk, ?_, v, h, rest⟩
  · simpa [SeqIs, sequencer] using seqIs
  · simpa [sameCounts, sequencer] using counts
  · rw [tripco, records]

theorem Transition.moves_profRest {v : State} (h : Transition st timer ns fs s v) :
    MovesTo st timer ns fs s (profRest v) :=
  h.moves (restTaken_profRest v)

end Transition

end Sys2Proof.Claims
end

section
/-! SEQ's own events in the words of the statements: changes of position and expiries. -/

namespace Sys2Proof.Claims

open Sys2Proof Sys2Proof.Machine

variable {s t u : State}

/-! ### The breaker opens, closes, or was moved from outside (R62, R67, R69) -/

theorem transition_seqOpened_noReclose (flag : s.sequencer.noReclose = true) :
    Transition .lockout none [stateNote .lockout .noReclose s] [stateFrame .lockout s.sequencer.shot s] s
      (seqOpened s) := by
  rw [seqOpened, if_pos flag]
  exact transition_seqMove ..

theorem transition_seqOpened_shotLimit (flag : s.sequencer.noReclose = false)
    (limit : s.shotLimit < s.sequencer.shot) :
    Transition .lockout none [stateNote .lockout .shotLimit s] [stateFrame .lockout s.sequencer.shot s] s
      (seqOpened s) := by
  rw [seqOpened, if_neg (by simp [flag]), if_pos limit]
  exact transition_seqMove ..

theorem transition_seqOpened_deadTime (flag : s.sequencer.noReclose = false)
    (limit : s.sequencer.shot ≤ s.shotLimit) :
    Transition .deadTime (some (after s.now (s.image.deadTime s.sequencer.shot))) [] [] s (seqOpened s) := by
  rw [seqOpened, if_neg (by simp [flag]), if_neg (by omega)]
  exact transition_seqSlip ..

/-- What every transition leaves of FIN's contacts, of BLK and of PROF. -/
def Unmoved (s v : State) : Prop := sameContacts s v ∧ v.prof = s.prof ∧ v.tripco.records = s.tripco.records ∧
  EventFrame [.meas, .elem, .blk, .link, .hunt] s v

theorem Transition.unmoved {st : SeqState} {timer : Option Ms} {ns : List Notice} {fs : List OwnedFrame}
    (h : Transition st timer ns fs s t) : Unmoved s t := by
  obtain ⟨-, -, contacts, -, records, prof, frame⟩ := h.leaves
  exact ⟨contacts, prof, records, frame.mono (by decide)⟩

theorem Unmoved.refl (s : State) : Unmoved s s := ⟨sameContacts_of_fin rfl, rfl, rfl, EventFrame.refl s⟩

theorem Unmoved.trans (h : Unmoved s t) (h' : Unmoved t u) : Unmoved s u := by
  obtain ⟨contacts, prof, records, frame⟩ := h
  obtain ⟨contacts', prof', records', frame'⟩ := h'
  exact ⟨sameContacts_trans contacts contacts', prof'.trans prof, records'.trans records, frame.trans frame'⟩

/-- What SEQ itself was before does not matter to the other blocks. -/
theorem Unmoved.of_sequencer {q : SequencerState} (h : Unmoved { s with sequencer := q } t) : Unmoved s t := by
  obtain ⟨contacts, prof, records, frame⟩ := h
  refine ⟨contacts, prof, records, ?_⟩
  simpa [EventFrame, Frame, sameBlock, sameSettings, sameTransaction] using frame

theorem transition_seqOpened (s : State) : ∃ (st : SeqState) (timer : Option Ms) (ns : List Notice)
    (fs : List OwnedFrame), Transition st timer ns fs s (seqOpened s) := by
  cases flag : s.sequencer.noReclose
  · rcases Nat.lt_or_ge s.shotLimit s.sequencer.shot with limit | limit
    · exact ⟨_, _, _, _, transition_seqOpened_shotLimit flag limit⟩
    · exact ⟨_, _, _, _, transition_seqOpened_deadTime flag limit⟩
  · exact ⟨_, _, _, _, transition_seqOpened_noReclose flag⟩

theorem unmoved_seqOpened (s : State) : Unmoved s (seqOpened s) := by
  obtain ⟨_, _, _, _, h⟩ := transition_seqOpened s
  exact h.unmoved

theorem transition_seqExternalClose (s : State) :
    Transition .reclaim (some (after s.now s.image.reclaim)) [stateNote .reclaim .externalClose s]
      [stateFrame .reclaim 0 s] { s with sequencer := { s.sequencer with shot := 0, manualClose := true } }
      (seqExternalClose s) :=
  transition_seqMove ..

theorem unmoved_seqExternalClose (s : State) : Unmoved s (seqExternalClose s) :=
  (transition_seqExternalClose s).unmoved.of_sequencer

theorem transition_seqClosed (s : State) :
    Transition .reclaim (some (after s.now s.image.reclaim)) [stateNote .reclaim .closeDone s]
      [stateFrame .reclaim s.sequencer.shot s] s (seqClosed s) :=
  transition_seqMove ..

/-- A relax that waits for no rest is left, and so are the contacts (R107, R109). -/
theorem Unmoved.relaxed {v : State} (h : Unmoved s v) :
    sameContacts s (profRest v) ∧ (profRest v).tripco.records = s.tripco.records ∧
      (noRelaxDue s → (profRest v).prof = s.prof) ∧ EventFrame [.meas, .elem, .blk, .link, .hunt] s (profRest v) := by
  obtain ⟨contacts, prof, records, frame⟩ := h
  obtain ⟨-, fin, -, tripco, rest⟩ := (restTaken_profRest v).frame
  refine ⟨sameContacts_trans contacts (sameContacts_of_fin fin), tripco ▸ records, fun quiet => ?_,
    frame.trans (rest.mono (by decide))⟩
  rw [profRest_of_ne_due v (by rwa [prof]), prof]

/-- What a change of position leaves, whatever SEQ makes of it. -/
theorem seqPosition_leaves (s : State) : sameContacts s (seqPosition s) ∧
    (seqPosition s).tripco.records = s.tripco.records ∧ (noRelaxDue s → (seqPosition s).prof = s.prof) ∧
    EventFrame [.meas, .elem, .blk, .link, .hunt] s (seqPosition s) := by
  have still : sameContacts s s ∧ s.tripco.records = s.tripco.records ∧ (noRelaxDue s → s.prof = s.prof) ∧
      EventFrame [.meas, .elem, .blk, .link, .hunt] s s :=
    ⟨(Unmoved.refl s).1, rfl, fun _ => rfl, (Unmoved.refl s).2.2.2⟩
  unfold seqPosition
  split
  case h_1 => exact (unmoved_seqOpened s).relaxed
  case h_2 => exact (transition_seqClosed s).unmoved.relaxed
  case h_3 | h_4 => exact (transition_seqExternalOpen s).unmoved.relaxed
  case h_5 | h_6 | h_7 | h_8 => exact (unmoved_seqExternalClose s).relaxed
  case h_9 => exact still

/-- Settles O17: each state of SEQ with the transition that the new position makes of it. -/
theorem sequencerTakesPositionChanges : Obligations.SequencerTakesPositionChanges := by
  rintro s _ rfl
  refine ⟨fun st pos => ?_, fun st pos => ?_, fun st pos => ?_, fun st pos => ?_, fun st => ?_, fun pos st => ?_,
    fun pos st => ?_, seqPosition_leaves s⟩
  · rw [show seqPosition s = profRest (seqOpened s) by simp [seqPosition, st, pos]]
    exact ⟨fun flag => (transition_seqOpened_noReclose flag).moves_profRest,
      fun flag limit => (transition_seqOpened_shotLimit flag limit).moves_profRest,
      fun flag limit => (transition_seqOpened_deadTime flag limit).moves_profRest⟩
  · rw [show seqPosition s = profRest (seqClosed s) by simp [seqPosition, st, pos]]
    exact (transition_seqClosed s).moves_profRest
  · rw [show seqPosition s = profRest (seqExternalOpen s) by rcases st with st | st <;> simp [seqPosition, st, pos]]
    exact (transition_seqExternalOpen s).moves_profRest
  · rw [show seqPosition s = profRest (seqExternalClose s) by
      rcases st with st | st | st | st <;> simp [seqPosition, st, pos]]
    exact (transition_seqExternalClose s).moves_profRest
  · rcases st with st | st | st <;> simp [seqPosition, st]
  · rcases st with st | st | st <;> simp [seqPosition, st, pos]
  · rcases st with st | st | st | st | st <;> simp [seqPosition, st, pos]

/-! ### Expiries (R63 to R68) -/

theorem seqExpiry_arrives {st : SeqState} {at_ : Ms} {f : State → State} (timer : s.sequencer.timer = some at_)
    (state : s.sequencer.st = st) : seqExpiry st f s = profRest (f (s.arriveAt at_)) := by
  simp [seqExpiry, state, timer]

theorem awake_eq {f : State → State} (up : s.resetHeld = false) : awake f s = .next (f s) := by simp [awake, up]

theorem failDetail_close (q : SequencerState) :
    failDetail .close q = if q.manualClose = true then 1 else 0 := by
  cases flag : q.manualClose <;> simp [failDetail, flag] <;> rfl

/-- Settles O18: both failures of a coil operation are the one transition to FAILED. -/
theorem coilOperationsFail : Obligations.CoilOperationsFail := by
  rintro s _ at_ up timer rfl
  have fails : ∀ (op : FailedOp) (r : Reason), (profRest (seqFail op r (s.arriveAt at_))).fin.healthy = false := by
    intro op r
    simp [seqFail, healthyLevel, announceState, announceFailure, seqEnter, SequencerState.enter]
  have leaves : ∀ (op : FailedOp) (r : Reason), (noRelaxDue s → (profRest (seqFail op r (s.arriveAt at_))).prof = s.prof) ∧
      EventFrame [.meas, .elem, .blk, .link, .hunt] (s.arriveAt at_) (profRest (seqFail op r (s.arriveAt at_))) :=
    fun op r => (transition_seqFail op r (s.arriveAt at_)).unmoved.relaxed.2.2
  refine ⟨fun st => ⟨profRest (seqFail .trip .tripFail (s.arriveAt at_)), ?_,
      (transition_seqFail .trip .tripFail _).moves_profRest, fails .., leaves ..⟩,
    fun st => ⟨profRest (seqFail .close .closeFail (s.arriveAt at_)), ?_, ?_, fails .., leaves ..⟩⟩
  · exact (awake_eq up).trans (congrArg _ (seqExpiry_arrives timer st))
  · exact (awake_eq up).trans (congrArg _ (seqExpiry_arrives timer st))
  · have h := (transition_seqFail .close .closeFail (s.arriveAt at_)).moves_profRest
    rwa [failDetail_close] at h

end Sys2Proof.Claims
end

section
/-! The block table in the words of the statements: what SEQ makes of a change, and what BLK makes of a request. -/

namespace Sys2Proof.Claims

open Sys2Proof Sys2Proof.Machine

variable {s t u : State}

/-! ### SEQ judges the table (R64, R65) -/

theorem blockLocks_iff (s : State) : blockLocks s.blk = true ↔ tableLocks s := by
  simp [blockLocks, tableLocks, or_comm]

theorem stateNote_congr {st : SeqState} {r : Reason} (now : t.now = s.now) (address : t.address = s.address) :
    stateNote st r t = stateNote st r s := by
  rw [stateNote, note, now, address]
  rfl

theorem stateFrame_congr {st : SeqState} {shot : Nat} (position : t.fin.position = s.fin.position) :
    stateFrame st shot t = stateFrame st shot s := by
  rw [stateFrame, position]
  rfl

/-- SEQ in CLOSING, before it looks at the position (R61). -/
def closing (s : State) : State := seqSlip .closing (some (after s.now s.image.closeFail)) s

theorem transition_closing (s : State) :
    Transition .closing (some (after s.now s.image.closeFail)) [] [] s (closing s) :=
  transition_seqSlip ..

theorem seqClosing_of_not_closed (position : s.fin.position ≠ .closed) : seqClosing s = closing s :=
  if_neg (by simpa [State.timerIn] using position)

theorem seqClosing_of_closed (position : s.fin.position = .closed) : seqClosing s = seqClosed (closing s) :=
  if_pos (by simpa [State.timerIn] using position)

theorem transition_seqClosed_closing (s : State) :
    Transition .reclaim (some (after s.now s.image.reclaim)) [stateNote .reclaim .closeDone s]
      [stateFrame .reclaim s.sequencer.shot s] (closing s) (seqClosed (closing s)) := by
  have h := transition_seqClosed (closing s)
  rwa [stateNote_congr (s := s) (by simp [closing]) (by simp [closing]),
    stateFrame_congr (s := s) (by simp [closing]), show (closing s).now = s.now by simp [closing],
    show (closing s).image = s.image by simp [closing],
    show (closing s).sequencer.shot = s.sequencer.shot by simp [closing, SequencerState.enter]] at h

theorem recloses_seqClosing (s : State) : Recloses s (profRest (seqClosing s)) := by
  refine ⟨fun position => ?_, fun position => ⟨closing s, transition_closing s, ?_⟩⟩
  · rw [seqClosing_of_not_closed position]
    exact (transition_closing s).moves_profRest
  · rw [seqClosing_of_closed position]
    exact (transition_seqClosed_closing s).moves_profRest

theorem unmoved_seqClosing (s : State) : Unmoved s (seqClosing s) := by
  by_cases position : s.fin.position = .closed
  · rw [seqClosing_of_closed position]
    exact (transition_closing s).unmoved.trans (transition_seqClosed_closing s).unmoved
  · rw [seqClosing_of_not_closed position]
    exact (transition_closing s).unmoved

theorem judgeBlocks_of_locks {hold : State → State} (locks : tableLocks s) :
    judgeBlocks hold s = seqMove .lockout none .blockLock s :=
  if_pos ((blockLocks_iff s).2 locks)

theorem judgeBlocks_of_hold {hold : State → State} (free : ¬ tableLocks s) (held : s.blk.table ≠ []) :
    judgeBlocks hold s = hold s := by
  rw [judgeBlocks, if_neg (by rwa [blockLocks_iff]), if_neg held]

theorem judgeBlocks_of_empty {hold : State → State} (free : ¬ tableLocks s) (empty : s.blk.table = []) :
    judgeBlocks hold s = seqClosing s := by
  rw [judgeBlocks, if_neg (by rwa [blockLocks_iff]), if_pos empty]

theorem unmoved_judgeBlocks {hold : State → State} (held : Unmoved s (hold s)) : Unmoved s (judgeBlocks hold s) := by
  by_cases locks : tableLocks s
  · rw [judgeBlocks_of_locks locks]
    exact (transition_seqMove ..).unmoved
  · by_cases empty : s.blk.table = []
    · rw [judgeBlocks_of_empty locks empty]
      exact unmoved_seqClosing s
    · rwa [judgeBlocks_of_hold locks empty]

theorem transition_seqReclaimDone (s : State) :
    Transition .closedRest none [stateNote .closedRest .reclaimDone s] [stateFrame .closedRest 0 s]
      { s with sequencer := { s.sequencer with shot := 0, manualClose := false } } (seqReclaimDone s) :=
  transition_seqMove ..

theorem unmoved_seqDeadTimeOver (s : State) : Unmoved s (seqDeadTimeOver s) :=
  unmoved_judgeBlocks (transition_seqSlip ..).unmoved

theorem unmoved_seqReclaimDone (s : State) : Unmoved s (seqReclaimDone s) :=
  (transition_seqReclaimDone s).unmoved.of_sequencer

theorem unmoved_seqMove (st : SeqState) (timer : Option Ms) (r : Reason) (s : State) : Unmoved s (seqMove st timer r s) :=
  (transition_seqMove ..).unmoved

/-- What an expiry at SEQ leaves. -/
theorem Unmoved.expiry {at_ : Ms} (h : Unmoved (s.arriveAt at_) t) : (noRelaxDue s → (profRest t).prof = s.prof) ∧
    EventFrame [.meas, .elem, .blk, .link, .hunt] (s.arriveAt at_) (profRest t) :=
  h.relaxed.2.2

/-- Settles O19: the end of a dead time by what the table says, and the two other timers by their one transition. -/
theorem sequenceTimersExpire : Obligations.SequenceTimersExpire := by
  rintro s _ at_ up timer rfl
  refine ⟨fun st => ⟨_, (awake_eq up).trans (congrArg _ (seqExpiry_arrives timer st)), fun locks => ?_,
      fun free held => ?_, fun free empty => ?_, (unmoved_seqDeadTimeOver _).expiry⟩,
    fun st => ⟨_, (awake_eq up).trans (congrArg _ (seqExpiry_arrives timer st)),
      (transition_seqMove ..).moves_profRest, (unmoved_seqMove ..).expiry⟩,
    fun st => ⟨_, (awake_eq up).trans (congrArg _ (seqExpiry_arrives timer st)),
      (transition_seqReclaimDone _).moves_profRest, (unmoved_seqReclaimDone _).expiry⟩⟩
  · rw [seqDeadTimeOver, judgeBlocks_of_locks (s := s.arriveAt at_) locks]
    exact (transition_seqMove ..).moves_profRest
  · rw [seqDeadTimeOver, judgeBlocks_of_hold (s := s.arriveAt at_) free held]
    exact (transition_seqSlip ..).moves_profRest
  · rw [seqDeadTimeOver, judgeBlocks_of_empty (s := s.arriveAt at_) free empty]
    exact recloses_seqClosing _

/-! ### SEQ takes a change of the table (R65, R80, R83) -/

theorem changeTaken_seqBlockChange (s : State) : ChangeTaken s (seqBlockChange s) := by
  refine ⟨fun other => if_neg other, fun st => ?_⟩
  rw [seqBlockChange, if_pos st]
  refine ⟨fun locks => ?_, fun free held => ?_, fun free empty => ?_⟩
  · rw [judgeBlocks_of_locks locks]
    exact (transition_seqMove ..).moves_profRest
  · rw [judgeBlocks_of_hold free held]
    exact profRest_of_active s (by simp [SequencerState.atRest, st])
  · rw [judgeBlocks_of_empty free empty]
    exact recloses_seqClosing s

/-- What a change of the table leaves, whatever SEQ makes of it. -/
theorem seqBlockChange_leaves (s : State) : sameContacts s (seqBlockChange s) ∧
    (seqBlockChange s).tripco.records = s.tripco.records ∧
    (noRelaxDue s ∨ s.sequencer.st ≠ .deadHold → (seqBlockChange s).prof = s.prof) ∧
    EventFrame [.meas, .elem, .blk, .link, .hunt] s (seqBlockChange s) := by
  by_cases st : s.sequencer.st = .deadHold
  · rw [seqBlockChange, if_pos st]
    obtain ⟨contacts, records, prof, frame⟩ := (unmoved_judgeBlocks (hold := fun t => t) (Unmoved.refl s)).relaxed
    exact ⟨contacts, records, fun h => prof (h.resolve_right (fun other => other st)), frame⟩
  · rw [seqBlockChange, if_neg st]
    exact ⟨sameContacts_of_fin rfl, rfl, fun _ => rfl, EventFrame.refl s⟩

/-! ### BLK takes a request (R79 to R81) -/

theorem noRoom_iff (k : BlockKey) (s : State) : placementFails k s = true ↔ noRoom k s := by
  simp [placementFails, noRoom]

theorem refreshRecord_eq_map (k : BlockKey) (e : BlockEffect) (expiry : Option Ms) (l : List BlockRecord) :
    refreshRecord k e expiry l = l.map (fun r => if r.key = k then { r with effect := e, expiry := expiry } else r) :=
  rfl

theorem stored_storeBlock (k : BlockKey) (e : BlockEffect) (d : Option Nat) (s : State) :
    Stored k e (expiryAfter s.now d) s (storeBlock k e d s) :=
  ⟨storeBlock_refresh k e d s, storeBlock_new k e d s,
    fun full => storeBlock_full k e d s full.1 (Nat.not_lt.2 full.2)⟩

theorem storeTaken_placeBlock (k : BlockKey) (e : BlockEffect) (d : Option Nat) (s : State) :
    StoreTaken k s (storeBlock k e d s) (placeBlock k e d s) := by
  refine ⟨fun full overflow => if_pos ⟨(noRoom_iff k s).2 full, overflow⟩, fun change => ?_⟩
  rw [placeBlock, if_neg (by rw [noRoom_iff]; rintro ⟨full, overflow⟩; simp_all)]
  exact changeTaken_seqBlockChange _

theorem putsRecord_placeBlock (k : BlockKey) (e : BlockEffect) (d : Option Nat) (s : State) :
    PutsRecord k e (expiryAfter s.now d) s (placeBlock k e d s) :=
  ⟨_, stored_storeBlock k e d s, storeTaken_placeBlock k e d s⟩

theorem placeBlock_eq_or (k : BlockKey) (e : BlockEffect) (d : Option Nat) (s : State) :
    placeBlock k e d s = storeBlock k e d s ∨ placeBlock k e d s = seqBlockChange (storeBlock k e d s) := by
  unfold placeBlock
  split
  · exact .inl rfl
  · exact .inr rfl

theorem placeBlock_stored (k : BlockKey) (e : BlockEffect) (d : Option Nat) (s : State) :
    hasKey k (placeBlock k e d s).blk.table = true ∨ (placeBlock k e d s).blk.overflow = true := by
  have h := storeBlock_stored k e d s
  rcases placeBlock_eq_or k e d s with eq | eq <;> rw [eq]
  · exact h
  · simpa using h

theorem removeRecord_eq_without (k : BlockKey) (l : List BlockRecord) : removeRecord k l = without k l := rfl

theorem removeBlock_of_hasKey {k : BlockKey} (present : hasKey k s.blk.table = true) :
    removeBlock k s = seqBlockChange { s with blk := { s.blk with table := without k s.blk.table } } :=
  if_pos present

theorem dropsRecord_removeBlock (k : BlockKey) (s : State) : DropsRecord k s (removeBlock k s) := by
  refine ⟨fun absent => if_neg (by simp [absent]), fun present => ?_⟩
  rw [removeBlock_of_hasKey present]
  exact changeTaken_seqBlockChange _

end Sys2Proof.Claims
end

section
/-! Commands and their answers in the words of the statements, and the commands that place and remove records. -/

namespace Sys2Proof.Claims

open Sys2Proof Sys2Proof.Machine

variable {s t u w : State}

/-! ### Answers (R170 to R172) -/

section Answers

variable {c : Instr} {cmd : State → Reply} {r : Result} {l : List Byte}

theorem exec_command (row : exec c s = hostCommand cmd s) (up : s.resetHeld = false) :
    exec c s = .next (respond (cmd s)) :=
  row.trans (awake_eq up)

theorem onlyAnswers_replyWith (row : exec c s = hostCommand cmd s) (up : s.resetHeld = false)
    (answer : cmd s = replyWith r l s) : OnlyAnswers c r l s := by
  rw [OnlyAnswers, exec_command row up, answer, respond_replyWith]

theorem onlyAnswers_reply (row : exec c s = hostCommand cmd s) (up : s.resetHeld = false)
    (answer : cmd s = reply r s) : OnlyAnswers c r [] s :=
  onlyAnswers_replyWith row up answer

theorem answeredNow_enterResponse (r : Result) (l : List Byte) (s : State) :
    AnsweredNow r l (enterResponse (statusByte s) r l s) :=
  ⟨rfl, rfl, rfl, rfl⟩

theorem answeredNow_reply (row : exec c s = hostCommand cmd s) (up : s.resetHeld = false)
    (answer : cmd s = reply r u) : exec c s = .next (enterResponse (statusByte u) r [] u) := by
  rw [exec_command row up, answer, respond_reply]

theorem answeredAs_respond (early w : State) (r : Result) (l : List Byte) :
    AnsweredAs r l early w (respond { early := early, after := w, result := r, payload := l }) :=
  ⟨respond_same early w r l, respond_differs early w r l⟩

theorem exec_replyAfter (row : exec c s = hostCommand cmd s) (up : s.resetHeld = false)
    (answer : cmd s = replyAfter u w) : ∃ t : State, exec c s = .next t ∧ AnsweredAs .accepted [] u w t :=
  ⟨_, exec_command row up, by rw [answer]; exact answeredAs_respond u w .accepted []⟩

/-- A response leaves every block, the settings and the notices (R170). -/
theorem AnsweredAs.leaves {early : State} (h : AnsweredAs r l early w t) : Frame allBlocks w t ∧ Noticed [] w t ∧
    t.handovers = w.handovers := by
  obtain ⟨same, differs⟩ := h
  by_cases eq : statusByte early = statusByte w
  · rw [same eq]
    simp [Frame, allBlocks, sameBlock, sameSettings, Noticed]
  · obtain ⟨status, -, rfl⟩ := differs eq
    simp [Frame, allBlocks, sameBlock, sameSettings, Noticed, enterResponse]

theorem frame_enterResponse (status : Byte) (r : Result) (l : List Byte) (s : State) :
    Frame allBlocks s (enterResponse status r l s) := by
  simp [Frame, allBlocks, sameBlock, sameSettings]

theorem AnsweredAs.blk {early : State} (h : AnsweredAs r l early w t) : t.blk = w.blk :=
  h.leaves.1.1 .blk (by decide)

end Answers

/-! ### TAG (R84) -/

theorem expiryAfter_durationOf (now : Ms) (d : Half) :
    expiryAfter now (durationOf d) = if d = 0 then none else some (after now (d.toNat * 1000)) := by
  unfold durationOf
  split <;> rfl

theorem eventFrame_storeBlock (k : BlockKey) (e : BlockEffect) (d : Option Nat) (s : State) :
    EventFrame [.meas, .elem, .fin, .sequencer, .prof, .link, .tripco, .hunt] s (storeBlock k e d s) := by
  simp [EventFrame, Frame, sameBlock, sameSettings, sameTransaction]

theorem seqBlockChange_frame (s : State) : EventFrame [.meas, .elem, .blk, .link, .hunt] s (seqBlockChange s) :=
  (seqBlockChange_leaves s).2.2.2

/-- What a placement request leaves, whatever BLK and SEQ make of it. -/
theorem placeBlock_frame (k : BlockKey) (e : BlockEffect) (d : Option Nat) (s : State) :
    EventFrame [.meas, .elem, .link, .hunt] s (placeBlock k e d s) := by
  have stored := (eventFrame_storeBlock k e d s).mono (cs := [.meas, .elem, .link, .hunt]) (by decide)
  rcases placeBlock_eq_or k e d s with eq | eq <;> rw [eq]
  · exact stored
  · exact stored.trans ((seqBlockChange_frame _).mono (by decide))

theorem placeBlock_blk (k : BlockKey) (e : BlockEffect) (d : Option Nat) (s : State) :
    (placeBlock k e d s).blk = (storeBlock k e d s).blk := by
  rcases placeBlock_eq_or k e d s with eq | eq <;> rw [eq]
  exact (seqBlockChange_frame _).1.1 .blk (by decide)

/-- Settles O20: the record is stored first, SEQ takes the change, and both show in the answer. -/
theorem tagPlacesARecord : Obligations.TagPlacesARecord := by
  intro s n d up
  refine ⟨fun config => onlyAnswers_reply rfl up (by simp [cmdTag, config]), fun run => ?_⟩
  let k := tagKey s n
  have answers : AnsweredAs (if placementFails k s then .refusedFull else .accepted) []
      (storeBlock k .lock (durationOf d) s) (placeBlock k .lock (durationOf d) s) (respond (cmdTag n d s)) := by
    rw [cmdTag, if_pos run]
    exact answeredAs_respond ..
  refine ⟨_, storeBlock k .lock (durationOf d) s, placeBlock k .lock (durationOf d) s,
    exec_command rfl up, ?_, storeTaken_placeBlock .., fun room => ?_, fun full => ?_, ?_, ?_⟩
  · rw [← expiryAfter_durationOf]
    exact stored_storeBlock ..
  · rwa [if_neg (by rwa [noRoom_iff])] at answers
  · rwa [if_pos ((noRoom_iff _ _).2 full)] at answers
  · rw [answers.blk, placeBlock_blk]
  · exact (placeBlock_frame ..).1.trans (answers.leaves.1.mono (by decide))

/-! ### UNTAG, UNBLOCK and the expiry of a record (R81, R82, R85, R86) -/

theorem removes_removeByCommand {c : Instr} {cmd : State → Reply} {k : BlockKey}
    (row : exec c s = hostCommand cmd s) (up : s.resetHeld = false) (answer : cmd s = removeByCommand k s)
    (present : hasKey k s.blk.table = true) : Removes c k s := by
  have removal : cmd s = replyAfter { s with blk := { s.blk with table := without k s.blk.table } }
      (seqBlockChange { s with blk := { s.blk with table := without k s.blk.table } }) := by
    rw [answer, removeByCommand, if_pos present, removeBlock_of_hasKey present, removeRecord_eq_without]
  obtain ⟨t, ran, answered⟩ := exec_replyAfter row up removal
  exact ⟨t, _, _, ran, rfl, changeTaken_seqBlockChange _, answered⟩

theorem removeByCommand_absent {k : BlockKey} (absent : hasKey k s.blk.table = false) :
    removeByCommand k s = reply .notFound s := by
  simp [removeByCommand, absent]

theorem isAddress_iff (a : Byte) : a.isAddress = true ↔ 1 ≤ a.toNat ∧ a.toNat ≤ 62 := by
  simp [Byte.isAddress]

theorem unblockSource_eq_none {n : Nat} (other : n ≠ 1 ∧ n ≠ 3) : unblockSource n = none := by
  unfold unblockSource
  split
  · exact absurd rfl other.1
  · exact absurd rfl other.2
  · rfl

theorem cmdUnblock_refused {source origin : Byte} {n : Half} (run : s.isRun = true)
    (bad : source.toNat ≠ 1 ∧ source.toNat ≠ 3 ∨ origin.toNat < 1 ∨ 62 < origin.toNat) :
    cmdUnblock source origin n s = reply .refusedRange s := by
  rw [cmdUnblock, if_pos run]
  rcases bad with other | address
  · rw [unblockSource_eq_none other]
  · split
    · exact if_neg (by rw [isAddress_iff]; omega)
    · rfl

theorem cmdUnblock_removes {source origin : Byte} {n : Half} {src : BlockSource} (run : s.isRun = true)
    (known : (source.toNat = 1 ∧ src = .tag) ∨ (source.toNat = 3 ∧ src = .watch)) (lo : 1 ≤ origin.toNat)
    (hi : origin.toNat ≤ 62) :
    cmdUnblock source origin n s = removeByCommand { source := src, origin := origin, tag := n } s := by
  have read : unblockSource source.toNat = some src := by
    rcases known with ⟨code, rfl⟩ | ⟨code, rfl⟩ <;> rw [code] <;> rfl
  rw [cmdUnblock, if_pos run, read]
  exact if_pos ((isAddress_iff origin).2 ⟨lo, hi⟩)

theorem hasKey_iff (k : BlockKey) (l : List BlockRecord) : hasKey k l = true ↔ ∃ r ∈ l, r.key = k := by
  simp [hasKey]

/-- An element of a list is known by what distinguishes the elements. -/
theorem eq_of_nodup_map {α β : Type} {f : α → β} {l : List α} {x y : α} (nodup : (l.map f).Nodup) (memX : x ∈ l)
    (memY : y ∈ l) (same : f x = f y) : x = y := by
  induction l with
  | nil => exact absurd memX List.not_mem_nil
  | cons a l ih =>
    rw [List.map_cons, List.nodup_cons] at nodup
    obtain ⟨new, nodup⟩ := nodup
    rcases List.mem_cons.1 memX with rfl | inX <;> rcases List.mem_cons.1 memY with rfl | inY
    · rfl
    · exact absurd (same ▸ List.mem_map_of_mem inY) new
    · exact absurd (same ▸ List.mem_map_of_mem inX) new
    · exact ih nodup inX inY

theorem recordInstant_eq_none {k : BlockKey} (none_ : ∀ r ∈ s.blk.table, r.key = k → r.expiry = none) :
    recordInstant k s = none := by
  rw [recordInstant, Option.bind_eq_none_iff]
  intro r found
  exact none_ r (List.mem_of_find?_eq_some found) (by simpa using List.find?_some found)

/-- With one record for each key, the one that is found is the one that stands (R79). -/
theorem recordInstant_eq_some {k : BlockKey} {r : BlockRecord} {at_ : Ms} (inv : Safety.BlockInv s)
    (mem : r ∈ s.blk.table) (key : r.key = k) (expiry : r.expiry = some at_) : recordInstant k s = some at_ := by
  obtain ⟨x, found⟩ : ∃ x, s.blk.table.find? (fun r => decide (r.key = k)) = some x := by
    rw [← Option.isSome_iff_exists, List.find?_isSome]
    exact ⟨r, mem, by simp [key]⟩
  have same : x = r := by
    have key' : x.key = k := by simpa using List.find?_some found
    exact eq_of_nodup_map inv.2 (List.mem_of_find?_eq_some found) mem (key'.trans key.symm)
  rw [recordInstant, found, same]
  exact expiry

/-- Settles O21: the commands that remove a record by what they name, and its expiry by the one record of its key. -/
theorem recordsLeaveTheTable : Obligations.RecordsLeaveTheTable := by
  refine ⟨fun s up => ⟨fun config => ⟨fun n => ?_, fun source origin n => ?_⟩, fun run n => ⟨fun present => ?_,
    fun absent => ?_⟩, fun run source origin n => ⟨fun bad => ?_, fun src known lo hi => ⟨fun present => ?_,
    fun absent => ?_⟩⟩⟩, fun k s u at_ up => ⟨fun none_ => ?_, ?_⟩⟩
  · exact onlyAnswers_reply rfl up (by simp [cmdUntag, config])
  · exact onlyAnswers_reply rfl up (by simp [cmdUnblock, config])
  · exact removes_removeByCommand rfl up (if_pos run) present
  · exact onlyAnswers_reply rfl up ((if_pos run).trans (removeByCommand_absent absent))
  · exact onlyAnswers_reply rfl up (cmdUnblock_refused run bad)
  · exact removes_removeByCommand rfl up (cmdUnblock_removes run known lo hi) present
  · exact onlyAnswers_reply rfl up ((cmdUnblock_removes run known lo hi).trans (removeByCommand_absent absent))
  · simp [exec, execBlockRecordExpiry, awake, recordInstant_eq_none none_]
  · rintro inv ⟨r, mem, key, expiry⟩ rfl
    have present : hasKey k (s.arriveAt at_).blk.table = true := (hasKey_iff k s.blk.table).2 ⟨r, mem, key⟩
    refine ⟨removeBlock k (s.arriveAt at_), ?_, (dropsRecord_removeBlock k (s.arriveAt at_)).2 present, ?_⟩
    · simp [exec, execBlockRecordExpiry, awake, up, recordInstant_eq_some inv mem key expiry]
    rw [removeBlock_of_hasKey present]
    have removed : EventFrame [.meas, .elem, .link, .hunt] (s.arriveAt at_)
        { s.arriveAt at_ with blk := { s.blk with table := without k s.blk.table } } := by
      simp [EventFrame, Frame, sameBlock, sameSettings, sameTransaction]
    exact removed.trans ((seqBlockChange_frame _).mono (by decide))

/-! ### CLEAR OVERFLOW (R87) -/

/-- Settles O22: the flag goes where the table has room, and SEQ takes a flag that was set. -/
theorem clearOverflowClearsTheFlag : Obligations.ClearOverflowClearsTheFlag := by
  intro s up
  refine ⟨fun config => onlyAnswers_reply rfl up (by simp [cmdClearOverflow, config]), fun run full => ?_,
    fun run room clear => ?_, fun run room set => ?_⟩
  · exact onlyAnswers_reply rfl up (by simp [cmdClearOverflow, run, full])
  · exact onlyAnswers_reply rfl up (by simp [cmdClearOverflow, run, Nat.not_le.2 room, clear])
  · obtain ⟨t, ran, answered⟩ := exec_replyAfter (c := .clearOverflow) (s := s) rfl up
      (show cmdClearOverflow s = replyAfter (clearFlag s) (seqBlockChange (clearFlag s)) by
        simp [cmdClearOverflow, run, Nat.not_le.2 room, set])
    have cleared : EventFrame [.meas, .elem, .link, .hunt] s (clearFlag s) := by
      simp [clearFlag, EventFrame, Frame, sameBlock, sameSettings, sameTransaction]
    exact ⟨t, clearFlag s, _, ran, rfl, changeTaken_seqBlockChange _, answered,
      (cleared.trans ((seqBlockChange_frame _).mono (by decide))).1.trans (answered.leaves.1.mono (by decide))⟩

end Sys2Proof.Claims
end

section
/-! Trips in the words of the statements: how a protective trip begins, is announced, and goes on where the breaker is
open. -/

namespace Sys2Proof.Claims

open Sys2Proof Sys2Proof.Machine

variable {s t u : State} {c : ProtCause}

/-! ### The beginning (R59, R60) -/

theorem sefLocks_iff (c : ProtCause) (s : State) : sefLocks c s = true ↔ lockedTrip c s := by
  cases c <;> simp [sefLocks, lockedTrip]

theorem tripIsFinal_iff (c : ProtCause) (s : State) : tripIsFinal c s = true ↔ finalTrip c s := by
  have locks := sefLocks_iff c s
  simp only [lockedTrip] at locks
  simp [tripIsFinal, finalTrip, locks, or_assoc]

theorem takesTrip_iff (s : State) : takesTrip s.sequencer.st = true ↔ takesRequest s := by
  cases st : s.sequencer.st <;> simp [takesTrip, takesRequest, st]

/-- The part before a protective trip is announced: SEQ in TRIPPING, and the SEF record stored where the trip locks. -/
def tripBegun (c : ProtCause) (s : State) : State :=
  let entered := tripEntered (protCause c) (min (s.sequencer.shot + 1) 4) (tripIsFinal c s) s
  if sefLocks c s then storeBlock (sefKey s) .lock none entered else entered

theorem takeTrip_eq (c : ProtCause) (s : State) : takeTrip c s = finishTrip (tripBegun c s) := rfl

theorem tripBegun_sequencer (c : ProtCause) (s : State) : (tripBegun c s).sequencer =
    { s.sequencer with
      st := .tripping, timer := some (after s.now s.image.tripFail), tripLine := true, closeLine := false,
      lastCause := protCause c, shot := min (s.sequencer.shot + 1) 4, noReclose := tripIsFinal c s } := by
  unfold tripBegun
  simp only
  split <;> simp [tripEntered]

theorem eventFrame_tripEntered (cause : Cause) (shot : Nat) (final : Bool) (s : State) :
    EventFrame [.meas, .elem, .fin, .blk, .prof, .link, .tripco, .hunt] s (tripEntered cause shot final s) := by
  simp [tripEntered, EventFrame, Frame, sameBlock, sameSettings, sameTransaction]

theorem eventFrame_tripBegun (c : ProtCause) (s : State) :
    EventFrame [.meas, .elem, .fin, .prof, .link, .tripco, .hunt] s (tripBegun c s) := by
  have entered := (eventFrame_tripEntered (protCause c) (min (s.sequencer.shot + 1) 4) (tripIsFinal c s) s).mono
    (cs := [.meas, .elem, .fin, .prof, .link, .tripco, .hunt]) (by decide)
  unfold tripBegun
  simp only
  split
  · exact entered.trans ((eventFrame_storeBlock ..).mono (by decide))
  · exact entered

/-- SEQ is in TRIPPING and takes no change of the table (R65, R83). -/
theorem tripBegins_tripBegun (c : ProtCause) (s : State) :
    TripBegins c (min (s.sequencer.shot + 1) 4) s (tripBegun c s) := by
  refine ⟨tripIsFinal c s, tripIsFinal_iff c s, fun locked => ?_, fun free => ?_⟩
  · rw [tripBegun, if_pos ((sefLocks_iff c s).2 locked)]
    exact ⟨_, stored_storeBlock .., fun _ _ => rfl, fun _ => ⟨fun _ => rfl, fun hold => by simp [tripEntered] at hold⟩⟩
  · exact if_neg (by rwa [sefLocks_iff])

theorem tripBegun_stored (locked : lockedTrip c s) :
    hasKey (sefKey s) (tripBegun c s).blk.table = true ∨ (tripBegun c s).blk.overflow = true := by
  rw [tripBegun, if_pos ((sefLocks_iff c s).2 locked)]
  exact storeBlock_stored ..

theorem tripBegun_blk (free : ¬ lockedTrip c s) : (tripBegun c s).blk = s.blk := by
  rw [tripBegun, if_neg (by rwa [sefLocks_iff])]
  rfl

/-! ### The announcement (R71) -/

theorem transition_announceTrip {timer : Option Ms} (entered : s.sequencer = s.sequencer.enter .tripping timer) :
    Transition .tripping timer [tripNote s.sequencer.lastCause s.sequencer.shot s]
      [tripFrame s.sequencer.lastCause s.sequencer.shot s] s (handTransition (announceTrip s)) := by
  have still : s = announced s.sequencer [] [] s := by simp [announced, placements]
  have eq : announceTrip s = announced s.sequencer [tripNote s.sequencer.lastCause s.sequencer.shot s]
      [tripFrame s.sequencer.lastCause s.sequencer.shot s] s :=
    calc announceTrip s
        = queueOwn .trip (half (causeCode s.sequencer.lastCause)) (half s.sequencer.shot)
            (placeFrame (tripFrame s.sequencer.lastCause s.sequencer.shot s) (announced s.sequencer [] [] s)) := by
          rw [← still]
          rfl
      _ = _ := by
          rw [placeFrame_announced, queueOwn_announced]
          rfl
  rw [eq]
  exact transition_announced entered

/-- A trip that has begun is announced with its cause and its shot count. -/
theorem transition_tripBegun (c : ProtCause) (s : State) :
    Transition .tripping (some (after s.now s.image.tripFail))
      [tripNote (protCause c) (min (s.sequencer.shot + 1) 4) s]
      [tripFrame (protCause c) (min (s.sequencer.shot + 1) 4) s] (tripBegun c s)
      (handTransition (announceTrip (tripBegun c s))) := by
  have frame := (eventFrame_tripBegun c s).1
  have h := transition_announceTrip (s := tripBegun c s) (timer := some (after s.now s.image.tripFail))
    (by rw [tripBegun_sequencer]; rfl)
  rw [tripBegun_sequencer, tripNote, note, tripFrame, frame.address, frame.image, frame.2.2] at h
  exact h

/-! ### The obligations -/

/-- What a trip leaves and sets before SEQ looks at the position, in terms of the state before the request. -/
theorem tripAnnounced_leaves (c : ProtCause) (s : State) : ∃ v : State, v = handTransition (announceTrip (tripBegun c s)) ∧
    v.sequencer.shot = min (s.sequencer.shot + 1) 4 ∧ v.sequencer.lastCause = protCause c ∧
    (v.sequencer.noReclose = true ↔ finalTrip c s) ∧ v.sequencer.manualClose = s.sequencer.manualClose ∧
    (lockedTrip c s → hasKey (sefKey s) v.blk.table = true ∨ v.blk.overflow = true) ∧
    (¬ lockedTrip c s → v.blk = s.blk) ∧ sameContacts s v ∧ v.tripco.records = s.tripco.records ∧
    EventFrame [.meas, .elem, .prof, .link, .hunt] s v := by
  obtain ⟨-, ⟨shot, manual, final, cause⟩, contacts, blk, records, prof, frame⟩ := (transition_tripBegun c s).leaves
  rw [tripBegun_sequencer] at shot manual final cause
  have begun := eventFrame_tripBegun c s
  refine ⟨_, rfl, shot, cause, ?_, manual, fun locked => ?_, fun free => ?_, ?_, ?_,
    (begun.mono (by decide)).trans (frame.mono (by decide))⟩
  · rw [final]
    exact tripIsFinal_iff c s
  · rw [blk]
    exact tripBegun_stored locked
  · rw [blk, tripBegun_blk free]
  · exact sameContacts_trans (sameContacts_of_fin (begun.1.1 .fin (by decide))) contacts
  · rw [records]
    exact congrArg TripcoState.records (begun.1.1 .tripco (by decide))

theorem tripBegun_position (c : ProtCause) (s : State) : (tripBegun c s).fin.position = s.fin.position :=
  congrArg FinState.position ((eventFrame_tripBegun c s).1.1 .fin (by decide))

theorem seqTripRequest_of_not_open (takes : takesRequest s) (position : s.fin.position ≠ .opened) :
    seqTripRequest c s = profRest (handTransition (announceTrip (tripBegun c s))) := by
  rw [seqTripRequest, if_pos ((takesTrip_iff s).2 takes), takeTrip_eq,
    finishTrip_of_not_open _ (by rwa [tripBegun_position])]

theorem seqTripRequest_of_open (takes : takesRequest s) (position : s.fin.position = .opened) :
    seqTripRequest c s = profRest (seqOpened (handTransition (announceTrip (tripBegun c s)))) := by
  rw [seqTripRequest, if_pos ((takesTrip_iff s).2 takes), takeTrip_eq,
    finishTrip_of_open _ (by rwa [tripBegun_position])]

theorem eventFrame_takeHandOver (e : Instr) (s : State) : EventFrame allBlocks s (takeHandOver e s) := by
  simp [EventFrame, Frame, allBlocks, sameBlock, sameSettings, sameTransaction]

theorem exec_tripRequest (up : s.resetHeld = false) :
    exec (.tripRequest c) s = .next (seqTripRequest c (takeHandOver (.tripRequest c) s)) :=
  awake_eq (f := fun s => seqTripRequest c (takeHandOver (.tripRequest c) s)) up

/-- A trip with the breaker not open stays in TRIPPING, where PROF does nothing. -/
theorem profRest_tripAnnounced (c : ProtCause) (s : State) :
    profRest (handTransition (announceTrip (tripBegun c s))) = handTransition (announceTrip (tripBegun c s)) := by
  obtain ⟨st, -⟩ := (transition_tripBegun c s).leaves.1
  exact profRest_of_active _ (by simp only [SequencerState.atRest, st])

/-- Settles O15: the trip begins, is announced and handed on; a request that is not taken leaves only the list of
hand-overs shorter. -/
theorem protectiveTripRequests : Obligations.ProtectiveTripRequests := by
  refine ⟨fun c s shot up takes position eq => ?_, fun c s up discards => ?_⟩
  · subst eq
    obtain ⟨v, eq, facts⟩ := tripAnnounced_leaves c (takeHandOver (.tripRequest c) s)
    have ran := seqTripRequest_of_not_open (s := takeHandOver (.tripRequest c) s) (c := c) takes position
    rw [profRest_tripAnnounced, ← eq] at ran
    have transition := transition_tripBegun c (takeHandOver (.tripRequest c) s)
    rw [← eq] at transition
    have active : v.sequencer.atRest = false := by
      obtain ⟨st, -⟩ := transition.leaves.1
      simp only [SequencerState.atRest, st]
    obtain ⟨countedShot, cause, final, manual, locked, free, contacts, records, frame⟩ := facts
    refine ⟨v, tripBegun c (takeHandOver (.tripRequest c) s), (exec_tripRequest up).trans (congrArg _ ran),
      tripBegins_tripBegun .., transition.moves (restTaken_self active), countedShot, cause, final, manual, locked, free,
      ?_, contacts, records, ((eventFrame_takeHandOver (.tripRequest c) s).mono (by decide)).trans frame⟩
    rw [eq, handTransition_forced]
    simp [announceTrip, tripBegun_sequencer]
  · rw [exec_tripRequest up, seqTripRequest, if_neg (by rwa [takesTrip_iff])]
    rfl

/-- Settles O16: the trip begins and is announced as any other, and SEQ then takes the open breaker. -/
theorem tripMeetsAnOpenBreaker : Obligations.TripMeetsAnOpenBreaker := by
  rintro c s _ up takes position rfl
  obtain ⟨v, eq, countedShot, cause, final, manual, locked, free, contacts, records, frame⟩ :=
    tripAnnounced_leaves c (takeHandOver (.tripRequest c) s)
  have ran := seqTripRequest_of_open (s := takeHandOver (.tripRequest c) s) (c := c) takes position
  have transition := transition_tripBegun c (takeHandOver (.tripRequest c) s)
  rw [← eq] at ran transition
  have frame := ((eventFrame_takeHandOver (.tripRequest c) s).mono (by decide)).trans frame
  obtain ⟨contacts', records', prof', frame'⟩ := (unmoved_seqOpened v).relaxed
  obtain ⟨_, _, _, _, opened⟩ := transition_seqOpened v
  obtain ⟨-, ⟨shot', manual', final', cause'⟩, -, blk', -⟩ := opened.moves_profRest
  have image : v.image = s.image := frame.1.image
  have prof : v.prof = s.prof := frame.1.1 .prof (by decide)
  have limit : v.shotLimit = s.shotLimit := by rw [State.shotLimit, image, prof, State.shotLimit]
  have noteIs : ∀ (st : SeqState) (r : Reason), stateNote st r v = stateNote st r s :=
    fun st r => stateNote_congr frame.1.2.2 frame.1.address
  have frameIs : ∀ st : SeqState, stateFrame st v.sequencer.shot v = stateFrame st (min (s.sequencer.shot + 1) 4) s :=
    fun st => (stateFrame_congr contacts.2.1).trans (by rw [countedShot]; rfl)
  have open_ : ¬ finalTrip c s → v.sequencer.noReclose = false := fun free => by
    rwa [← Bool.not_eq_true, final]
  refine ⟨_, _, v, (exec_tripRequest up).trans (congrArg _ ran), tripBegins_tripBegun .., transition, fun fin => ?_,
    fun fin exceeds => ?_, fun fin within => ?_, shot'.trans countedShot, cause'.trans cause, ?_, manual'.trans manual,
    fun lock => ?_, fun unlocked => ?_, sameContacts_trans contacts contacts', records'.trans records, fun quiet => ?_,
    (frame.mono (by decide)).trans (frame'.mono (by decide))⟩
  · have h := transition_seqOpened_noReclose (final.2 fin)
    rw [noteIs, frameIs] at h
    exact h.moves_profRest
  · have h := transition_seqOpened_shotLimit (open_ fin) (by rwa [limit, countedShot])
    rw [noteIs, frameIs] at h
    exact h.moves_profRest
  · have h := transition_seqOpened_deadTime (open_ fin) (by rwa [limit, countedShot])
    rw [countedShot, image, show v.now = s.now from frame.1.2.2] at h
    exact h.moves_profRest
  · rw [final']
    exact final
  · rw [blk']
    exact locked lock
  · rw [blk', free unlocked]
    rfl
  · rw [prof' (by rwa [noRelaxDue, prof]), prof]

end Sys2Proof.Claims
end

section
/-! Watches in the words of the statements: booking, and what a matching watch does. -/

namespace Sys2Proof.Claims

open Sys2Proof Sys2Proof.Machine

variable {s t u : State}

/-! ### Reading a watch (R89, R90) -/

theorem kindOfCode_eq_some (n : Nat) (k : FrameKind) : kindOfCode n = some k ↔ kindCode k = n := by
  refine ⟨fun read => ?_, fun code => ?_⟩
  · unfold kindOfCode at read
    split at read <;> simp at read <;> subst read <;> rfl
  · subst code
    cases k <;> rfl

theorem watchModeOfCode_eq_some (n : Nat) (m : WatchMode) : watchModeOfCode n = some m ↔ watchModeCode m = n := by
  refine ⟨fun read => ?_, fun code => ?_⟩
  · unfold watchModeOfCode at read
    split at read <;> simp at read <;> subst read <;> rfl
  · subst code
    cases m <;> rfl

theorem watchActionOfCode_eq_some (n : Nat) (a : WatchAction) :
    watchActionOfCode n = some a ↔ watchActionCode a = n := by
  refine ⟨fun read => ?_, fun code => ?_⟩
  · unfold watchActionOfCode at read
    split at read <;> simp at read <;> subst read <;> rfl
  · subst code
    cases a <;> rfl

theorem blockEffectOfCode_eq_some (n : Nat) (e : BlockEffect) :
    blockEffectOfCode n = some e ↔ blockEffectCode e = n := by
  refine ⟨fun read => ?_, fun code => ?_⟩
  · unfold blockEffectOfCode at read
    split at read <;> simp at read <;> subst read <;> rfl
  · subst code
    cases e <;> rfl

theorem blockEffectOfCode_isSome (n : Nat) : (blockEffectOfCode n).isSome = true ↔ n = 1 ∨ n = 2 := by
  unfold blockEffectOfCode
  split <;> simp_all

theorem announcedState_isSome (n : Nat) : (announcedState n).isSome = true ↔ n = 1 ∨ 6 ≤ n ∧ n ≤ 9 := by
  unfold announcedState
  split
  next h =>
    refine ⟨fun _ => h, fun _ => ?_⟩
    obtain rfl | rfl | rfl | rfl | rfl : n = 1 ∨ n = 6 ∨ n = 7 ∨ n = 8 ∨ n = 9 := by omega
    all_goals rfl
  next h => simpa using h

theorem readWatch_eq_some (w : WatchOperand) (v : Watch) : readWatch w = some v ↔ Books w v := by
  obtain ⟨station, kind, substate, mode, action1, action2, blockTag, effect, duration, tagA, tagB⟩ := v
  simp only [readWatch, Option.bind_eq_bind, Option.pure_def, Option.bind_eq_some_iff, kindOfCode_eq_some,
    watchModeOfCode_eq_some, watchActionOfCode_eq_some, Option.some.injEq, Watch.mk.injEq, Books]
  refine ⟨?_, ?_⟩
  · rintro ⟨k, hk, m, hm, a, ha, b, hb, rfl, rfl, rfl, rfl, rfl, rfl, rfl, rfl, rfl, rfl, rfl⟩
    exact ⟨rfl, hk, rfl, hm, ha, hb, rfl, rfl, rfl, rfl, rfl⟩
  · rintro ⟨rfl, hk, rfl, hm, ha, hb, rfl, rfl, rfl, rfl, rfl⟩
    exact ⟨kind, hk, mode, hm, action1, ha, action2, hb, rfl, rfl, rfl, rfl, rfl, rfl, rfl, rfl, rfl, rfl, rfl⟩

theorem substateAllowed_iff {w : WatchOperand} {k : FrameKind} (kind : kindCode k = w.kind.toNat) :
    substateAllowed k w.substate.toNat = true ↔ substateFits w := by
  rw [substateFits, ← kind]
  cases k <;> simp [substateAllowed, kindCode, announcedState_isSome, within]

theorem ne_placeBlock_iff {a : WatchAction} {n : Nat} (code : watchActionCode a = n) : a = .placeBlock ↔ n = 1 := by
  subst code
  cases a <;> simp [watchActionCode]

/-- A watch that is read passes R90's checks exactly where its payload does. -/
theorem watchBookable_iff {w : WatchOperand} {v : Watch} (books : Books w v) :
    watchBookable s.address v = true ↔ passesBooking w s := by
  obtain ⟨station, kind, substate, -, action1, action2, -, effect, -⟩ := books
  simp only [watchBookable, passesBooking, station, substate, effect, Bool.and_eq_true, Bool.or_eq_true,
    decide_eq_true_eq, bne_iff_ne, blockEffectOfCode_isSome, substateAllowed_iff kind, ne_eq,
    ne_placeBlock_iff action1, ne_placeBlock_iff action2, and_assoc]
  rw [Decidable.imp_iff_not_or, not_or]

theorem cmdBookWatch_booked {w : WatchOperand} {v : Watch} (run : s.isRun = true) (books : Books w v)
    (passes : passesBooking w s) : cmdBookWatch w s = bookWatch v s := by
  rw [cmdBookWatch, if_pos run, (readWatch_eq_some w v).2 books]
  exact if_pos ((watchBookable_iff books).2 passes)

theorem cmdBookWatch_refused {w : WatchOperand} (run : s.isRun = true)
    (bad : 62 < w.station.toNat ∨ w.station = s.address ∨ ¬ substateFits w ∨ w.kind.toNat = 0 ∨ 9 < w.kind.toNat ∨
      3 < w.action1.toNat ∨ 3 < w.action2.toNat ∨ w.mode.toNat = 0 ∨ 2 < w.mode.toNat ∨
      ((w.action1.toNat = 1 ∨ w.action2.toNat = 1) ∧ w.effect.toNat ≠ 1 ∧ w.effect.toNat ≠ 2)) :
    cmdBookWatch w s = reply .refusedRange s := by
  rw [cmdBookWatch, if_pos run]
  split
  next v read =>
    have books := (readWatch_eq_some w v).1 read
    refine if_neg fun bookable => ?_
    obtain ⟨station, own, substate, effect⟩ := (watchBookable_iff books).1 bookable
    obtain ⟨-, kind, -, mode, action1, action2, -⟩ := books
    have kinds : 1 ≤ kindCode v.kind ∧ kindCode v.kind ≤ 9 := by cases v.kind <;> decide
    have modes : 1 ≤ watchModeCode v.mode ∧ watchModeCode v.mode ≤ 2 := by cases v.mode <;> decide
    have actions : ∀ a : WatchAction, watchActionCode a ≤ 3 := by intro a; cases a <;> decide
    have actions1 := actions v.action1
    have actions2 := actions v.action2
    rcases bad with bad | bad | bad | bad | bad | bad | bad | bad | bad | ⟨places, hold, lock⟩
    · omega
    · exact own bad
    · exact bad substate
    · omega
    · omega
    · omega
    · omega
    · omega
    · omega
    · exact (effect places).elim hold lock
  next => rfl

/-! ### The watch table (R89 to R91) -/

theorem sameKey_iff (v w : Watch) : v.sameKey w = true ↔ sameWatchKey v w := by
  simp [Watch.sameKey, sameWatchKey, and_assoc]

theorem bookWatch_replaces {v : Watch} (present : ∃ x ∈ s.blk.watches, sameWatchKey x v) :
    bookWatch v s = reply .accepted { s with
      blk := { s.blk with watches := s.blk.watches.map (fun x => if x.sameKey v then v else x) } } := by
  have any : s.blk.watches.any (fun x => x.sameKey v) = true := by simpa [sameKey_iff] using present
  rw [bookWatch, bookIn, if_pos any]

theorem bookIn_new {v : Watch} {l : List Watch} (new : ∀ x ∈ l, ¬ sameWatchKey x v) :
    bookIn v l = if l.length < 12 then some (l ++ [v]) else none := by
  have none_ : ¬ l.any (fun x => x.sameKey v) = true := by simpa [sameKey_iff] using new
  rw [bookIn, if_neg none_]

theorem watchAt_iff (station kind substate : Byte) (x : Watch) : watchAt station kind substate x = true ↔
    x.station = station ∧ kindCode x.kind = kind.toNat ∧ x.substate = substate := by
  simp [watchAt, and_assoc]

theorem watchAt_eq_decide (station kind substate : Byte) (x : Watch) : watchAt station kind substate x =
    (decide (x.station = station) && decide (kindCode x.kind = kind.toNat) && decide (x.substate = substate)) := by
  simp [watchAt, beq_decide]

/-- Settles O23: the checks of R90 by what the payload reads as, then the table by the key of the watch. -/
theorem watchesAreBooked : Obligations.WatchesAreBooked := by
  intro s up
  refine ⟨fun config => ⟨fun w => ?_, fun station kind substate => ?_⟩,
    fun run w => ⟨fun bad => onlyAnswers_reply rfl up (cmdBookWatch_refused run bad),
      fun v books passes => ⟨fun present => ?_, fun new room => ?_, fun new full => ?_⟩⟩,
    fun run station kind substate => ⟨fun present => ?_, fun absent => ?_⟩⟩
  · exact onlyAnswers_reply rfl up (by simp [cmdBookWatch, config])
  · exact onlyAnswers_reply rfl up (by simp [cmdUnbookWatch, config])
  · have answer := (cmdBookWatch_booked run books passes).trans (bookWatch_replaces present)
    refine ⟨_, answeredNow_reply rfl up answer, answeredNow_enterResponse .., by simp, fun i x at_ => ?_, rfl, rfl, ?_⟩
    · simp [at_, sameKey_iff]
      grind
    · simp [sameSequence, Noticed, Frame, sameBlock, sameSettings]
  · have answer := (cmdBookWatch_booked run books passes).trans (by rw [bookWatch, bookIn_new new, if_pos room])
    refine ⟨_, answeredNow_reply rfl up answer, answeredNow_enterResponse .., rfl, ?_⟩
    simp [sameSequence, Noticed, Frame, sameBlock, sameSettings]
  · have answer := (cmdBookWatch_booked run books passes).trans
      (by rw [bookWatch, bookIn_new new, if_neg (Nat.not_lt.2 full)])
    exact onlyAnswers_reply rfl up answer
  · have any : s.blk.watches.any (watchAt station kind substate) = true := by simpa [watchAt_iff] using present
    have answer : cmdUnbookWatch station kind substate s = _ := (if_pos run).trans (if_pos any)
    refine ⟨_, answeredNow_reply rfl up answer, answeredNow_enterResponse .., ?_, ?_⟩
    · simp [watchAt_eq_decide]
    · simp [sameSequence, Noticed, Frame, sameBlock, sameSettings]
  · have none_ : ¬ s.blk.watches.any (watchAt station kind substate) = true := by simpa [watchAt_iff] using absent
    exact onlyAnswers_reply rfl up ((if_pos run).trans (if_neg none_))

/-! ### Actions (R93 to R95) -/

theorem fits_iff (source : Byte) (body : FrameBody) (w : Watch) : w.fits source body = true ↔
    (w.station = 0 ∨ w.station = source) ∧ w.kind = bodyKind body ∧
      (w.substate.toNat = 255 ∨ w.substate.toNat = bodySubstate body) := by
  have any : w.substate = 255#8 ↔ w.substate.toNat = 255 := BitVec.toNat_inj.symm
  simp [Watch.fits, and_assoc, any]

/-- One step for each element, where each step keeps what the next one needs. -/
theorem chain_foldl {α : Type} {step : α → State → State → Prop} {f : State → α → State} {P : State → Prop}
    (ran : ∀ a s, P s → step a s (f s a)) (keeps : ∀ a s, P s → P (f s a)) (l : List α) (s : State) (start : P s) :
    Chain step l s (l.foldl f s) := by
  induction l generalizing s with
  | nil => rfl
  | cons a l ih => exact ⟨f s a, ran a s start, ih _ (keeps a s start)⟩

theorem actionDone_place (source : Byte) (w : Watch) (s : State) :
    ActionDone source w .placeBlock s (watchPlace source w s) := by
  refine ⟨fun e code => ?_, fun hold lock => ?_⟩
  · rw [watchPlace, (blockEffectOfCode_eq_some _ e).2 code, ← expiryAfter_durationOf]
    exact putsRecord_placeBlock ..
  · have none_ : blockEffectOfCode w.effect.toNat = none := by
      rw [← Option.not_isSome_iff_eq_none, blockEffectOfCode_isSome]
      exact fun h => h.elim hold lock
    rw [watchPlace, none_]

theorem actionDone_remove (source : Byte) (w : Watch) (s : State) :
    ActionDone source w .removeBlock s (removeWatchTag w.blockTag s) := by
  have keys : keysWhere (fun r => decide (r.key.source = .watch ∧ r.key.tag = w.blockTag)) s.blk.table =
      (s.blk.table.filter (fun r => decide (r.key.source = .watch) && decide (r.key.tag = w.blockTag))).map (·.key) := by
    simp [keysWhere]
  rw [removeWatchTag, removeBlocks, keys]
  exact chain_foldl (P := fun _ => True) (fun k s _ => dropsRecord_removeBlock k s) (fun _ _ _ => trivial) _ s trivial

theorem actionDone_intertrip (source : Byte) (w : Watch) (up : s.resetHeld = false) :
    ActionDone source w .intertrip s (watchIntertrip s) := by
  unfold watchIntertrip
  split
  · refine Or.inr ⟨seqTripRequest .intertrip s, ?_, ?_⟩
    · rw [exec_tripRequest (s := { s with handovers := .tripRequest .intertrip :: s.handovers }) up, takeHandOver]
      simp
    · simp [advanceFree]
  · exact Or.inl rfl

theorem actionDone_watchAct (source : Byte) (w : Watch) (a : WatchAction) (up : s.resetHeld = false) :
    ActionDone source w a s (watchAct source w a s) := by
  cases a with
  | none => rfl
  | placeBlock => exact actionDone_place source w s
  | removeBlock => exact actionDone_remove source w s
  | intertrip => exact actionDone_intertrip source w up

theorem actionFails_iff (source : Byte) (w : Watch) (a : WatchAction) (s : State) :
    actionFails source w a s = true ↔ blockLost source w a s := by
  simp [actionFails, blockLost, noRoom_iff, noRoom, watchBlockKey]

theorem sameKey_eq_decide (v w : Watch) : v.sameKey w =
    (decide (v.station = w.station) && decide (v.kind = w.kind) && decide (v.substate = w.substate)) := by
  simp [Watch.sameKey, beq_decide]

/-- The end of a match: its notice, and a watch of mode ONCE is gone (R93, R96). -/
theorem retireWatch_queueMatch (source : Byte) (body : FrameBody) (w : Watch) (failed : Bool) (b : State) :
    retireWatch w (queueMatch source body w failed b) = { b with
      cport := b.cport.queue b.image.attnMask (matchNote source body w failed b),
      blk := { b.blk with
        watches := if w.mode = .once then
            b.blk.watches.filter (fun v => !(decide (v.station = w.station) && decide (v.kind = w.kind) &&
              decide (v.substate = w.substate)))
          else b.blk.watches } } := by
  simp only [← sameKey_eq_decide]
  unfold retireWatch
  split <;> rfl

theorem watchActs_watchMatch (source : Byte) (body : FrameBody) (w : Watch) (up : s.resetHeld = false) :
    WatchActs source body w s (watchMatch source body w s) :=
  ⟨watchAct source w w.action1 s, watchAct source w w.action2 (watchAct source w w.action1 s),
    actionFails source w w.action1 s || actionFails source w w.action2 (watchAct source w w.action1 s),
    actionDone_watchAct source w w.action1 up, actionDone_watchAct source w w.action2 (by simpa using up),
    by simp [actionFails_iff], retireWatch_queueMatch ..⟩

theorem retired_watchMatch (source : Byte) (body : FrameBody) (w : Watch) (s : State) :
    Retired w s (watchMatch source body w s) := by
  refine ⟨fun standing => ?_, fun once v => ?_⟩
  · simp [watchMatch, retireWatch, standing]
  · simp [watchMatch, retireWatch, once, ← sameKey_iff]

theorem eventFrame_watchMatch (source : Byte) (body : FrameBody) (w : Watch) (s : State) :
    EventFrame [.meas, .elem, .link, .hunt] s (watchMatch source body w s) := by
  simp [EventFrame, Frame, sameBlock, sameSettings, sameTransaction]

/-- Settles O24: the matching watches act one after the other, each from the state that the one before left. -/
theorem watchesActOnFrames : Obligations.WatchesActOnFrames := by
  rintro source body s _ up rfl
  have ran : exec (.watchFrameMatch source body) s = .next ((s.blk.watches.filter (Watch.fits source body)).foldl
      (fun t w => watchMatch source body w t) (takeHandOver (.watchFrameMatch source body) s)) :=
    awake_eq (f := fun s => matchFrame source body (takeHandOver (.watchFrameMatch source body) s)) up
  refine ⟨fits_iff source body, fun x eq => by subst eq; rfl, fun x eq => by subst eq; rfl, fun none_ => ?_, _, ran,
    chain_foldl (P := fun s => s.resetHeld = false) (fun w s => watchActs_watchMatch source body w)
      (fun w s up => by simpa using up) _ _ up, fun w single => ?_, ?_⟩
  · rw [ran, List.filter_eq_nil_iff.2 (fun w mem => by simp [none_ w mem])]
    rfl
  · rw [single]
    exact retired_watchMatch source body w (takeHandOver (.watchFrameMatch source body) s)
  · exact List.foldlRecOn (motive := fun t => EventFrame [.meas, .elem, .link, .hunt] _ t) _ _ (EventFrame.refl _)
      fun t h w _ => h.trans (eventFrame_watchMatch source body w t)

end Sys2Proof.Claims
end

section
/-! PROF in the words of the statements: a raise that is handed on, and what new demands come to. -/

namespace Sys2Proof.Claims

open Sys2Proof Sys2Proof.Machine

variable {s t u v : State}

/-! ### A raise (R66, R70, R111) -/

theorem tripcoReview_withPort (c : CportState) (n : Nat) (s : State) :
    tripcoReview { s with cport := c, freeCount := n } = { tripcoReview s with cport := c, freeCount := n } := by
  unfold tripcoReview
  simp only [show restrainCondition { s with cport := c, freeCount := n } = restrainCondition s from rfl]
  split
  · split <;> rfl
  · split
    · unfold endEpisode
      simp only
      split <;> rfl
    · rfl

theorem FinFollows.withPort {st : SeqState} {c : CportState} {n : Nat} (h : FinFollows st s t)
    (staging : c.staging = t.cport.staging) (locked : c.locked = t.cport.locked) :
    FinFollows st s { t with cport := c, freeCount := n } := by
  have image : State.image { t with cport := c, freeCount := n } = t.image := by
    simp [State.image, staging, locked]
  obtain ⟨forced, healthy, same, changed, contacts⟩ := h
  refine ⟨forced, healthy, same, fun differs => ?_, contacts⟩
  obtain ⟨wet, inputs⟩ := changed differs
  refine ⟨wet.trans ?_, inputs⟩
  simp only [WetHigh, SensedStatic, image]

/-- A transition does not depend on the notices that stand beside SEQ's. -/
theorem Transition.withNotices {st : SeqState} {timer : Option Ms} {ns : List Notice} {fs : List OwnedFrame}
    (h : Transition st timer ns fs s t) (ns' : List Notice) (n : Nat) :
    Transition st timer ns' fs s
      { t with cport := ns'.foldl (fun c n => c.queue s.image.attnMask n) s.cport, freeCount := n } := by
  obtain ⟨p, seqIs, counts, -, placed, fin, frame, rfl⟩ := h
  obtain ⟨part, staging, locked, trans, rxBuf, resp, respPos, pdo⟩ := queueAll_settings s.image.attnMask ns' s.cport
  obtain ⟨⟨blocks, ⟨-, staging', locked', held, pending⟩, now⟩, -⟩ := frame
  refine ⟨{ p with cport := ns'.foldl (fun c n => c.queue s.image.attnMask n) s.cport, freeCount := n }, seqIs, counts,
    rfl, placed, fin.withPort (staging.trans staging'.symm) (locked.trans locked'.symm),
    ⟨⟨fun b mem => ?_, ⟨part, staging, locked, held, pending⟩, now⟩, trans, rxBuf, resp, respPos, pdo⟩,
    (tripcoReview_withPort ..).symm⟩
  have same := blocks b mem
  cases b <;> exact same

theorem queueProfileChanged_eq (k : ProfileChange) (before : Profile) (s : State) : queueProfileChanged k before s =
    { s with
      cport := s.cport.queue s.image.attnMask
        (profileNote (profileChangeCode k) before s.prof.effective s.prof.port s.prof.field s.prof.peer s) } := by
  rw [profileNote, ← demandFlags_eq]
  rfl

theorem raiseHanded_handRaise (before : Profile) (s : State) : RaiseHanded before s (handRaise before s) := by
  rintro changed locked frame isChanged rfl rfl
  have notice : ∀ x : State, x.prof = s.prof → x.now = s.now → x.address = s.address →
      queueProfileChanged .raised before x = { x with cport := x.cport.queue x.image.attnMask changed } := by
    intro x prof now address
    rw [queueProfileChanged_eq, isChanged, prof, profileNote, note, now, address]
    rfl
  refine ⟨fun waiting limit => ?_, fun stays => ?_⟩
  · rcases handRaise_locks before s waiting limit with eq | eq <;> rw [eq]
    · left
      have h := (transition_seqMove .lockout none .profileRaise s).withNotices
        [stateNote .lockout .profileRaise s, changed] (s.freeCount + 1)
      rw [notice _ (by simp) (by simp) (by simp), seqMove_cport]
      refine Eq.mpr (congrArg (Transition _ _ _ _ s) ?_) h
      simp [advanceFree]
      rfl
    · right
      have begun : queueProfileChanged .raised before s = announced s.sequencer [changed] [] s := by
        rw [notice s rfl rfl rfl]
        simp [announced, placements]
      have moved : seqMove .lockout none .profileRaise (queueProfileChanged .raised before s) =
          handTransition (announced (s.sequencer.enter .lockout none) [changed, stateNote .lockout .profileRaise s]
            [stateFrame .lockout s.sequencer.shot s] s) := by
        rw [begun, seqMove]
        exact congrArg handTransition (announceState_announced (s.sequencer.enter .lockout none) [changed] [] s _)
      have h := (transition_announced (s := s) (timer := none) (st := .lockout)
        (ns := [changed, stateNote .lockout .profileRaise s]) (fs := [stateFrame .lockout s.sequencer.shot s])
        rfl).withNotices [changed, stateNote .lockout .profileRaise s] (s.freeCount + 1)
      rw [moved]
      refine Eq.mpr (congrArg (Transition _ _ _ _ s) ?_) h
      simp [advanceFree, announced]
  · rw [handRaise_stays before s (fun waiting => ?_), notice s rfl rfl rfl]
    · rfl
    · rcases stays with ⟨notTime, notHold⟩ | limit
      · exact (waiting.elim notTime notHold).elim
      · exact limit

/-! ### New demands (R100 to R106, R110, R113) -/

theorem takeTarget_below (below : profileCode s.prof.target < profileCode s.prof.effective) : takeTarget s = { s with
    prof := { s.prof with relax := .timing, relaxAt := some (after s.now (s.image.profileRelax * 1000)) } } := by
  rw [takeTarget, if_neg (by omega), if_neg (by intro eq; rw [eq] at below; omega)]

theorem takeTarget_equal (equal : s.prof.target = s.prof.effective) :
    takeTarget s = { s with prof := { s.prof with relax := .none, relaxAt := none } } := by
  rw [takeTarget, if_neg (by rw [equal]; omega), if_pos equal]

theorem raiseHanded_takeTarget (above : profileCode s.prof.effective < profileCode s.prof.target) :
    RaiseHanded s.prof.effective
      { s with prof := { s.prof with effective := s.prof.target, relax := .none, relaxAt := none } }
      (takeTarget s) := by
  rw [takeTarget, if_pos above]
  exact raiseHanded_handRaise _ _

theorem askIfChanged_same {p : ProfState} (own : s.prof.ownDemand = p.ownDemand)
    (effective : s.prof.effective = p.effective) : askIfChanged p s = s :=
  if_pos ⟨own, effective⟩

theorem askIfChanged_changed {p : ProfState} (changed : s.prof.ownDemand ≠ p.ownDemand ∨ s.prof.effective ≠ p.effective) :
    askIfChanged p s = { s with handovers := s.handovers ++ [.framePlacement .beaconRequest] } :=
  if_neg fun same => changed.elim (fun h => h same.1) (fun h => h same.2)

/-- What PROF makes of a change of target keeps the own demand (R101, R104). -/
theorem takeTarget_ownDemand (s : State) : (takeTarget s).prof.ownDemand = s.prof.ownDemand := by
  unfold takeTarget
  split
  · simp [raiseProfile]
  · split <;> rfl

theorem demandsTaken_settle (port field peer : Profile) (s : State) :
    DemandsTaken port field peer s (settle port field peer s) := by
  rintro own target _ isOwn isTarget rfl
  rw [Safety.isLarger_iff] at isOwn isTarget
  subst isOwn isTarget
  refine ⟨fun run => ?_, fun config => ?_⟩
  · let u : State := { s with prof := s.prof.demand port field peer }
    let v : State := if u.prof.target = s.prof.target then u else takeTarget u
    have settled : settle port field peer s = askIfChanged s.prof v := by
      rw [settle]
      exact if_pos run
    have own : v.prof.ownDemand = profileMax port field := by
      simp only [v]
      split
      · rfl
      · exact takeTarget_ownDemand u
    have moved : u.prof.target ≠ s.prof.target → v = takeTarget u := fun moves => if_neg moves
    refine ⟨v, fun same => if_pos same, fun moves above => ?_, fun moves equal => ?_, fun moves below => ?_,
      fun sameOwn sameEffective => ?_, fun changed => ?_⟩
    · rw [moved moves]
      exact raiseHanded_takeTarget (s := u) above
    · rw [moved moves]
      exact takeTarget_equal (s := u) equal
    · rw [moved moves]
      exact takeTarget_below (s := u) below
    · exact settled.trans (askIfChanged_same (own.trans sameOwn) sameEffective)
    · rw [settled]
      exact askIfChanged_changed (by rwa [own])
  · have settled : settle port field peer s =
        if profileMax (profileMax port field) peer = s.prof.target then { s with prof := s.prof.demand port field peer }
        else followTarget { s with prof := s.prof.demand port field peer } := by
      rw [settle]
      exact if_neg (by simp [config])
    refine ⟨fun same => ?_, fun moves differs => ?_⟩
    · rw [settled]
      split
      · rfl
      · rcases same with same | same
        · contradiction
        · exact if_pos same
    · rw [settled, if_neg moves, followTarget, if_neg (by exact differs), queueProfileChanged_eq]
      rfl

/-! ### The obligations -/

theorem profileOfCode_profileCode {n : Nat} {p : Profile} (code : profileCode p = n) : profileOfCode n = some p := by
  subst code
  cases p <;> rfl

theorem profileOfCode_eq_none {n : Nat} (large : 2 < n) : profileOfCode n = none := by
  match n, large with
  | _ + 3, _ => rfl

/-- Settles O25: the demands are taken as PROF takes any, and what PROF itself did shows in the answer. -/
theorem selectProfileSetsThePortDemand : Obligations.SelectProfileSetsThePortDemand := by
  intro s n up
  refine ⟨fun large => onlyAnswers_reply rfl up ?_, fun p code => ?_⟩
  · rw [cmdSelectProfile, profileOfCode_eq_none large]
  · have answer : cmdSelectProfile n s = replyAfter (selectEarly (setPortDemand p s) s) (setPortDemand p s) := by
      rw [cmdSelectProfile, profileOfCode_profileCode code]
    obtain ⟨t, ran, answered⟩ := exec_replyAfter (c := .selectProfile n) rfl up answer
    refine ⟨t, _, _, ran, demandsTaken_settle _ _ _ _, fun run raised => ?_, fun own => ?_, answered, ?_⟩
    · rw [selectEarly, if_pos ⟨run, raised⟩, queueProfileChanged_eq]
      rfl
    · exact if_neg fun both => own.elim (fun config => by simp [config] at both) (fun same => both.2 same)
    · refine Frame.trans ?_ (answered.leaves.1.mono (by decide))
      simp [Frame, sameBlock, sameSettings]

/-- Settles O26: at rest the relax completes, else it waits. -/
theorem relaxTimerExpires : Obligations.RelaxTimerExpires := by
  rintro s _ at_ up timer rfl
  have ran : exec .relaxTimerExpiry s = .next (expireRelax (s.arriveAt at_)) := by
    simp [exec, execRelaxTimerExpiry, awake, up, timer]
  refine ⟨_, ran, fun moving => ?_, fun rests => ?_, ?_⟩
  · exact if_neg (by rwa [atRest_iff])
  · rw [expireRelax, if_pos ((atRest_iff (s.arriveAt at_)).2 rests), completeRelax_eq]
    exact ⟨rfl, rfl, rfl⟩
  · simp [EventFrame, Frame, sameBlock, sameSettings, sameTransaction]

end Sys2Proof.Claims
end

section
/-! ELEM's arithmetic and step, the confirmation of inputs, and the reading of sample frames. -/

namespace Sys2Proof.Claims

open Sys2Proof Sys2Proof.Machine

variable {s t u : State}

/-! ### The inverse-time curves (R27, R28) -/

/-- Between two breakpoints the operate time is interpolated between theirs. -/
theorem interpolate_between {q : Nat} (l : List (Nat × Nat)) (i : Nat) (inside : i + 1 < l.length)
    (sorted : (l.map (·.1)).Pairwise (· < ·)) (above : (l[i]).1 < q) (below : q ≤ (l[i + 1]).1) :
    interpolate q l = (l[i]).2 - ((l[i]).2 - (l[i + 1]).2) * (q - (l[i]).1) / ((l[i + 1]).1 - (l[i]).1) := by
  induction l generalizing i with
  | nil => simp at inside
  | cons a l ih =>
    obtain ⟨qa, ta⟩ := a
    match l, i, ih with
    | (qb, tb) :: rest, 0, _ =>
      simp only [List.getElem_cons_zero, List.getElem_cons_succ, Nat.zero_add] at above below ⊢
      rw [interpolate, if_neg (Nat.not_le.2 above), if_pos below]
    | (qb, tb) :: rest, i + 1, ih =>
      simp only [List.getElem_cons_succ] at above below ⊢
      simp only [List.map_cons, List.pairwise_cons] at sorted
      obtain ⟨first, second, tail⟩ := sorted
      have next : qa < qb := first qb (by simp)
      have reached : qb ≤ (((qb, tb) :: rest)[i]'(by simp at inside ⊢; omega)).1 := by
        cases i with
        | zero => exact Nat.le_refl _
        | succ i => exact Nat.le_of_lt (second _ (List.mem_map_of_mem (List.getElem_mem _)))
      rw [interpolate, if_neg (by omega), if_neg (by omega)]
      exact ih i (by simpa using inside) (List.pairwise_cons.2 ⟨second, tail⟩) above below

theorem curveTimes_of_large (curve : Nat) (large : 3 ≤ curve) : curveTimes curve = curveTimes 3 := by
  obtain ⟨n, rfl⟩ := Nat.exists_eq_add_of_le' large
  rfl

theorem curveTimes_length (curve : Nat) : (curveTimes curve).length = 10 := by
  match curve with
  | 0 | 1 | 2 | _ + 3 => rfl

theorem operateTime_breakpoint (curve i : Nat) (inside : i < 10) :
    operateTime curve (curveQ.getD i 0) = (curveTimes curve).getD i 0 := by
  have table : ∀ c < 4, ∀ i < 10, operateTime c (curveQ.getD i 0) = (curveTimes c).getD i 0 := by decide
  rcases Nat.lt_or_ge curve 3 with small | large
  · exact table curve (by omega) i inside
  · have h := table 3 (by omega) i inside
    rwa [operateTime, curveTimes_of_large curve large]

theorem getD_of_lt {α : Type} (l : List α) (d : α) {n : Nat} (inside : n < l.length) : l.getD n d = l[n] :=
  (List.getElem_eq_getD d).symm

theorem operateTime_between (curve i q : Nat) (inside : i < 9) (above : curveQ.getD i 0 < q)
    (below : q ≤ curveQ.getD (i + 1) 0) : operateTime curve q = (curveTimes curve).getD i 0 -
      ((curveTimes curve).getD i 0 - (curveTimes curve).getD (i + 1) 0) * (q - curveQ.getD i 0) /
        (curveQ.getD (i + 1) 0 - curveQ.getD i 0) := by
  have lengthQ : curveQ.length = 10 := rfl
  have lengthT := curveTimes_length curve
  have points : (curveQ.zip (curveTimes curve)).length = 10 := by simp [lengthQ, lengthT]
  have firsts : (curveQ.zip (curveTimes curve)).map (·.1) = curveQ := List.map_fst_zip (by omega)
  rw [getD_of_lt _ _ (by omega)] at above below
  have h := interpolate_between (q := q) (curveQ.zip (curveTimes curve)) i (by omega)
    (by rw [firsts]; decide) (by simpa using above) (by simpa using below)
  rw [operateTime, h]
  simp only [List.getElem_zip]
  simp only [getD_of_lt _ _ (show i < (curveTimes curve).length by omega),
    getD_of_lt _ _ (show i + 1 < (curveTimes curve).length by omega),
    getD_of_lt _ _ (show i < curveQ.length by omega),
    getD_of_lt _ _ (show i + 1 < curveQ.length by omega)]

/-- Settles O10: the tables are the model's, and between their breakpoints it interpolates. -/
theorem inverseTimeElementStep : Obligations.InverseTimeElementStep := by
  refine ⟨fun _ _ => rfl, fun s => ⟨decide_eq_true_iff, decide_eq_true_iff, rfl, rfl⟩,
    fun curve tm resetTime q a => ⟨fun low => if_pos low, fun lo hi => ?_, fun high => ?_,
      Safety.stepAccumulator_le curve tm resetTime q⟩,
    operateTime_breakpoint, operateTime_between, rfl, rfl, rfl, rfl, rfl⟩
  · rw [stepAccumulator, if_neg (by omega), if_pos (by omega)]
  · rw [stepAccumulator, if_neg (by omega), if_neg (by omega)]
    rfl

/-! ### The rules of a step (R21, R31 to R39) -/

theorem restraintHeld_eq_false (s : State) : restraintHeld s = false ↔ ∀ r ∈ s.tripco.records, r.held = false := by
  simp [restraintHeld]

theorem fastMode_iff (s : State) : fastMode s = true ↔
    s.sequencer.shot + 1 ≤ s.image.fastTrips s.prof.effective ∧ ∀ r ∈ s.tripco.records, r.held = false := by
  simp [fastMode, restraintHeld]

theorem phhRuns_iff (s : State) : phhRuns s = true ↔
    ((fastMode s = true ∧ s.image.phhEnable s.prof.effective = true) ∨ s.elem.waiver = true) ∧
      ∀ r ∈ s.tripco.records, r.held = false := by
  simp [phhRuns, restraintHeld]

theorem phhPicked_iff (s : State) : phhPicked s = true ↔ phhRuns s = true ∧ s.image.highSet ≤ s.meas.last.m := by
  simp [phhPicked]

theorem phhDelay_eq (s : State) : phhDelay s = if s.elem.waiver = true then 0
    else if ∃ r ∈ s.tripco.records, r.lost = true then s.image.delayLost else s.image.delayHs := by
  simp [phhDelay, downstreamLost]

theorem sefPicked_iff (s : State) :
    sefPicked s = true ↔ s.pickupSef ≤ s.meas.last.is ∧ s.meas.last.dir = .forward := by
  simp [sefPicked]

theorem sefOperates_iff (s : State) : sefOperates s = true ↔ sefCountLimit s ≤ nextSefCount s := by
  simp [sefOperates]

/-- Settles O11: each rule is the model's definition of the quantity, read as a proposition. -/
theorem elementStepRules : Obligations.ElementStepRules := by
  intro s
  refine ⟨fastMode_iff s, phhRuns_iff s, ?_, ?_, sefPicked_iff s, ?_, rfl, ?_, ?_, sefOperates_iff s, ?_, phhPicked_iff s,
    ?_, ?_, sefPicked_iff s, ?_⟩
  · simp only [nextElem, nextPhhRun, phhPicked_iff]
  · rw [phhOperates, Bool.and_eq_true, phhPicked_iff, decide_eq_true_eq, phhDelay_eq]
    rfl
  · simp only [nextElem, nextSefCount, sefPicked_iff]
  · simp [nextElem]
  · simp [nextElem]
  · simp [sefAlarms, nextElem, sefOperates_iff, and_assoc]
  · simp only [nextElem, pickupSummary, Bool.or_eq_true, or_assoc]
    exact or_congr decide_eq_true_iff (or_congr decide_eq_true_iff Iff.rfl)
  · simp [nextElem]
  · simp only [elemCause, Bool.and_eq_true, sefOperates_iff]
    rfl

end Sys2Proof.Claims
end

section
/-! The confirmation of inputs, the timers of FIN, and the reading of sample frames. -/

namespace Sys2Proof.Claims

open Sys2Proof Sys2Proof.Machine

variable {s t u : State}

/-! ### Confirmation (R42, R43) -/

section Confirmation

variable {x : InputState} {level : Bool}

theorem sampleStatic_same (confirmed : x.confirmed = some level) : x.sampleStatic level = { x with run := 0 } := by
  simp [InputState.sampleStatic, confirmed]

theorem sampleStatic_other (confirmed : x.confirmed = some (!level)) (few : x.run < 3) :
    x.sampleStatic level = { x with run := x.run + 1 } := by
  cases level <;> simp [InputState.sampleStatic, confirmed, Nat.not_le.2 few]

theorem sampleStatic_fourth (confirmed : x.confirmed = some (!level)) (enough : 3 ≤ x.run) :
    x.sampleStatic level = InputState.confirm level := by
  cases level <;> simp [InputState.sampleStatic, confirmed, enough]

theorem sampleStatic_first (confirmed : x.confirmed = none) (other : x.prev ≠ some level) :
    x.sampleStatic level = { x with run := 1, prev := some level } := by
  simp [InputState.sampleStatic, confirmed, other]

theorem sampleStatic_again (confirmed : x.confirmed = none) (same : x.prev = some level) (few : x.run < 3) :
    x.sampleStatic level = { x with run := x.run + 1 } := by
  simp [InputState.sampleStatic, confirmed, same, Nat.not_le.2 few]

theorem sampleStatic_last (confirmed : x.confirmed = none) (same : x.prev = some level) (enough : 3 ≤ x.run) :
    x.sampleStatic level = InputState.confirm level := by
  simp [InputState.sampleStatic, confirmed, same, enough]

theorem sampleCyclic_same (confirmed : x.confirmed = some level) : x.sampleCyclic level = { x with pend := none } := by
  simp [InputState.sampleCyclic, confirmed]

theorem sampleCyclic_first (confirmed : x.confirmed = some (!level)) (fresh : x.pend = none) :
    x.sampleCyclic level = { x with pend := some level } := by
  cases level <;> simp [InputState.sampleCyclic, confirmed, fresh]

theorem sampleCyclic_second (confirmed : x.confirmed = some (!level)) (again : x.pend = some level) :
    x.sampleCyclic level = InputState.confirm level := by
  cases level <;> simp [InputState.sampleCyclic, confirmed, again]

theorem sampleCyclic_unknown (confirmed : x.confirmed = none) : x.sampleCyclic level =
    if x.pend = some level then InputState.confirm level else { x with pend := some level } := by
  simp [InputState.sampleCyclic, confirmed]

end Confirmation

/-- Settles O12: a run of equal samples, one sample after the other. -/
theorem inputsAreConfirmed : Obligations.InputsAreConfirmed := by
  refine ⟨fun x level known fresh => ?_, fun x level known => sampleStatic_same known, by decide,
    fun x level unknown => ⟨sampleStatic_first unknown, sampleStatic_again unknown, fun same enough => ?_⟩,
    fun x level known => ⟨sampleCyclic_first known, fun again => ?_⟩, fun x level known => sampleCyclic_same known,
    fun x level unknown => ⟨fun again => ?_, fun other => ?_⟩⟩
  · have first := sampleStatic_other known (show x.run < 3 by omega)
    have second := sampleStatic_other (x := { x with run := x.run + 1 }) known (by simp [fresh])
    have third := sampleStatic_other (x := { x with run := x.run + 1 + 1 }) known (by simp [fresh])
    have fourth := sampleStatic_fourth (x := { x with run := x.run + 1 + 1 + 1 }) known (by simp [fresh])
    rw [first, second, third, fourth]
    exact ⟨known, known, known, rfl⟩
  · rw [sampleStatic_last unknown same enough]
    exact ⟨rfl, rfl⟩
  · rw [sampleCyclic_second known again]
    exact ⟨rfl, rfl⟩
  · rw [sampleCyclic_unknown unknown, if_pos again]
    exact ⟨rfl, rfl⟩
  · rw [sampleCyclic_unknown unknown, if_neg other]

/-! ### Sense periods and discrepancies (R41, R47) -/

theorem sensePeriod_eq (s : State) : s.sensePeriod =
    if s.isRun = true then s.image.sensePeriod else if s.image.sensePeriod = 50 then 50 else 200 := rfl

theorem beginPeriod_eq (at_ : Ms) (s : State) : beginPeriod at_ s = { s with
    fin := { s.fin with
      nextPeriodAt := some (after at_ s.sensePeriod),
      sense := { s.fin.sense with pulseEndAt := some (after at_ 2) }, wet := true } } := by
  have wet : wetLevel { s with fin := { s.fin with
      nextPeriodAt := some (after at_ s.sensePeriod),
      sense := { s.fin.sense with pulseEndAt := some (after at_ 2) } } } = true := by
    rw [Machine.wetLevel_iff]
    simp
  rw [beginPeriod, setSense, refreshWet, wet]

/-- A position that is UNKNOWN means nothing to SEQ and to HUNT (R46, R157). -/
theorem handPosition_unknown (unknown : s.fin.position = .unknown) : handPosition s = s := by
  have still : seqPosition s = s := by
    unfold seqPosition
    split <;> simp_all
  rw [handPosition, still]
  exact if_neg fun both => by simp [unknown] at both

theorem expireDiscrepancy_eq (s : State) : expireDiscrepancy s =
    queueOwn .breakerDiscrepancy (half (pairCode s)) (half (positionCode s.fin.position))
      { s with fin := { s.fin with position := .unknown, discAt := none } } := by
  rw [expireDiscrepancy]
  split
  · rfl
  · rw [handPosition_unknown rfl]

theorem pairCode_eq (s : State) :
    pairCode s = (if s.inputSet 0 = true then 2 else 0) + (if s.inputSet 1 = true then 1 else 0) := by
  simp [pairCode, flagBit]

/-- Settles O14: a period begins with its pulse, and a discrepancy that lasts ends in UNKNOWN. -/
theorem sensePeriodsAndDiscrepancy : Obligations.SensePeriodsAndDiscrepancy := by
  intro s at_ up
  refine ⟨fun timer => ⟨beginPeriod at_ (s.arriveAt at_), ?_, ?_⟩,
    fun timer => ⟨expireDiscrepancy (s.arriveAt at_), ?_, ?_⟩⟩
  · simp [exec, execSensePeriodStart, awake, up, timer]
  · rw [beginPeriod_eq]
    exact ⟨rfl, rfl, rfl, rfl, by simp [EventFrame, Frame, sameBlock, sameSettings, sameTransaction]⟩
  · simp [exec, execDiscrepancyTimeout, awake, up, timer]
  · rw [expireDiscrepancy_eq, pairCode_eq]
    exact ⟨rfl, rfl, rfl, fun _ => rfl, rfl, rfl,
      by simp [EventFrame, Frame, sameBlock, sameSettings, sameTransaction]⟩

/-! ### Sample frames (R1 to R3, R5) -/

theorem readSampleFrame_bad {bytes : List Byte} {extraBits : Nat}
    (bad : ¬ (bytes.length = 16 ∧ extraBits = 0 ∧ bytes.getD 15 0 = crc8 0 (bytes.take 15) ∧
      (bytes.getD 0 0).toNat < 32)) : readSampleFrame bytes extraBits = none := by
  unfold readSampleFrame
  split
  · exact if_neg fun ⟨extra, check, position⟩ => bad ⟨rfl, extra, check, position⟩
  · rfl

theorem readSampleFrame_good {bytes : List Byte} (whole : bytes.length = 16)
    (check : bytes.getD 15 0 = crc8 0 (bytes.take 15)) (position : (bytes.getD 0 0).toNat < 32) :
    readSampleFrame bytes 0 = some ((bytes.getD 0 0).toNat,
      { ia := channel (bytes.getD 1 0) (bytes.getD 2 0), ib := channel (bytes.getD 3 0) (bytes.getD 4 0),
        ic := channel (bytes.getD 5 0) (bytes.getD 6 0), is := channel (bytes.getD 7 0) (bytes.getD 8 0),
        va := channel (bytes.getD 9 0) (bytes.getD 10 0), vb := channel (bytes.getD 11 0) (bytes.getD 12 0),
        vc := channel (bytes.getD 13 0) (bytes.getD 14 0) }) := by
  match bytes, whole with
  | [p, a1, a0, b1, b0, c1, c0, s1, s0, u1, u0, v1, v0, w1, w0, c], _ =>
    exact if_pos ⟨rfl, check, position⟩

theorem channel_eq (hi lo : Byte) : channel hi lo =
    if (hi ++ lo : BitVec 16).toInt = -32768 then -32767 else (hi ++ lo : BitVec 16).toInt := by
  have low : -32768 ≤ (hi ++ lo : BitVec 16).toInt := BitVec.le_toInt _
  unfold channel
  split <;> omega

/-- Settles O4: the reader takes exactly the frames of R1, and a channel is its signed value with the one exception. -/
theorem sampleFramesAreCheckedAndRead : Obligations.SampleFramesAreCheckedAndRead := by
  refine ⟨fun bytes extraBits s bad => ?_, fun bytes whole check position =>
    ⟨_, readSampleFrame_good whole check position, rfl, rfl, rfl, rfl, rfl, rfl, rfl⟩, channel_eq⟩
  simp [exec, execSampleFrame, awake, readSampleFrame_bad bad]

theorem exec_sampleFrame {bytes : List Byte} {p : Nat} {x : Sample} (up : s.resetHeld = false)
    (read : readSampleFrame bytes 0 = some (p, x)) : exec (.sampleFrame bytes 0) s = .next (assemble p x s) := by
  simp [exec, execSampleFrame, awake, up, read]

/-- Settles O5: cycle assembly, by whether a partial cycle is being assembled. -/
theorem acceptedSamplesJoinTheCycle : Obligations.AcceptedSamplesJoinTheCycle := by
  intro s bytes p x up read
  rw [exec_sampleFrame up read]
  refine ⟨fun waiting first => ?_, fun waiting later => ?_, fun l partial_ next middle => ?_⟩
  · simp [assemble, waiting, first, takeSample]
  · simp [assemble, waiting, later]
  · simp [assemble, partial_, ← next, Nat.ne_of_lt middle, takeSample]

end Sys2Proof.Claims
end

section
/-! A sample row in the words of the statements: the samples of its instant, and how what they confirm is handed on. -/

namespace Sys2Proof.Claims

open Sys2Proof Sys2Proof.Machine

variable {s t u : State}

/-! ### The field demand and the position (R46 to R48) -/

theorem keyGives_iff (k1 k0 : Option Bool) (d : Profile) : KeyGives k1 k0 d ↔ d = keyDemand k1 k0 := by
  rcases k1 with _ | _ | _ <;> rcases k0 with _ | _ | _ <;> simp [KeyGives, keyDemand]

theorem demandDerived_deriveDemand (s : State) : DemandDerived (s.input 4) (s.input 3) s (deriveDemand s) := by
  intro d gives
  rw [keyGives_iff] at gives
  subst gives
  refine ⟨fun same => if_pos same, fun moves => ⟨_, rfl, ?_⟩⟩
  rw [deriveDemand]
  simp only
  rw [if_neg moves]
  exact demandsTaken_settle _ _ _ _

theorem discTime_eq (s : State) :
    s.discTime = if s.isRun = true then s.image.discTime else max 20 (min 500 s.image.discTime) := rfl

theorem setPosition_same {p : Position} (same : s.fin.position = p) :
    setPosition p s = { s with fin := { s.fin with position := p, discrepancy := false, discAt := none } } :=
  if_pos same

theorem setPosition_moves {p : Position} (moves : s.fin.position ≠ p) : setPosition p s =
    huntPosition (seqPosition
      { s with fin := { s.fin with position := p, discrepancy := false, discAt := none } }) :=
  if_neg moves

theorem positionDerived_derivePosition (s : State) :
    PositionDerived (s.input 0) (s.input 1) s (derivePosition s) := by
  refine ⟨fun p pair => ⟨_, rfl, ?_⟩, fun level a b => ?_, fun unknown => ?_⟩
  · have derived : derivePosition s = setPosition p s := by
      rcases pair with ⟨a, b, rfl⟩ | ⟨a, b, rfl⟩ <;> simp [derivePosition, a, b]
    rw [derived]
    exact ⟨setPosition_same, setPosition_moves⟩
  · have derived : derivePosition s = beginDiscrepancy s := by
      cases level <;> simp [derivePosition, a, b]
    rw [derived, beginDiscrepancy, discTime_eq]
    exact ⟨fun going => if_pos going, fun fresh => if_neg (by simp [fresh])⟩
  · unfold derivePosition
    split <;> simp_all

/-! ### The inputs are handed on (R45, R49 to R52) -/

section HandInput

variable (before after_ : List InputState) (n : Nat) (s : State)

theorem fieldRecord_eq_fieldKey : fieldRecord n s = fieldKey s (half n) := rfl

theorem queueInputChange_eq (old : Option Bool) (level : Bool) : queueInputChange n old.isNone level s = { s with
    cport := s.cport.queue s.image.attnMask (note .inputChange s.address (half n)
      (half ((if old = none then 16 else 0) + (if level = true then 1 else 0))) s) } := by
  cases old <;> rfl

theorem handInput_same (same : confirmedIn after_ n = confirmedIn before n) : handInput before after_ s n = s :=
  if_pos same.symm

theorem handInput_anew {level : Bool} (known : confirmedIn after_ n = some level)
    (anew : confirmedIn after_ n ≠ confirmedIn before n) : handInput before after_ s n =
      handFieldRecord n (confirmedIn before n).isNone level
        (queueInputChange n (confirmedIn before n).isNone level s) := by
  rw [handInput, if_neg (Ne.symm anew), known]

theorem handFieldRecord_other (first level : Bool) (other : s.isRun = false ∨ (n ≠ 2 ∧ n ≠ 5)) :
    handFieldRecord n first level s = s := by
  rw [handFieldRecord]
  exact if_neg (by rcases other with config | ⟨two, five⟩ <;> simp [*])

theorem handFieldRecord_field (first level : Bool) (run : s.isRun = true) (field : n = 2 ∨ n = 5) :
    handFieldRecord n first level s =
      if level then placeBlock (fieldRecord n s) .lock none s else if first then s
      else removeBlock (fieldRecord n s) s := by
  rw [handFieldRecord, if_pos (by simp [run, field])]
  rfl

/-- INPUT_CHANGE first, then what the FIELD record makes of it. -/
theorem inputHanded_handInput :
    InputHanded n (confirmedIn before n) (confirmedIn after_ n) s (handInput before after_ s n) := by
  refine ⟨handInput_same before after_ n s, fun level known anew => ⟨_, rfl, ?_⟩⟩
  rw [handInput_anew before after_ n s known anew, ← queueInputChange_eq]
  have key : fieldRecord n (queueInputChange n (confirmedIn before n).isNone level s) = fieldRecord n s := by
    simp [fieldRecord]
  refine ⟨fun run field => ?_, fun other => handFieldRecord_other _ _ _ _ (by simpa using other)⟩
  rw [handFieldRecord_field _ _ _ _ (by simpa using run) field, key]
  refine ⟨fun high => ?_, fun low first => ?_, fun low later => ?_⟩
  · rw [if_pos high]
    exact putsRecord_placeBlock _ _ none _
  · rw [if_neg (by simp [low]), if_pos (by simp [first])]
  · rw [if_neg (by simp [low]), if_neg (by simpa using later)]
    exact dropsRecord_removeBlock ..

end HandInput

/-! ### What the confirmed levels outlast -/

theorem input_seqRaise (s : State) (n : Nat) : (seqRaise s).input n = s.input n := by
  unfold seqRaise
  split
  · split
    · exact seqMove_input ..
    · rfl
  · split
    · exact seqMove_input ..
    · rfl
  · rfl

theorem input_takeTarget (s : State) (n : Nat) : (takeTarget s).input n = s.input n := by
  unfold takeTarget raiseProfile handRaise
  split
  · split
    · exact input_seqRaise _ n
    · exact input_seqRaise _ n
  · split <;> rfl

theorem input_followTarget (s : State) (n : Nat) : (followTarget s).input n = s.input n := by
  unfold followTarget
  split <;> rfl

theorem input_settle (port field peer : Profile) (s : State) (n : Nat) :
    (settle port field peer s).input n = s.input n := by
  simp only [settle]
  split
  · have asked : ∀ (p : ProfState) (x : State), (askIfChanged p x).input n = x.input n := by
      intro p x
      unfold askIfChanged
      split <;> rfl
    rw [asked]
    split
    · rfl
    · exact input_takeTarget _ n
  · split
    · rfl
    · exact input_followTarget _ n

theorem input_placeBlock (k : BlockKey) (e : BlockEffect) (d : Option Nat) (s : State) (n : Nat) :
    (placeBlock k e d s).input n = s.input n := by
  rcases placeBlock_eq_or k e d s with eq | eq <;> rw [eq]
  · exact input_congr (by simp) n
  · exact ((seqBlockChange_leaves _).1.1 n).trans (input_congr (by simp) n)

theorem input_removeBlock (k : BlockKey) (s : State) (n : Nat) : (removeBlock k s).input n = s.input n := by
  unfold removeBlock
  split
  · exact (seqBlockChange_leaves _).1.1 n
  · rfl

theorem input_handFieldRecord (m : Nat) (first level : Bool) (s : State) (n : Nat) :
    (handFieldRecord m first level s).input n = s.input n := by
  unfold handFieldRecord
  split
  · split
    · exact input_placeBlock ..
    · split
      · rfl
      · exact input_removeBlock ..
  · rfl

theorem input_handInput (before after_ : List InputState) (m : Nat) (s : State) (n : Nat) :
    (handInput before after_ s m).input n = s.input n := by
  unfold handInput
  split
  · rfl
  · split
    · rfl
    · exact input_handFieldRecord ..

theorem input_huntPosition (s : State) (n : Nat) : (huntPosition s).input n = s.input n := input_congr (by simp) n

theorem input_derivePosition (s : State) (n : Nat) : (derivePosition s).input n = s.input n := by
  have set : ∀ p : Position, (setPosition p s).input n = s.input n := by
    intro p
    by_cases same : s.fin.position = p
    · rw [setPosition_same same]
      rfl
    · rw [setPosition_moves same, input_huntPosition]
      exact (seqPosition_leaves _).1.1 n
  unfold derivePosition
  split
  · exact set .closed
  · exact set .opened
  · unfold beginDiscrepancy
    split <;> rfl
  · rfl
  · rfl

theorem input_deriveDemand (s : State) (n : Nat) : (deriveDemand s).input n = s.input n := by
  unfold deriveDemand
  simp only
  split
  · rfl
  · exact input_settle ..

/-! ### What was confirmed at one instant (R45) -/

theorem eventFrame_derivePosition (s : State) : EventFrame [.meas, .elem, .link] s (derivePosition s) := by
  simp [EventFrame, Frame, sameBlock, sameSettings, sameTransaction]

theorem eventFrame_deriveDemand (s : State) : EventFrame [.meas, .elem, .link] s (deriveDemand s) := by
  simp [EventFrame, Frame, sameBlock, sameSettings, sameTransaction]

theorem eventFrame_handInput (before after_ : List InputState) (s : State) (n : Nat) :
    EventFrame [.meas, .elem, .link] s (handInput before after_ s n) := by
  simp [EventFrame, Frame, sameBlock, sameSettings, sameTransaction]

/-- The inputs hold new states and nothing has been handed on yet. -/
def withLevels (l : List InputState) (s : State) : State := { s with fin := { s.fin with inputs := l } }

/-- The position and the demand are derived once each, and the other inputs are handed on in order (R45). -/
theorem takeInputs_steps (l : List InputState) (s : State) : ∃ v w : State,
    takeInputs l s = [2, 3, 4, 5, 6, 7].foldl (handInput s.fin.inputs l) w ∧
    ((withLevels l s).input 0 ≠ s.input 0 ∨ (withLevels l s).input 1 ≠ s.input 1 →
      v = derivePosition (withLevels l s)) ∧
    ((withLevels l s).input 0 = s.input 0 → (withLevels l s).input 1 = s.input 1 → v = withLevels l s) ∧
    ((withLevels l s).input 3 ≠ s.input 3 ∨ (withLevels l s).input 4 ≠ s.input 4 → w = deriveDemand v) ∧
    ((withLevels l s).input 3 = s.input 3 → (withLevels l s).input 4 = s.input 4 → w = v) := by
  have anew : ∀ n : Nat, confirmedAnew s.fin.inputs l n = true ↔ (withLevels l s).input n ≠ s.input n := fun n =>
    bne_iff_ne.trans ne_comm
  refine ⟨if confirmedAnew s.fin.inputs l 0 || confirmedAnew s.fin.inputs l 1 then derivePosition (withLevels l s)
      else withLevels l s, _, rfl, fun either => if_pos ?_, fun same0 same1 => if_neg ?_, fun either => if_pos ?_,
    fun same3 same4 => if_neg ?_⟩
  all_goals rw [Bool.or_eq_true, anew, anew]
  · exact either
  · exact fun either => either.elim (fun h => h same0) (fun h => h same1)
  · exact either
  · exact fun either => either.elim (fun h => h same3) (fun h => h same4)

theorem input_foldl_handInput (before after_ : List InputState) (ns : List Nat) (s : State) (n : Nat) :
    (ns.foldl (handInput before after_) s).input n = s.input n :=
  List.foldlRecOn (motive := fun t : State => t.input n = s.input n) ns _ rfl
    fun t h m _ => (input_handInput before after_ m t n).trans h

theorem eventFrame_foldl_handInput (before after_ : List InputState) (ns : List Nat) (s : State) :
    EventFrame [.meas, .elem, .link] s (ns.foldl (handInput before after_) s) :=
  List.foldlRecOn (motive := fun t => EventFrame [.meas, .elem, .link] s t) ns _ (EventFrame.refl s)
    fun t h m _ => h.trans (eventFrame_handInput before after_ t m)

theorem takeInputs_leaves (l : List InputState) (s : State) :
    (∀ n : Nat, (takeInputs l s).input n = (withLevels l s).input n) ∧
      EventFrame [.meas, .elem, .link] s (takeInputs l s) := by
  obtain ⟨v, w, eq, moveA, stayA, moveB, stayB⟩ := takeInputs_steps l s
  have first : (∀ n, v.input n = (withLevels l s).input n) ∧ EventFrame [.meas, .elem, .link] (withLevels l s) v := by
    by_cases same : (withLevels l s).input 0 = s.input 0 ∧ (withLevels l s).input 1 = s.input 1
    · rw [stayA same.1 same.2]
      exact ⟨fun _ => rfl, EventFrame.refl _⟩
    · rw [moveA (Classical.not_and_iff_not_or_not.1 same)]
      exact ⟨input_derivePosition _, eventFrame_derivePosition _⟩
  have second : (∀ n, w.input n = v.input n) ∧ EventFrame [.meas, .elem, .link] v w := by
    by_cases same : (withLevels l s).input 3 = s.input 3 ∧ (withLevels l s).input 4 = s.input 4
    · rw [stayB same.1 same.2]
      exact ⟨fun _ => rfl, EventFrame.refl _⟩
    · rw [moveB (Classical.not_and_iff_not_or_not.1 same)]
      exact ⟨input_deriveDemand _, eventFrame_deriveDemand _⟩
  have levels : EventFrame [.meas, .elem, .link] s (withLevels l s) := by
    simp [withLevels, EventFrame, Frame, sameBlock, sameSettings, sameTransaction]
  rw [eq]
  exact ⟨fun n => (input_foldl_handInput _ _ _ w n).trans ((second.1 n).trans (first.1 n)),
    ((levels.trans first.2).trans second.2).trans (eventFrame_foldl_handInput _ _ _ w)⟩

/-- With no level confirmed anew there is nothing to hand on. -/
theorem takeInputs_quiet {l : List InputState} (quiet : ∀ n : Nat, n < 8 → (withLevels l s).input n = s.input n) :
    takeInputs l s = withLevels l s := by
  obtain ⟨v, w, eq, -, sameA, -, sameB⟩ := takeInputs_steps l s
  rw [eq, sameB (quiet 3 (by decide)) (quiet 4 (by decide)), sameA (quiet 0 (by decide)) (quiet 1 (by decide))]
  have still : ∀ n < 8, ∀ x : State, handInput s.fin.inputs l x n = x := fun n small x =>
    handInput_same _ _ n x (quiet n small)
  simp [still]

/-! ### A sample row (R41 to R43) -/

/-- The sensing state after the samples of an instant. -/
def sensed (static cyclic : Bool) (levels : Byte) (along : Option (SampleRow × Ms)) (s : State) : SenseState where
  pulseEndAt := if cyclic = true then none else s.fin.sense.pulseEndAt
  staticAt := if static = true then after s.now 1 else s.fin.sense.staticAt
  pins := levels
  along := along

/-- The rows whose samples are taken. -/
def rowsTaken (static cyclic : Bool) : SampleRow → Bool
  | .static => static
  | .cyclic => cyclic

/-- The levels after the samples of an instant. -/
def sampledLevels (static cyclic : Bool) (levels : Byte) (s : State) : List InputState :=
  sampleInputs (Machine.sensedStatic s.image s.fin.forced) (rowsTaken static cyclic) levels s.fin.inputs

section SampledLevels

variable {static cyclic : Bool} {levels : Byte} {n : Nat}

theorem sampledLevels_static (inside : n < s.fin.inputs.length) (mode : SensedStatic s n) :
    (sampledLevels static cyclic levels s).getD n InputState.reset =
      if static = true then (s.fin.inputs.getD n InputState.reset).sampleStatic (levels.getLsbD n)
      else s.fin.inputs.getD n InputState.reset := by
  rw [sampledLevels, sampleInputs_getD _ _ _ _ _ inside, (sensedStatic_iff s n).2 mode]
  rfl

theorem sampledLevels_cyclic (inside : n < s.fin.inputs.length) (mode : ¬ SensedStatic s n) :
    (sampledLevels static cyclic levels s).getD n InputState.reset =
      if cyclic = true then (s.fin.inputs.getD n InputState.reset).sampleCyclic (levels.getLsbD n)
      else s.fin.inputs.getD n InputState.reset := by
  have mode : Machine.sensedStatic s.image s.fin.forced n = false := by
    rwa [← Bool.not_eq_true, sensedStatic_iff]
  rw [sampledLevels, sampleInputs_getD _ _ _ _ _ inside, mode]
  rfl

end SampledLevels

/-- The samples of an instant, taken by whichever row comes first. -/
def sample (static cyclic : Bool) (levels : Byte) (along : Option (SampleRow × Ms)) (s : State) : State :=
  takeInputs (sampledLevels static cyclic levels s) (setSense (sensed static cyclic levels along s) s)

section Sample

variable {static cyclic : Bool} {levels : Byte} {along : Option (SampleRow × Ms)}

theorem input_sample (n : Nat) : (sample static cyclic levels along s).input n =
    ((sampledLevels static cyclic levels s).getD n InputState.reset).confirmed :=
  (takeInputs_leaves _ _).1 n

section Levels

variable {n : Nat} (whole : s.fin.inputs.length = 8) (inside : n < 8)

include whole inside

theorem input_sample_static (mode : SensedStatic s n) (taken : static = true) :
    (sample static cyclic levels along s).input n =
      ((s.fin.inputs.getD n InputState.reset).sampleStatic (levels.getLsbD n)).confirmed := by
  rw [input_sample, sampledLevels_static (by rwa [whole]) mode, if_pos taken]

theorem input_sample_cyclic (mode : ¬ SensedStatic s n) (taken : cyclic = true) :
    (sample static cyclic levels along s).input n =
      ((s.fin.inputs.getD n InputState.reset).sampleCyclic (levels.getLsbD n)).confirmed := by
  rw [input_sample, sampledLevels_cyclic (by rwa [whole]) mode, if_pos taken]

theorem input_sample_static_kept (mode : SensedStatic s n) (kept : static = false) :
    (sample static cyclic levels along s).input n = s.input n := by
  rw [input_sample, sampledLevels_static (by rwa [whole]) mode, if_neg (by simp [kept])]
  rfl

theorem input_sample_cyclic_kept (mode : ¬ SensedStatic s n) (kept : cyclic = false) :
    (sample static cyclic levels along s).input n = s.input n := by
  rw [input_sample, sampledLevels_cyclic (by rwa [whole]) mode, if_neg (by simp [kept])]
  rfl

end Levels

theorem samplesTaken_sample (whole : s.fin.inputs.length = 8) :
    SamplesTaken static cyclic levels along s (sample static cyclic levels along s) := by
  let l := sampledLevels static cyclic levels s
  let x := setSense (sensed static cyclic levels along s) s
  obtain ⟨v, w, eq, moveA, stayA, moveB, stayB⟩ := takeInputs_steps l x
  have inputV : ∀ n, v.input n = (withLevels l x).input n := by
    intro n
    by_cases same : (withLevels l x).input 0 = x.input 0 ∧ (withLevels l x).input 1 = x.input 1
    · rw [stayA same.1 same.2]
    · rw [moveA (Classical.not_and_iff_not_or_not.1 same), input_derivePosition]
  have chain := chain_foldl (step := fun n => InputHanded n (s.input n) ((withLevels l x).input n))
    (f := handInput s.fin.inputs l) (P := fun _ => True) (fun n y _ => inputHanded_handInput s.fin.inputs l n y)
    (fun _ _ _ => trivial) [2, 3, 4, 5, 6, 7] w trivial
  refine ⟨withLevels l x, v, w, l, x.fin.wet, rfl, wetLevel_iff (withLevels l x), ?_, fun n inside y present => ?_,
    fun moves => ?_, stayA, fun moves => ?_, stayB, ?_, fun n _ => (takeInputs_leaves l x).1 n⟩
  · exact (sampleInputs_length ..).trans whole
  · subst present
    exact ⟨sampledLevels_static (by omega), sampledLevels_cyclic (by omega)⟩
  · rw [moveA moves]
    exact positionDerived_derivePosition (withLevels l x)
  · rw [moveB moves, ← inputV 4, ← inputV 3]
    exact demandDerived_deriveDemand v
  · rw [show sample static cyclic levels along s = [2, 3, 4, 5, 6, 7].foldl (handInput s.fin.inputs l) w from eq]
    exact chain

theorem eventFrame_sample (s : State) :
    EventFrame [.meas, .elem, .link] s (sample static cyclic levels along s) := by
  have sensing : EventFrame [.meas, .elem, .link] s (setSense (sensed static cyclic levels along s) s) := by
    simp [EventFrame, Frame, sameBlock, sameSettings, sameTransaction]
  exact sensing.trans (takeInputs_leaves _ _).2

/-- Samples that confirm nothing anew touch FIN alone. -/
theorem sample_quiet (quiet : ∀ n : Nat, n < 8 → (sample static cyclic levels along s).input n = s.input n) :
    (sample static cyclic levels along s).fin.position = s.fin.position ∧
      (sample static cyclic levels along s).cport = s.cport ∧
      EventFrame [.meas, .elem, .sequencer, .blk, .prof, .link, .tripco, .hunt] s
        (sample static cyclic levels along s) := by
  have eq : sample static cyclic levels along s = withLevels (sampledLevels static cyclic levels s)
      (setSense (sensed static cyclic levels along s) s) :=
    takeInputs_quiet fun n inside => ((takeInputs_leaves _ _).1 n).symm.trans (quiet n inside)
  rw [eq]
  simp [withLevels, EventFrame, Frame, sameBlock, sameSettings, sameTransaction]

end Sample

/-! ### The obligation -/

theorem takeSamples_alone {row : SampleRow} {levels : Byte} (apart : s.fin.sense.along ≠ some (row, s.now)) :
    takeSamples row levels s = takeSamplesNow row levels (s.arriveAt (sampleInstant row s)) :=
  if_neg apart

theorem takeSamplesNow_static {cyclic : Bool} {levels : Byte} (also : due s.now s.fin.sense.pulseEndAt = cyclic) :
    takeSamplesNow .static levels s =
      sample true cyclic levels (if cyclic = true then some (.cyclic, s.now) else none) s := by
  have rows : sampledNow .static s = rowsTaken true cyclic := by
    funext row
    cases row
    · rfl
    · exact also
  rw [takeSamplesNow, rows]
  rfl

theorem takeSamplesNow_cyclic {static : Bool} {levels : Byte} (also : reached s.now s.fin.sense.staticAt = static) :
    takeSamplesNow .cyclic levels s =
      sample static true levels (if static = true then some (.static, s.now) else none) s := by
  have rows : sampledNow .cyclic s = rowsTaken static true := by
    funext row
    cases row
    · exact also
    · rfl
  rw [takeSamplesNow, rows]
  rfl

theorem due_iff (now : Ms) (timer : Option Ms) :
    due now timer = true ↔ ∃ at_ : Ms, timer = some at_ ∧ reached now at_ = true := by
  cases timer <;> simp [due]

/-- The row whose samples were taken along gives nothing but the levels (R41). -/
theorem takeSamples_absorbed {row : SampleRow} {levels : Byte} {wet : Bool}
    (along : s.fin.sense.along = some (row, s.now)) (high : wet = true ↔ WetHigh s) : takeSamples row levels s =
      { s with fin := { s.fin with sense := { s.fin.sense with pins := levels, along := none }, wet := wet } } := by
  have level : wetLevel s = wet := by rw [Bool.eq_iff_iff, wetLevel_iff, high]
  rw [takeSamples, if_pos along, ← level]
  rfl

/-- Settles O13: the samples of an instant by the rows that are due, and what they confirm step by step. -/
theorem inputSamplesAreTaken : Obligations.InputSamplesAreTaken := by
  intro s u levels up whole
  refine ⟨fun c row which along wet high => ?_, ?_, ?_⟩
  · rw [← takeSamples_absorbed along high]
    rcases which with ⟨rfl, rfl⟩ | ⟨rfl, rfl⟩ <;> exact awake_eq up
  · rintro cyclic apart rfl also
    have also : due (s.arriveAt s.fin.sense.staticAt).now s.fin.sense.pulseEndAt = cyclic := by
      rw [Bool.eq_iff_iff, due_iff, also]
    have ran : exec (.staticSample levels) s = .next (takeSamples .static levels s) := awake_eq up
    rw [takeSamples_alone apart, sampleInstant, takeSamplesNow_static (s := s.arriveAt s.fin.sense.staticAt) also] at ran
    exact ⟨_, ran, samplesTaken_sample whole, fun n inside mode => input_sample_static whole inside mode rfl,
      fun alone n inside mode => input_sample_cyclic_kept whole inside mode alone, sample_quiet, eventFrame_sample _⟩
  · rintro static apart rfl also
    have also : reached (s.arriveAt (s.fin.sense.pulseEndAt.getD s.now)).now s.fin.sense.staticAt = static := by
      rw [Bool.eq_iff_iff, also]
    have ran : exec (.cyclicSample levels) s = .next (takeSamples .cyclic levels s) := awake_eq up
    rw [takeSamples_alone apart, sampleInstant, takeSamplesNow_cyclic (static := static) also] at ran
    exact ⟨_, ran, samplesTaken_sample whole, fun n inside mode => input_sample_cyclic whole inside mode rfl,
      fun alone n inside mode => input_sample_static_kept whole inside mode alone, sample_quiet, eventFrame_sample _⟩

end Sys2Proof.Claims
end

section
/-! Cycles of MEAS in the words of the statements: how one is lost, and how one completes. -/

namespace Sys2Proof.Claims

open Sys2Proof Sys2Proof.Machine

variable {s t u : State}

/-! ### FRESH and STALE (R12 to R14) -/

theorem failSnapshot_eq (s : State) : failSnapshot s = { s with
    meas := { s.meas with snapState := if s.meas.snapState = .pending then .fail else s.meas.snapState } } := by
  unfold failSnapshot
  split <;> rfl

/-- MEAS has become STALE, and BLK has not taken the SELF record yet. -/
def staleNoted (cause : Nat) (s : State) : State :=
  { s with
    meas := { s.meas with status := .stale, staleSince := s.now, staleLoss := 0 },
    fin := { s.fin with healthy := false },
    cport := s.cport.queue s.image.attnMask (note .stale s.address (half cause) (half s.meas.lossCount) s) }

theorem becomeStale_of_fresh (c : StaleCause) (fresh : s.meas.status = .fresh) :
    becomeStale c s = failSnapshot (placeSelf (staleNoted (staleCauseCode c) s)) := by
  have low : healthyLevel { s with
      meas := { s.meas with status := .stale, staleSince := s.now, staleLoss := 0 } } = false := by
    rw [healthyLevel_eq]
    simp
  rw [becomeStale, if_pos fresh, refreshHealthy, low]
  rfl

theorem becomeStale_of_stale (c : StaleCause) (stale : s.meas.status = .stale) : becomeStale c s = s :=
  if_neg (by simp [stale])

theorem queued_isRun (mask : Nat) (n : Notice) (m : MeasState) (f : FinState) (s : State) :
    State.isRun { s with meas := m, fin := f, cport := s.cport.queue mask n } = s.isRun := by
  simp [State.isRun, queue_settings]

theorem queued_image (mask : Nat) (n : Notice) (m : MeasState) (f : FinState) (s : State) :
    State.image { s with meas := m, fin := f, cport := s.cport.queue mask n } = s.image := by
  simp [State.image, queue_settings]

theorem staleNoted_isRun (cause : Nat) (s : State) : (staleNoted cause s).isRun = s.isRun := queued_isRun ..

theorem selfKey_staleNoted (cause : Nat) (s : State) : selfKey (staleNoted cause s) = selfKey s := by
  rw [selfKey, State.address, staleNoted, queued_image]
  rfl

theorem placeSelf_staleNoted (cause : Nat) (run : s.isRun = true) :
    placeSelf (staleNoted cause s) = placeBlock (selfKey s) .lock none (staleNoted cause s) := by
  rw [placeSelf, staleNoted_isRun, if_pos run, selfKey_staleNoted]

theorem becomesStale_becomeStale (c : StaleCause) (s : State) :
    BecomesStale (staleCauseCode c) s (becomeStale c s) := by
  refine ⟨becomeStale_of_stale c, fun fresh => ⟨_, placeSelf (staleNoted (staleCauseCode c) s), rfl, fun run => ?_,
    fun config => ?_, ?_⟩⟩
  · rw [placeSelf_staleNoted _ run]
    exact putsRecord_placeBlock _ _ none _
  · exact if_neg (by rw [staleNoted_isRun]; simp [config])
  · rw [becomeStale_of_fresh c fresh, failSnapshot_eq]

theorem becomeStale_meas (c : StaleCause) (fresh : s.meas.status = .fresh) : (becomeStale c s).meas = { s.meas with
    status := .stale, staleSince := s.now, staleLoss := 0,
    snapState := if s.meas.snapState = .pending then .fail else s.meas.snapState } := by
  rw [becomeStale_of_fresh c fresh, failSnapshot_eq]
  simp [staleNoted]

theorem becomeStale_status (c : StaleCause) (s : State) : (becomeStale c s).meas.status = .stale := by
  cases status : s.meas.status
  · rw [becomeStale_meas c status]
  · rw [becomeStale_of_stale c status, status]

/-- In RUN the SELF record stands, or the overflow flag for it (R14, R80). -/
theorem becomeStale_stored (c : StaleCause) (run : s.isRun = true) (fresh : s.meas.status = .fresh) :
    hasKey (selfKey s) (becomeStale c s).blk.table = true ∨ (becomeStale c s).blk.overflow = true := by
  rw [becomeStale_of_fresh c fresh, placeSelf_staleNoted _ run]
  simpa using placeBlock_stored (selfKey s) .lock none (staleNoted (staleCauseCode c) s)

/-- MEAS has become FRESH, and BLK has not removed the SELF record yet. -/
def freshNoted (s : State) : State :=
  { s with
    meas := { s.meas with status := .fresh },
    fin := { s.fin with healthy := decide (s.isRun = true ∧ s.sequencer.st ≠ .failed) },
    cport := s.cport.queue s.image.attnMask
      (note .fresh s.address (half s.meas.staleLoss) (half (min (s.now - s.meas.staleSince).toNat 65535)) s) }

theorem becomeFresh_of_stale (stale : s.meas.status = .stale) : becomeFresh s = removeSelf (freshNoted s) := by
  have level : healthyLevel { s with meas := { s.meas with status := .fresh } } =
      decide (s.isRun = true ∧ s.sequencer.st ≠ .failed) := by
    rw [healthyLevel_eq]
    simp [State.isRun]
  rw [becomeFresh, if_pos stale, refreshHealthy, level]
  rfl

theorem becomeFresh_of_fresh (fresh : s.meas.status = .fresh) : becomeFresh s = s := if_neg (by simp [fresh])

theorem freshNoted_isRun (s : State) : (freshNoted s).isRun = s.isRun := queued_isRun ..

theorem selfKey_freshNoted (s : State) : selfKey (freshNoted s) = selfKey s := by
  rw [selfKey, State.address, freshNoted, queued_image]
  rfl

theorem removeSelf_freshNoted (run : s.isRun = true) :
    removeSelf (freshNoted s) = removeBlock (selfKey s) (freshNoted s) := by
  rw [removeSelf, freshNoted_isRun, if_pos run, selfKey_freshNoted]

theorem removeSelf_config (config : s.isRun = false) : removeSelf (freshNoted s) = freshNoted s :=
  if_neg (by rw [freshNoted_isRun]; simp [config])

theorem becomesFresh_becomeFresh (s : State) : BecomesFresh s (becomeFresh s) := by
  refine ⟨becomeFresh_of_fresh, fun stale => ⟨_, rfl, fun run => ?_, fun config => ?_⟩⟩
  · rw [becomeFresh_of_stale stale, removeSelf_freshNoted run]
    exact dropsRecord_removeBlock ..
  · rw [becomeFresh_of_stale stale, removeSelf_config config]
    rfl

theorem becomeFresh_meas (s : State) : (becomeFresh s).meas = { s.meas with status := .fresh } := by
  cases status : s.meas.status
  · rw [becomeFresh_of_fresh status, ← status]
  · rw [becomeFresh_of_stale status]
    simp [freshNoted]

/-! ### A lost cycle (R4) -/

theorem losesCycle_loseCycle (s : State) : LosesCycle s (loseCycle s) := by
  refine ⟨_, rfl, ?_⟩
  rw [loseCycle, failSnapshot_eq]
  simp [MeasState.countLoss]

theorem loseCycle_meas (s : State) : (loseCycle s).meas = { s.meas with
    assembly := .waiting, lossCount := min (s.meas.lossCount + 1) 255,
    staleLoss := if s.meas.status = .stale then min (s.meas.staleLoss + 1) 65535 else s.meas.staleLoss,
    snapState := if s.meas.snapState = .pending then .fail else s.meas.snapState } := by
  rw [loseCycle, failSnapshot_eq]
  simp [MeasState.countLoss]

/-- The MEAS of a lost cycle, the status still as it was (R4). -/
def lostMeas (m : MeasState) : MeasState :=
  { m with
    assembly := .waiting, lossCount := min (m.lossCount + 1) 255,
    staleLoss := if m.status = .stale then min (m.staleLoss + 1) 65535 else m.staleLoss,
    snapState := if m.snapState = .pending then .fail else m.snapState }

theorem third_loss (s : State) : 3 ≤ (loseCycle s).meas.lossCount ↔ 3 ≤ s.meas.lossCount + 1 := by
  rw [loseCycle_meas]
  simp only
  omega

theorem loseCycleInOrder_stale (third : 3 ≤ s.meas.lossCount + 1) :
    loseCycleInOrder s = becomeStale .lostCycles (loseCycle s) :=
  if_pos ((third_loss s).2 third)

theorem loseCycleInOrder_before (few : ¬ 3 ≤ s.meas.lossCount + 1) : loseCycleInOrder s = loseCycle s :=
  if_neg (by rwa [third_loss])

theorem loseCycleInOrder_meas (s : State) : (loseCycleInOrder s).meas =
    if s.meas.status = .fresh ∧ 3 ≤ s.meas.lossCount + 1 then
      { lostMeas s.meas with status := .stale, staleSince := s.now, staleLoss := 0 }
    else lostMeas s.meas := by
  by_cases third : 3 ≤ s.meas.lossCount + 1
  · rw [loseCycleInOrder_stale third]
    cases status : s.meas.status
    · rw [if_pos ⟨rfl, third⟩, becomeStale_meas _ (by rw [loseCycle_meas, status]), loseCycle_meas]
      by_cases asked : s.meas.snapState = .pending <;> simp [lostMeas, asked]
    · rw [if_neg (by simp), becomeStale_of_stale _ (by rw [loseCycle_meas, status]), loseCycle_meas]
      rfl
  · rw [loseCycleInOrder_before third, if_neg (fun h => third h.2), loseCycle_meas]
    rfl

/-- A frame out of order, taken as the first of a new cycle or not (R3, R4). -/
def afterLoss (p : Nat) (x : Sample) (s : State) : State :=
  if p = 0 then takeSample [x] (loseCycleInOrder s) else loseCycleInOrder s

theorem assemble_outOfOrder {p : Nat} {x : Sample} {l : List Sample} (partial_ : s.meas.assembly = .assembling l)
    (order : p ≠ l.length) : assemble p x s = afterLoss p x s := by
  simp [assemble, partial_, order, afterLoss]

theorem afterLoss_meas (p : Nat) (x : Sample) (s : State) : (afterLoss p x s).meas =
    if p = 0 then
      { (loseCycleInOrder s).meas with assembly := .assembling [x], silenceAt := some (after s.now 10) }
    else (loseCycleInOrder s).meas := by
  unfold afterLoss
  split
  · simp [takeSample]
  · rfl

theorem afterLoss_blk (p : Nat) (x : Sample) (s : State) : (afterLoss p x s).blk = (loseCycleInOrder s).blk := by
  unfold afterLoss
  split <;> rfl

theorem eventFrame_afterLoss (p : Nat) (x : Sample) (s : State) : EventFrame [.elem, .link] s (afterLoss p x s) := by
  unfold afterLoss
  split <;> simp [takeSample, EventFrame, Frame, sameBlock, sameSettings, sameTransaction]

theorem loseCycleInOrder_stored (run : s.isRun = true) (fresh : s.meas.status = .fresh)
    (third : 3 ≤ s.meas.lossCount + 1) :
    hasKey (selfKey s) (loseCycleInOrder s).blk.table = true ∨ (loseCycleInOrder s).blk.overflow = true := by
  have h := becomeStale_stored (s := loseCycle s) .lostCycles (by simpa using run) (by rw [loseCycle_meas, fresh])
  rw [loseCycleInOrder_stale third]
  simpa [selfKey] using h

/-- The frame-silence timer has run out, and a partial cycle was lost (R5). -/
def silenced (s : State) : State :=
  let stopped := { s with meas := { s.meas with silenceAt := none } }
  match s.meas.assembly with
  | .waiting => stopped
  | .assembling _ => loseCycle stopped

theorem expireSilence_eq (s : State) : expireSilence s = becomeStale .noFrame (silenced s) := rfl

theorem silenced_waiting (waiting : s.meas.assembly = .waiting) :
    silenced s = { s with meas := { s.meas with silenceAt := none } } := by
  simp [silenced, waiting]

theorem silenced_partial (partial_ : s.meas.assembly ≠ .waiting) :
    silenced s = loseCycle { s with meas := { s.meas with silenceAt := none } } := by
  cases assembly : s.meas.assembly with
  | waiting => exact absurd assembly partial_
  | assembling l => simp [silenced, assembly]

theorem silenced_meas (s : State) : (silenced s).meas =
    if s.meas.assembly = .waiting then { s.meas with silenceAt := none }
    else { lostMeas s.meas with silenceAt := none } := by
  by_cases waiting : s.meas.assembly = .waiting
  · rw [silenced_waiting waiting, if_pos waiting]
  · rw [silenced_partial waiting, if_neg waiting, loseCycle_meas]
    rfl

theorem eventFrame_silenced (s : State) : EventFrame [.elem, .link] s (silenced s) := by
  by_cases waiting : s.meas.assembly = .waiting
  · rw [silenced_waiting waiting]
    simp [EventFrame, Frame, sameBlock, sameSettings, sameTransaction]
  · rw [silenced_partial waiting]
    simp [EventFrame, Frame, sameBlock, sameSettings, sameTransaction]

theorem eventFrame_becomeStale (c : StaleCause) (s : State) : EventFrame [.elem, .link] s (becomeStale c s) := by
  simp [EventFrame, Frame, sameBlock, sameSettings, sameTransaction]

/-- A frame out of order loses the partial cycle (R4). -/
theorem outOfOrder_loses (p : Nat) (x : Sample) (s : State) : ∃ u v : State, LosesCycle s u ∧
    (3 ≤ u.meas.lossCount → BecomesStale 1 u v) ∧ (u.meas.lossCount < 3 → v = u) ∧
    afterLoss p x s = if p = 0 then { v with
        meas := { v.meas with assembly := .assembling [x], silenceAt := some (after s.now 10) } }
      else v := by
  refine ⟨loseCycle s, loseCycleInOrder s, losesCycle_loseCycle s, fun third => ?_, fun few => ?_, ?_⟩
  · rw [loseCycleInOrder_stale ((third_loss s).1 third)]
    exact becomesStale_becomeStale .lostCycles (loseCycle s)
  · exact loseCycleInOrder_before (by rw [← third_loss]; omega)
  · simp [afterLoss, takeSample]

/-- What MEAS comes to where a loss in order is the third in a row while FRESH (R4, R12). -/
theorem afterLoss_stale (p : Nat) (x : Sample) (fresh : s.meas.status = .fresh) (third : 3 ≤ s.meas.lossCount + 1) :
    (afterLoss p x s).meas.status = .stale ∧ (afterLoss p x s).meas.staleSince = s.now ∧
      (afterLoss p x s).meas.staleLoss = 0 := by
  have inOrder := loseCycleInOrder_meas s
  rw [if_pos ⟨fresh, third⟩] at inOrder
  rw [afterLoss_meas, inOrder]
  split <;> exact ⟨rfl, rfl, rfl⟩

/-- What MEAS comes to where the status stays: but for the counts nothing moves (R4). -/
theorem afterLoss_stays (p : Nat) (x : Sample) (stays : ¬ (s.meas.status = .fresh ∧ 3 ≤ s.meas.lossCount + 1)) :
    (afterLoss p x s).meas.status = s.meas.status ∧ (afterLoss p x s).meas.staleSince = s.meas.staleSince ∧
      (afterLoss p x s).meas.staleLoss = (lostMeas s.meas).staleLoss := by
  have inOrder := loseCycleInOrder_meas s
  rw [if_neg stays] at inOrder
  rw [afterLoss_meas, inOrder]
  split <;> exact ⟨rfl, rfl, rfl⟩

/-- What a loss in order does to the rest of MEAS, whatever becomes of the status (R3 to R5, R16). -/
theorem afterLoss_counts (p : Nat) (x : Sample) (s : State) :
    (afterLoss p x s).meas.assembly = (if p = 0 then .assembling [x] else .waiting) ∧
    (afterLoss p x s).meas.silenceAt = (if p = 0 then some (after s.now 10) else s.meas.silenceAt) ∧
    (afterLoss p x s).meas.lossCount = min (s.meas.lossCount + 1) 255 ∧
    (afterLoss p x s).meas.snapState = (if s.meas.snapState = .pending then .fail else s.meas.snapState) ∧
    (afterLoss p x s).meas.snapshot = s.meas.snapshot ∧ (afterLoss p x s).meas.last = s.meas.last ∧
    (afterLoss p x s).meas.cycleTime = s.meas.cycleTime := by
  rw [afterLoss_meas, loseCycleInOrder_meas]
  split <;> split <;> exact ⟨rfl, rfl, rfl, rfl, rfl, rfl, rfl⟩

theorem expireSilence_fresh (fresh : s.meas.status = .fresh) : (expireSilence s).meas = { (silenced s).meas with
    status := .stale, staleSince := s.now, staleLoss := 0,
    snapState := if s.meas.snapState = .pending then .fail else s.meas.snapState } := by
  have status : (silenced s).meas.status = .fresh := by
    rw [silenced_meas]
    split <;> exact fresh
  have snap : (if (silenced s).meas.snapState = .pending then .fail else (silenced s).meas.snapState) =
      if s.meas.snapState = .pending then SnapState.fail else s.meas.snapState := by
    rw [silenced_meas]
    by_cases asked : s.meas.snapState = .pending <;> split <;> simp [lostMeas, asked]
  rw [expireSilence_eq, becomeStale_meas _ status, snap, (eventFrame_silenced s).1.2.2]

theorem expireSilence_stale (stale : s.meas.status = .stale) : (expireSilence s).meas = (silenced s).meas := by
  have status : (silenced s).meas.status = .stale := by
    rw [silenced_meas]
    split <;> exact stale
  rw [expireSilence_eq, becomeStale_of_stale _ status]

/-- What ten silent milliseconds do to MEAS, whatever the status was (R5). -/
theorem expireSilence_counts (s : State) : (expireSilence s).meas.assembly = .waiting ∧
    (expireSilence s).meas.silenceAt = none ∧ (expireSilence s).meas.lossCount =
      (if s.meas.assembly = .waiting then s.meas.lossCount else min (s.meas.lossCount + 1) 255) ∧
    (expireSilence s).meas.last = s.meas.last := by
  have counts : (silenced s).meas.assembly = .waiting ∧ (silenced s).meas.silenceAt = none ∧
      (silenced s).meas.lossCount =
        (if s.meas.assembly = .waiting then s.meas.lossCount else min (s.meas.lossCount + 1) 255) ∧
      (silenced s).meas.last = s.meas.last := by
    rw [silenced_meas]
    split
    next waiting => exact ⟨waiting, rfl, rfl, rfl⟩
    · exact ⟨rfl, rfl, rfl, rfl⟩
  cases status : s.meas.status
  · rw [expireSilence_fresh status]
    exact counts
  · rw [expireSilence_stale status]
    exact counts

/-- Settles O6: a loss in order is the lost cycle and, at the third, STALE; a silence is the lost cycle and STALE. -/
theorem partialCyclesAreLost : Obligations.PartialCyclesAreLost := by
  refine ⟨fun s bytes p x l up read partial_ order => ⟨afterLoss p x s, ?_, ?_⟩,
    fun s at_ up timer => ⟨expireSilence (s.arriveAt at_), ?_, ?_⟩⟩
  · rw [exec_sampleFrame up read, assemble_outOfOrder partial_ order]
  · obtain ⟨assembly, silence, loss, snap, snapshot, last, time⟩ := afterLoss_counts p x s
    refine ⟨assembly, silence, loss, fun asked => by rw [snap, if_pos asked], fun idle => by rw [snap, if_neg idle],
      snapshot, afterLoss_stale p x, fun fresh few => ?_, fun stale => ?_, last, time, outOfOrder_loses p x s,
      fun run fresh third => ?_, eventFrame_afterLoss p x s⟩
    · rw [(afterLoss_stays p x (by omega)).1, fresh]
    · obtain ⟨status, since, count⟩ := afterLoss_stays p x (s := s) (by simp [stale])
      exact ⟨status.trans stale, since, count.trans (if_pos stale)⟩
    · rw [afterLoss_blk]
      exact loseCycleInOrder_stored run fresh third
  · simp [exec, execFrameSilenceExpiry, awake, up, timer]
  · obtain ⟨assembly, silence, loss, last⟩ := expireSilence_counts (s.arriveAt at_)
    refine ⟨assembly, silence, becomeStale_status .., loss, fun fresh => ?_, fun stale => ?_,
      ⟨_, silenced (s.arriveAt at_), rfl, silenced_waiting (s := s.arriveAt at_), fun partial_ => ?_,
        becomesStale_becomeStale .noFrame _⟩,
      last, (eventFrame_silenced _).trans (eventFrame_becomeStale ..)⟩
    · refine ⟨?_, ?_, ?_, fun run => ?_⟩
      · rw [expireSilence_fresh (s := s.arriveAt at_) fresh]
      · rw [expireSilence_fresh (s := s.arriveAt at_) fresh]
      · rw [expireSilence_fresh (s := s.arriveAt at_) fresh]
        rfl
      · have frame := eventFrame_silenced (s.arriveAt at_)
        have h := becomeStale_stored (s := silenced (s.arriveAt at_)) .noFrame (frame.1.isRun.trans run) (by
          rw [silenced_meas]
          split <;> exact fresh)
        rwa [selfKey, frame.1.address] at h
    · rw [expireSilence_stale (s := s.arriveAt at_) stale, silenced_meas]
      split <;> rfl
    · rw [silenced_partial (s := s.arriveAt at_) partial_]
      exact losesCycle_loseCycle _

end Sys2Proof.Claims
end

section
/-! The completion of a cycle in the words of the statements: FRESH, the element step, HUNT and the snapshot. -/

namespace Sys2Proof.Claims

open Sys2Proof Sys2Proof.Machine

variable {s t u : State}

/-! ### The element step (R20, R37 to R39) -/

theorem requestTrip_eq (c : Option ProtCause) (s : State) : requestTrip c s =
    { s with handovers := s.handovers ++ c.toList.map Instr.tripRequest } := by
  cases c with
  | none => simp [requestTrip]
  | some c => rfl

/-- ELEM has stepped, with its request and its alarm, and its indications are not handed on yet (R20, R37, R38). -/
def stepped (s : State) : State :=
  { s with
    elem := nextElem s,
    handovers := s.handovers ++ (elemCause s).toList.map Instr.tripRequest,
    cport := if sefAlarms s = true then
        s.cport.queue s.image.attnMask (note .sefAlarm s.address (half s.meas.last.is) (half (sefCountLimit s)) s)
      else s.cport }

theorem elemStep_eq (s : State) : elemStep s = huntStep (profRest (tripcoReview (stepped s))) := by
  rw [elemStep, handIndications, requestTrip_eq, alarmSef, stepped]
  split <;> rfl

theorem elementSteps_elemStep (s : State) : ElementSteps s (elemStep s) :=
  ⟨stepped s, _, rfl, restTaken_profRest _, elemStep_eq s⟩

theorem elemStep_elem (s : State) : (elemStep s).elem = nextElem s := by
  rw [elemStep_eq]
  simp [stepped]

/-! ### SEQ's counts and a change of the table -/

theorem sameCounts_trans (h : sameCounts s t) (h' : sameCounts t u) : sameCounts s u := by
  obtain ⟨shot, manual, final, cause⟩ := h
  obtain ⟨shot', manual', final', cause'⟩ := h'
  exact ⟨shot'.trans shot, manual'.trans manual, final'.trans final, cause'.trans cause⟩

theorem sameCounts_of_sequencer (h : t.sequencer = s.sequencer) : sameCounts s t := by
  simp [sameCounts, h]

theorem sameCounts_seqClosing (s : State) : sameCounts s (seqClosing s) := by
  obtain ⟨-, closing_, -⟩ := (transition_closing s).leaves
  by_cases position : s.fin.position = .closed
  · rw [seqClosing_of_closed position]
    exact sameCounts_trans closing_ (transition_seqClosed_closing s).leaves.2.1
  · rwa [seqClosing_of_not_closed position]

theorem sameCounts_seqBlockChange (s : State) : sameCounts s (seqBlockChange s) := by
  by_cases st : s.sequencer.st = .deadHold
  · have judged : sameCounts s (judgeBlocks (fun t => t) s) := by
      by_cases locks : tableLocks s
      · rw [judgeBlocks_of_locks locks]
        exact (transition_seqMove ..).leaves.2.1
      · by_cases empty : s.blk.table = []
        · rw [judgeBlocks_of_empty locks empty]
          exact sameCounts_seqClosing s
        · rw [judgeBlocks_of_hold locks empty]
          exact sameCounts_of_sequencer rfl
    rw [seqBlockChange, if_pos st]
    exact sameCounts_trans judged (sameCounts_of_sequencer (restTaken_profRest _).frame.1)
  · rw [seqBlockChange, if_neg st]
    exact sameCounts_of_sequencer rfl

/-! ### FRESH again (R13) -/

/-- What the removal of a record leaves of SEQ's counts and of PROF. -/
theorem removeBlock_leaves (k : BlockKey) (s : State) : sameCounts s (removeBlock k s) ∧
    (noRelaxDue s ∨ s.sequencer.st ≠ .deadHold → (removeBlock k s).prof = s.prof) := by
  unfold removeBlock
  split
  · exact ⟨sameCounts_seqBlockChange { s with blk := { s.blk with table := removeRecord k s.blk.table } },
      (seqBlockChange_leaves { s with blk := { s.blk with table := removeRecord k s.blk.table } }).2.2.1⟩
  · exact ⟨sameCounts_of_sequencer rfl, fun _ => rfl⟩

theorem becomeFresh_leaves (s : State) : sameCounts s (becomeFresh s) ∧
    (noRelaxDue s ∨ s.sequencer.st ≠ .deadHold → (becomeFresh s).prof = s.prof) := by
  cases status : s.meas.status
  · rw [becomeFresh_of_fresh status]
    exact ⟨sameCounts_of_sequencer rfl, fun _ => rfl⟩
  · rw [becomeFresh_of_stale status]
    cases run : s.isRun
    · rw [removeSelf_config run]
      exact ⟨sameCounts_of_sequencer rfl, fun _ => rfl⟩
    · rw [removeSelf_freshNoted run]
      exact removeBlock_leaves (selfKey s) (freshNoted s)

theorem becomeFresh_config (config : s.isRun = false) : (becomeFresh s).handovers = s.handovers := by
  cases status : s.meas.status
  · rw [becomeFresh_of_fresh status]
  · rw [becomeFresh_of_stale status, removeSelf_config config]
    rfl

/-! ### The snapshot (R16, R17) -/

theorem fillSnapshot_idle (c : Option ProtCause) (idle : s.meas.snapState ≠ .pending) : fillSnapshot c s = s :=
  if_neg idle

theorem fillSnapshot_asked (c : Option ProtCause) (asked : s.meas.snapState = .pending) : fillSnapshot c s =
    { s with
      meas := { s.meas with snapState := .valid, snapshot := some (snapshotRecord (shownSequencer c s) s) },
      freeCount := s.freeCount + 1 } :=
  if_pos asked

/-- A snapshot shows SEQ before or after it takes the trip request of its cycle (R17; log 5). -/
theorem shownSequencer_spec (c : Option ProtCause) (up : s.resetHeld = false) : shownSequencer c s = s.sequencer ∨
    ∃ (cause : ProtCause) (z : State), c = some cause ∧
      exec (.tripRequest cause) { s with handovers := .tripRequest cause :: s.handovers } = .next z ∧
      shownSequencer c s = z.sequencer := by
  cases c with
  | none => exact .inl rfl
  | some cause =>
    unfold shownSequencer
    simp only
    split
    · refine .inr ⟨cause, seqTripRequest cause s, rfl, ?_, rfl⟩
      rw [exec_tripRequest (s := { s with handovers := .tripRequest cause :: s.handovers }) up, takeHandOver]
      simp
    · exact .inl rfl

/-! ### The completion (R11) -/

/-- The results of a cycle that ended with position 31 are stored (R11). -/
def completed (l : List Sample) (s : State) : State :=
  { s with
    meas := { s.meas with
      assembly := .waiting, silenceAt := some (after s.now 10),
      last := cycleResult s.v0Min s.p0Min l, cycleTime := s.now,
      cycleSerial := s.meas.cycleSerial + 1, lossCount := 0 } }

/-- The cycle in ELEM and HUNT, in RUN (R11). -/
def cycleHanded (v : State) : State := if v.isRun then huntCycle (elemStep v) else v

/-- The cause of a cycle's trip request, in RUN (R38). -/
def cycleCause (v : State) : Option ProtCause := if v.isRun then elemCause v else none

theorem handCycle_eq (v : State) : handCycle v = (cycleCause v, cycleHanded v) := by
  unfold handCycle cycleCause cycleHanded
  split <;> rfl

theorem takeLastSample_eq (l : List Sample) (s : State) : takeLastSample l s =
    fillSnapshot (cycleCause (becomeFresh (completed l s))) (cycleHanded (becomeFresh (completed l s))) := by
  rw [takeLastSample, completeCycle, handCycle_eq]
  rfl

theorem cycleHanded_meas (v : State) : (cycleHanded v).meas = v.meas := by
  unfold cycleHanded
  split <;> simp

theorem eventFrame_cycleHanded (v : State) : EventFrame [.link] v (cycleHanded v) := by
  unfold cycleHanded
  split <;> simp [EventFrame, Frame, sameBlock, sameSettings, sameTransaction]

theorem fillSnapshot_meas (c : Option ProtCause) (s : State) : (fillSnapshot c s).meas.last = s.meas.last ∧
    (fillSnapshot c s).meas.cycleTime = s.meas.cycleTime ∧ (fillSnapshot c s).meas.lossCount = s.meas.lossCount ∧
    (fillSnapshot c s).meas.status = s.meas.status ∧ (fillSnapshot c s).meas.assembly = s.meas.assembly ∧
    (fillSnapshot c s).meas.silenceAt = s.meas.silenceAt ∧
    (fillSnapshot c s).meas.snapState = (if s.meas.snapState = .pending then .valid else s.meas.snapState) ∧
    (s.meas.snapState ≠ .pending → (fillSnapshot c s).meas.snapshot = s.meas.snapshot) := by
  by_cases asked : s.meas.snapState = .pending
  · rw [fillSnapshot_asked c asked, if_pos asked]
    exact ⟨rfl, rfl, rfl, rfl, rfl, rfl, rfl, fun idle => absurd asked idle⟩
  · rw [fillSnapshot_idle c asked, if_neg asked]
    exact ⟨rfl, rfl, rfl, rfl, rfl, rfl, rfl, fun _ => rfl⟩

/-- Settles O7: the steps of a completion, each from the state the one before left. -/
theorem positionThirtyOneCompletesTheCycle : Obligations.PositionThirtyOneCompletesTheCycle := by
  intro s bytes x l up read partial_ whole
  let c := completed (l ++ [x]) s
  let v := becomeFresh c
  let w := cycleHanded v
  let t := fillSnapshot (cycleCause v) w
  have ran : exec (.sampleFrame bytes 0) s = .next t := by
    rw [exec_sampleFrame up read]
    simp only [assemble, partial_, whole]
    exact congrArg _ (takeLastSample_eq (l ++ [x]) s)
  have run : v.isRun = s.isRun := by simp [v, c, completed, State.isRun]
  have meas : w.meas = { c.meas with status := .fresh } := (cycleHanded_meas v).trans (becomeFresh_meas c)
  have snap : w.meas.snapState = s.meas.snapState := by
    rw [meas]
    rfl
  obtain ⟨last, time, loss, status, assembly, silence, snapState, snapshot⟩ := fillSnapshot_meas (cycleCause v) w
  rw [meas] at last time loss status assembly silence snapState snapshot
  have frame : EventFrame [.link] s t := by
    have stored : EventFrame [.link] s c := by
      simp [c, completed, EventFrame, Frame, sameBlock, sameSettings, sameTransaction]
    have fresh : EventFrame [.link] c v := by
      simp [v, EventFrame, Frame, sameBlock, sameSettings, sameTransaction]
    have filled : EventFrame [.link] w t := by
      simp [t, EventFrame, Frame, sameBlock, sameSettings, sameTransaction]
    exact ((stored.trans fresh).trans (eventFrame_cycleHanded v)).trans filled
  obtain ⟨counts, prof⟩ := becomeFresh_leaves c
  have tripco : v.tripco.records = s.tripco.records := by simp [v, c, completed]
  have image : v.image = s.image := by simp [v, c, completed, State.image]
  have elem : v.elem = s.elem := by simp [v, c, completed]
  have hunt : v.hunt = s.hunt := by simp [v, c, completed]
  refine ⟨t, c, v, w, ran, rfl, becomesFresh_becomeFresh c, fun config => ?_, fun on => ?_, fun idle => ?_,
    fun asked => ?_, counts.1, elem, tripco, image, prof, fun on => ?_, last, time, loss, status, assembly, silence,
    snapState, snapshot, fun config => ?_, frame⟩
  · exact if_neg (by simp [run, config])
  · exact ⟨elemStep v, elementSteps_elemStep v, if_pos (run.trans on)⟩
  · exact fillSnapshot_idle _ (by rwa [snap])
  · refine ⟨shownSequencer (cycleCause v) w, fillSnapshot_asked _ (by rwa [snap]), ?_⟩
    have held : w.resetHeld = false := by
      obtain ⟨⟨-, ⟨-, -, -, kept, -⟩, -⟩, -⟩ := eventFrame_cycleHanded v
      exact kept.trans (by simpa [v, c, completed] using up)
    rcases shownSequencer_spec (cycleCause v) held with same | ⟨cause, z, issued, taken, shown⟩
    · exact .inl same
    · have on : v.isRun = true ∧ elemCause v = some cause := by
        simpa [cycleCause] using issued
      exact .inr ⟨cause, z, run.symm.trans on.1, on.2, taken, shown⟩
  · have handed : w = huntCycle (elemStep v) := if_pos (run.trans on)
    simp [t, handed, elemStep_elem]
  · have handed : w = v := if_neg (by simp [run, config])
    refine ⟨?_, ?_, ?_⟩
    · simp [t, handed, elem]
    · simp [t, handed, hunt]
    · have kept : v.handovers = c.handovers := becomeFresh_config (by simpa [c, completed, State.isRun] using config)
      simp [t, handed, kept, c, completed]

end Sys2Proof.Claims
end

section
/-! LINK's receiver, slots and transmitter in the words of the statements. -/

namespace Sys2Proof.Claims

open Sys2Proof Sys2Proof.Machine

variable {s t u : State}

/-! ### The receiver (R118) -/

/-- LINK's receiver in a state, and nothing else changed. -/
def withRx (x : RxState) (s : State) : State := { s with link := { s.link with rx := x } }

section Receiver

variable {b : Byte} {stopBit : Bool}

theorem exec_rxdByteCompleted (up : s.resetHeld = false) (listening : s.link.key = false) :
    exec (.rxdByteCompleted b stopBit) s = .next (takeRxByte b stopBit s) := by
  simp [exec, execRxdByteCompleted, awake, up, listening]

theorem takeRxByte_goes {x : RxState} (taken : s.link.rx.take b stopBit = (x, none)) :
    takeRxByte b stopBit s = withRx x s := by
  rw [takeRxByte, taken]
  rfl

theorem takeRxByte_completes {x : RxState} {l : List Byte} (taken : s.link.rx.take b stopBit = (x, some l)) :
    takeRxByte b stopBit s = { withRx x s with handovers := s.handovers ++ [.linkFrameReceived l] } := by
  rw [takeRxByte, taken]
  rfl

theorem take_badStop (x : RxState) : x.take b false = (.hunt, none) := by
  cases x <;> rfl

end Receiver

/-- Settles O27: the receive states one by one. -/
theorem receiverTakesBytes : Obligations.ReceiverTakesBytes := by
  intro b stopBit s set up isSet
  have set_eq : ∀ x : RxState, set x = withRx x s := isSet
  simp only [set_eq]
  refine ⟨fun sending => ?_, fun listening bad => ?_, fun listening good => ⟨fun rx => ?_, fun rx => ?_, fun rx => ?_,
    fun n l rx => ⟨fun more => ?_, fun last => ?_⟩⟩, ?_⟩
  · simp [exec, execRxdByteCompleted, awake, sending]
  · rw [exec_rxdByteCompleted up listening, bad, takeRxByte_goes (take_badStop _)]
  · rw [exec_rxdByteCompleted up listening, takeRxByte_goes (by rw [rx, RxState.take, good])]
    simp
  · rw [exec_rxdByteCompleted up listening, takeRxByte_goes (by rw [rx, RxState.take, good])]
    simp
  · rw [exec_rxdByteCompleted up listening, takeRxByte_goes (by rw [rx, RxState.take, good])]
    simp
  · rw [exec_rxdByteCompleted up listening, takeRxByte_goes (by rw [rx, RxState.take, good, if_neg (by simp), if_neg (by omega)])]
  · rw [exec_rxdByteCompleted up listening, takeRxByte_completes (by rw [rx, RxState.take, good, if_neg (by simp), if_pos last])]
  · exact awake_eq up

/-! ### The slots (R116, R127, R128, R130, R132) -/

theorem startTransmitter_eq (s : State) : startTransmitter s = { s with link := wakened s.link s.now } := by
  unfold startTransmitter wakened
  split <;> rfl

theorem placeBeacon_eq (s : State) : placeBeacon s = { s with
    link := wakened { s.link with
      slots := { s.link.slots with beacon := true },
      beaconAt := some (after s.now (s.image.beaconInterval * 1000)) } s.now } := by
  rw [placeBeacon, startTransmitter_eq]

theorem exec_framePlacement {p : Placement} (up : s.resetHeld = false) :
    exec (.framePlacement p) s = .next (takePlacement p (takeHandOver (.framePlacement p) s)) :=
  awake_eq (f := fun s => takePlacement p (takeHandOver (.framePlacement p) s)) up

/-- Settles O31: each placement fills its slot and wakes an idle transmitter. -/
theorem placementsFillTheSlots : Obligations.PlacementsFillTheSlots := by
  rintro p s _ up rfl
  refine ⟨fun config => ?_, ?_, ?_, ?_⟩
  · rw [exec_framePlacement up]
    exact congrArg _ (if_neg (by simpa [State.isRun] using config))
  · rintro f rfl run
    rw [exec_framePlacement up, takePlacement, if_pos (by exact run)]
    exact congrArg _ (startTransmitter_eq _)
  · rintro rfl run
    rw [exec_framePlacement up, takePlacement, if_pos (by exact run)]
    exact congrArg _ (placeBeacon_eq _)
  · rintro at_ _ timer rfl
    have ran : exec .beaconTimerExpiry s = .next (placeBeacon (s.arriveAt at_)) := by
      simp [exec, execBeaconTimerExpiry, awake, up, timer]
    rw [ran, placeBeacon_eq]
    rfl

/-- Settles O32: the slots in the order of their priority. -/
theorem slotsFollowPriority : Obligations.SlotsFollowPriority := by
  intro x
  refine ⟨fun _ => rfl, fun _ => rfl, fun _ => rfl, rfl, fun _ => rfl, fun _ => rfl, fun _ => rfl, fun _ => rfl, ?_⟩
  simp +contextual [Slots.takeFirst, RestraintMsg.frame]

/-! ### The transmitter (R128 to R131) -/

theorem txExpiry_arrives {st : TxState} {at_ : Ms} {f : State → State} (state : s.link.tx = st)
    (timer : s.link.txTimer = some at_) : txExpiry st f s = f (s.arriveAt at_) := by
  simp [txExpiry, state, timer]

theorem enterBackoff_waits (draws : (lfsrNext s.link.lfsr).toNat % 8 ≠ 0) : enterBackoff s = { s with
    link := { s.link with
      lfsr := lfsrNext s.link.lfsr, tx := .backoff,
      txTimer := some (after s.now (4 * ((lfsrNext s.link.lfsr).toNat % 8))) } } :=
  if_neg draws

theorem enterBackoff_at_once (draws : (lfsrNext s.link.lfsr).toNat % 8 = 0) :
    enterBackoff s = endBackoff { s with link := { s.link with lfsr := lfsrNext s.link.lfsr } } :=
  if_pos draws

theorem endBackoff_busy (busy : s.link.cd = true) :
    endBackoff s = { s with link := { s.link with tx := .defer, txTimer := none } } := by
  rw [endBackoff, if_pos busy, enterDefer, if_pos busy]
  rfl

theorem endBackoff_idle {p : Placement} {rest : Slots} (idle : s.link.cd = false)
    (first : s.link.slots.takeFirst = some (p, rest)) : endBackoff s = keyUp p rest s := by
  rw [endBackoff, if_neg (by simp [idle]), first]

theorem endBackoff_empty (idle : s.link.cd = false) (none_ : s.link.slots.takeFirst = none) :
    endBackoff s = { s with link := { s.link with tx := .idle, txTimer := none } } := by
  rw [endBackoff, if_neg (by simp [idle]), none_]
  rfl

theorem keyUp_from (p : Placement) (rest : Slots) (st : TxState) (timer : Option Ms) (s : State) :
    keyUp p rest { s with link := { s.link with tx := st, txTimer := timer } } = keyUp p rest s := rfl

/-- The end of a backoff does not read what the transmitter was in before. -/
theorem endBackoff_from (st : TxState) (timer : Option Ms) (s : State) :
    endBackoff { s with link := { s.link with tx := st, txTimer := timer } } = endBackoff s := by
  let x : State := { s with link := { s.link with tx := st, txTimer := timer } }
  cases cd : s.link.cd with
  | true => rw [endBackoff_busy cd, endBackoff_busy (s := x) cd]
  | false =>
    cases first : s.link.slots.takeFirst with
    | none => rw [endBackoff_empty cd first, endBackoff_empty (s := x) cd first]
    | some taken => rw [endBackoff_idle cd first, endBackoff_idle (s := x) cd first, keyUp_from]

theorem arriveAt_self (s : State) : s.arriveAt s.now = s := by
  simp [State.arriveAt, reached]

theorem keyedUp_keyUp (p : Placement) (rest : Slots) (s : State) : KeyedUp p rest s (keyUp p rest s) := by
  have beacon : p = .beaconRequest → placementBody p s = .beacon
      { ownDemand := s.prof.ownDemand, effective := s.prof.effective, st := s.sequencer.st, pos := s.fin.position,
        measFresh := decide (s.meas.status = .fresh), phase := s.hunt.phase, interval := s.image.beaconInterval } := by
    rintro rfl
    simp [placementBody, beaconNow, beq_decide]
  have owned : ∀ o : OwnedFrame, p = .owned o → placementBody p s = .owned o := by
    rintro o rfl
    rfl
  unfold keyUp
  by_cases zero : s.image.keyupTime = 0
  · rw [if_pos zero]
    exact ⟨rfl, rfl, rfl, fixFrame p s, rfl, rfl, owned, beacon, rfl, fun _ => ⟨rfl, rfl, rfl⟩,
      fun waits => absurd zero waits⟩
  · rw [if_neg zero]
    exact ⟨rfl, rfl, rfl, fixFrame p s, rfl, rfl, owned, beacon, rfl, fun none_ => absurd none_ zero,
      fun _ => ⟨rfl, rfl, rfl⟩⟩

theorem keyUp_leaves (p : Placement) (rest : Slots) (s : State) : (keyUp p rest s).link.lfsr = s.link.lfsr ∧
    sameStation s (keyUp p rest s) ∧ LinkFrame s (keyUp p rest s) := by
  unfold keyUp
  simp only
  split <;> simp [enterSending, sameStation, LinkFrame, EventFrame, Frame, sameBlock, sameSettings, sameTransaction]

/-- Settles O33: the attempt state by state. -/
theorem transmitterMakesAnAttempt : Obligations.TransmitterMakesAnAttempt := by
  rintro s _ at_ _ up timer rfl rfl
  have expires : ∀ (st : TxState) (f : State → State), s.link.tx = st →
      awake (txExpiry st f) s = .next (f (s.arriveAt at_)) := fun st f state => by
    rw [awake_eq up, txExpiry_arrives state timer]
  refine ⟨fun tx draws => ?_, fun tx draws => ?_, fun tx busy => ?_, fun p rest tx idle first => ?_, fun tx => ?_⟩
  · exact (expires .defer enterBackoff tx).trans (congrArg _ (enterBackoff_waits (s := s.arriveAt at_) draws))
  · refine ⟨_, (expires .defer enterBackoff tx).trans
      (congrArg _ (enterBackoff_at_once (s := s.arriveAt at_) draws)), ?_⟩
    let drawn : State := { s.arriveAt at_ with link := { s.link with lfsr := lfsrNext s.link.lfsr } }
    let drawing : State := { drawn with link := { drawn.link with tx := .backoff, txTimer := some drawn.now } }
    have ran : exec .backoffExpiry drawing = .next (endBackoff (drawing.arriveAt drawing.now)) :=
      (awake_eq (s := drawing) up).trans (congrArg _ (txExpiry_arrives rfl rfl))
    rw [arriveAt_self, endBackoff_from] at ran
    exact ran
  · exact (expires .backoff endBackoff tx).trans (congrArg _ (endBackoff_busy (s := s.arriveAt at_) busy))
  · obtain ⟨lfsr, station, frame⟩ := keyUp_leaves p rest (s.arriveAt at_)
    exact ⟨_, (expires .backoff endBackoff tx).trans (congrArg _ (endBackoff_idle (s := s.arriveAt at_) idle first)),
      keyedUp_keyUp p rest _, lfsr, station, frame⟩
  · exact expires .keyup enterSending tx

/-- Settles O34: carrier detect outside and in DEFER, and the end of a send. -/
theorem carrierDetectAndTheEndOfASend : Obligations.CarrierDetectAndTheEndOfASend := by
  refine ⟨fun busy s up => ?_, fun s up => ⟨fun f tx sends => ?_, fun tx => ?_, ?_⟩⟩
  · have ran : exec (.carrierDetectChange busy) s = .next (takeCarrier busy s) := awake_eq up
    rw [ran, takeCarrier]
    refine ⟨fun same => ?_, fun changes tx => ?_, fun changes tx => ?_⟩
    · simp [same]
    · simp [changes, tx]
    · simp [changes, tx, enterDefer, txEnter]
  · simp [exec, execSendComplete, awake, up, tx, finishSending, sends, nextSol]
  · simp [exec, execSendComplete, awake, tx]
  · rintro at_ _ tx timer rfl
    have ran : exec .keydownExpiry s = .next (keyDown (s.arriveAt at_)) :=
      (awake_eq up).trans (congrArg _ (txExpiry_arrives tx timer))
    rw [ran, keyDown]
    refine ⟨fun empty => ?_, fun waiting => ?_⟩
    · simp [Slots.occupied, empty, txEnter]
    · simp [Slots.occupied, waiting, enterDefer, txEnter]
      rfl

end Sys2Proof.Claims
end

section
/-! The checks of a frame, the neighbour entries and their silence in the words of the statements. -/

namespace Sys2Proof.Claims

open Sys2Proof Sys2Proof.Machine

variable {s t u v w : State}

/-! ### Frames that fail a check (R119 to R121) -/

theorem goodFrame_iff (f : RawFrame) (s : State) :
    (f.crcGood s.image.feederCode && f.source.isAddress) = true ↔ goodFrame f s := by
  rw [Bool.and_eq_true, isAddress_iff]
  rfl

theorem isDuplicate_iff (f : RawFrame) (s : State) : isDuplicate f s = true ↔ duplicates f s := by
  simp [isDuplicate, duplicates, Option.bind_eq_some_iff]

theorem exec_linkFrameReceived {bytes : List Byte} (up : s.resetHeld = false) :
    exec (.linkFrameReceived bytes) s = .next (receiveFrame bytes (takeHandOver (.linkFrameReceived bytes) s)) :=
  awake_eq (f := fun s => receiveFrame bytes (takeHandOver (.linkFrameReceived bytes) s)) up

theorem receiveFrame_of_split {bytes : List Byte} {f : RawFrame} (split_ : splitFrame bytes = some f) :
    receiveFrame bytes s = checkFrame f s := by
  rw [receiveFrame, split_]

theorem checkFrame_bad {f : RawFrame} (bad : ¬ goodFrame f s) : checkFrame f s = s :=
  if_neg (by rwa [goodFrame_iff])

theorem checkFrame_own {f : RawFrame} (good : goodFrame f s) (own : f.source = s.address) :
    checkFrame f s = takeOwnAddress f s := by
  rw [checkFrame, if_pos ((goodFrame_iff f s).2 good), if_pos own]

theorem checkFrame_foreign {f : RawFrame} (good : goodFrame f s) (foreign : f.source ≠ s.address) :
    checkFrame f s = takeForeign f s := by
  rw [checkFrame, if_pos ((goodFrame_iff f s).2 good), if_neg foreign]

theorem takeForeign_refused {f : RawFrame}
    (bad : f.body = none ∨ f.sol.toNat < 1 ∨ 63 < f.sol.toNat ∨ duplicates f s) : takeForeign f s = s := by
  unfold takeForeign
  split
  next body known =>
    refine if_neg fun ⟨lo, hi, fresh⟩ => ?_
    rcases bad with none_ | low | high | same
    · simp [none_] at known
    · omega
    · omega
    · rw [(isDuplicate_iff f s).2 same] at fresh
      exact absurd fresh (by decide)
  · rfl

theorem takeForeign_accepted {f : RawFrame} {body : FrameBody} (known : f.body = some body) (lo : 1 ≤ f.sol.toNat)
    (hi : f.sol.toNat ≤ 63) (fresh : ¬ duplicates f s) : takeForeign f s = acceptFrame f body s := by
  rw [takeForeign, known]
  exact if_pos ⟨lo, hi, by rwa [← Bool.not_eq_true, isDuplicate_iff]⟩

/-- Settles O29: the checks in their order, the clash of addresses the one that leaves a notice. -/
theorem linkFramesAreDiscarded : Obligations.LinkFramesAreDiscarded := by
  rintro bytes s _ up rfl
  let u := takeHandOver (.linkFrameReceived bytes) s
  refine ⟨fun broken => ?_, fun f read => ?_⟩
  · rw [exec_linkFrameReceived up, receiveFrame, broken]
    rfl
  · have ran : exec (.linkFrameReceived bytes) s = .next (checkFrame f u) := by
      rw [exec_linkFrameReceived up, receiveFrame_of_split read]
    refine ⟨fun bad => ?_, fun good foreign bad => ?_, fun good own echo => ?_, fun good own clash => ⟨_, ran, ?_⟩⟩
    · rw [ran, checkFrame_bad (s := u) bad]
      rfl
    · rw [ran, checkFrame_foreign (s := u) good foreign, takeForeign_refused (s := u) bad]
      rfl
    · rw [ran, checkFrame_own (s := u) good own, takeOwnAddress, if_pos (by exact echo)]
      rfl
    · rw [checkFrame_own (s := u) good own, takeOwnAddress, if_neg (by exact clash)]
      refine ⟨rfl, rfl, ?_⟩
      simp [EventFrame, Frame, sameBlock, sameSettings, sameTransaction, u]

/-! ### What PROF makes of a change that raises nothing (R101 to R106, R110) -/

theorem settle_demands (port field peer : Profile) (s : State) :
    ∃ (effective : Profile) (relax : RelaxState) (relaxAt : Option Ms), (settle port field peer s).prof =
      { s.prof.demand port field peer with effective := effective, relax := relax, relaxAt := relaxAt } := by
  have target : ∀ x : State, ∃ (effective : Profile) (relax : RelaxState) (relaxAt : Option Ms),
      (takeTarget x).prof = { x.prof with effective := effective, relax := relax, relaxAt := relaxAt } := by
    intro x
    obtain ⟨e, r, a, eq, -⟩ := Safety.takeTarget_follows x
    exact ⟨e, r, a, eq⟩
  simp only [settle]
  split
  · simp only [askIfChanged_frame]
    split
    · exact ⟨_, _, _, rfl⟩
    · exact target _
  · split
    · exact ⟨_, _, _, rfl⟩
    · obtain ⟨e, r, a, eq, -⟩ := Safety.followTarget_follows { s with prof := s.prof.demand port field peer }
      exact ⟨e, r, a, eq⟩

theorem settle_peer (port field peer : Profile) (s : State) : (settle port field peer s).prof.peer = peer := by
  obtain ⟨_, _, _, eq⟩ := settle_demands port field peer s
  rw [eq]
  rfl

/-- A state of PROF whose demands are as R101 and R104 give. -/
def Combined (p : ProfState) : Prop :=
  p.ownDemand = profileMax p.port p.field ∧ p.target = profileMax p.ownDemand p.peer

theorem combined_of_profileInv (inv : Safety.ProfileInv s) : Combined s.prof :=
  ⟨(Safety.isLarger_iff ..).1 inv.ownDemand, (Safety.isLarger_iff ..).1 inv.target⟩

/-- The demands PROF holds already change nothing. -/
theorem settle_same (combined : Combined s.prof) : settle s.prof.port s.prof.field s.prof.peer s = s := by
  obtain ⟨own, target⟩ := combined
  have prof : s.prof.demand s.prof.port s.prof.field s.prof.peer = s.prof := by
    rw [ProfState.demand, ← own, ← target]
  simp only [settle, prof]
  simp [askIfChanged]

/-- In RUN a target that does not rise above the effective profile leaves the effective profile, SEQ and the notices. -/
theorem takeTarget_lowered (low : profileCode s.prof.target ≤ profileCode s.prof.effective) :
    takeTarget s = { s with prof := (takeTarget s).prof } ∧ (takeTarget s).prof.effective = s.prof.effective := by
  unfold takeTarget
  rw [if_neg (by omega)]
  split <;> exact ⟨rfl, rfl⟩

theorem settle_lowered {port field peer : Profile} (run : s.isRun = true)
    (own : profileMax port field = s.prof.ownDemand)
    (low : profileCode (profileMax (profileMax port field) peer) ≤ profileCode s.prof.effective) :
    settle port field peer s = { s with prof := (settle port field peer s).prof } ∧
      (settle port field peer s).prof.effective = s.prof.effective := by
  let x : State := { s with prof := s.prof.demand port field peer }
  have moved : ∃ p : ProfState, (if x.prof.target = s.prof.target then x else takeTarget x) = { s with prof := p } ∧
      p.ownDemand = s.prof.ownDemand ∧ p.effective = s.prof.effective := by
    split
    · exact ⟨x.prof, rfl, own, rfl⟩
    · obtain ⟨eq, effective⟩ := takeTarget_lowered (s := x) low
      exact ⟨(takeTarget x).prof, eq, (takeTarget_ownDemand x).trans own, effective⟩
  obtain ⟨p, eq, sameOwn, sameEffective⟩ := moved
  have settled : settle port field peer s = { s with prof := p } := by
    rw [settle]
    simp only [run, if_true]
    rw [show (if (s.prof.demand port field peer).target = s.prof.target then
        { s with prof := s.prof.demand port field peer }
      else takeTarget { s with prof := s.prof.demand port field peer }) = { s with prof := p } from eq]
    exact askIfChanged_same sameOwn sameEffective
  rw [settled]
  exact ⟨rfl, sameEffective⟩

/-- In CONFIG the demands reach PROF and the notices alone. -/
theorem settle_config {port field peer : Profile} (config : s.isRun = false) : settle port field peer s =
    { s with prof := (settle port field peer s).prof, cport := (settle port field peer s).cport } := by
  simp only [settle, config]
  rw [if_neg (by decide)]
  split
  · rfl
  · unfold followTarget
    split <;> rfl

/-! ### A change of an entry (R103, R126, R143) -/

theorem notice_isRun {l : LinkState} {c : CportState} (part : c.part = s.cport.part) :
    State.isRun { s with link := l, cport := c } = s.isRun := by
  simp [State.isRun, part]

/-- The entry `e` stands in the table, with its notice, and PROF and TRIPCO have not taken it yet. -/
def entered (old : NbrStatus) (e : Neighbour) (s : State) : State :=
  { s with
    link := { s.link with table := s.link.table.map (fun x => if x.address = e.address then e else x) },
    cport := if e.pinned = true ∧ old ≠ e.status then
        s.cport.queue s.image.attnMask (note .peerStatus e.address (pair (nbrStatusCode old) (nbrStatusCode e.status))
          (pair (relationCode e.relation) e.missed) s)
      else s.cport }

/-- TRIPCO takes a change into or out of LOST of a pinned DOWN entry (R143). -/
def lostHanded (old : NbrStatus) (e : Neighbour) (w : State) : State :=
  { w with
    tripco := { w.tripco with
      records := if e.pinned = true ∧ e.relation = .down ∧ ((old = .lost) ≠ (e.status = .lost)) then
          w.tripco.records.map (fun r => if r.address = e.address then { r with lost := decide (e.status = .lost) } else r)
        else w.tripco.records } }

theorem queuePeerStatus_entered (old : NbrStatus) (e : Neighbour) (s : State) : queuePeerStatus old e
    { s with link := { s.link with table := onNeighbour e.address (fun _ => e) s.link.table } } = entered old e s := by
  unfold queuePeerStatus entered
  split <;> rfl

theorem handLost_eq (old : NbrStatus) (e : Neighbour) (w : State) : handLost old e w = lostHanded old e w := by
  have condition : (e.pinned && (e.relation == .down) && ((old == .lost) != (e.status == .lost))) = true ↔
      e.pinned = true ∧ e.relation = .down ∧ ((old = .lost) ≠ (e.status = .lost)) := by
    simp only [Bool.and_eq_true, beq_decide, decide_eq_true_eq, bne_iff_ne, ne_eq, decide_eq_decide, eq_iff_iff, and_assoc]
  unfold handLost lostHanded
  by_cases moved : e.pinned = true ∧ e.relation = .down ∧ ((old = .lost) ≠ (e.status = .lost))
  · rw [if_pos (condition.2 moved), if_pos moved]
    simp [setLost, onRecord, beq_decide]
  · rw [if_neg (by rwa [condition]), if_neg moved]

theorem changeStatus_eq (old : NbrStatus) (e : Neighbour) (s : State) :
    changeStatus old e s = lostHanded old e (refreshPeerDemand (entered old e s)) := by
  rw [changeStatus, queuePeerStatus_entered, handLost_eq]

theorem eventFrame_entered (old : NbrStatus) (e : Neighbour) (s : State) :
    EventFrame [.meas, .elem, .fin, .sequencer, .blk, .prof, .tripco, .hunt] s (entered old e s) := by
  unfold entered
  split <;> simp [EventFrame, Frame, sameBlock, sameSettings, sameTransaction, queue_settings]

theorem eventFrame_lostHanded (old : NbrStatus) (e : Neighbour) (s : State) :
    EventFrame [.meas, .elem, .fin, .sequencer, .blk, .prof, .link, .hunt] s (lostHanded old e s) := by
  simp [lostHanded, EventFrame, Frame, sameBlock, sameSettings, sameTransaction]

theorem demandsTaken_refreshPeerDemand (s : State) (peer : Profile) (isPeer : Safety.IsPeerDemand peer s) :
    DemandsTaken s.prof.port s.prof.field peer s (refreshPeerDemand s) := by
  rw [Safety.isPeerDemand_iff] at isPeer
  rw [isPeer]
  exact demandsTaken_settle _ _ _ _

theorem isPeerDemand_congr {d : Profile} (table : t.link.table = s.link.table) (image : t.image = s.image) :
    Safety.IsPeerDemand d t ↔ Safety.IsPeerDemand d s := by
  rw [Safety.IsPeerDemand, Safety.IsPeerDemand, table, image]

theorem isPeerDemand_refreshPeerDemand (s : State) :
    Safety.IsPeerDemand (refreshPeerDemand s).prof.peer (refreshPeerDemand s) := by
  rw [isPeerDemand_congr (s := s) (by simp) (by simp), refreshPeerDemand, settle_peer]
  exact Safety.isPeerDemand_peerDemand s

theorem isPeerDemand_lostHanded (old : NbrStatus) (e : Neighbour) (s : State) :
    Safety.IsPeerDemand (lostHanded old e (refreshPeerDemand s)).prof.peer (lostHanded old e (refreshPeerDemand s)) :=
  (isPeerDemand_congr rfl rfl).2 (isPeerDemand_refreshPeerDemand s)

/-! ### An entry falls silent (R126) -/

section Silence

variable {a : Byte} {e : Neighbour} {at_ : Ms}

theorem findNeighbour_eq_some {l : List Neighbour} (nodup : (l.map (·.address)).Nodup) (mem : e ∈ l)
    (address : e.address = a) : findNeighbour a l = some e := by
  obtain ⟨x, found⟩ : ∃ x, findNeighbour a l = some x := by
    rw [← Option.isSome_iff_exists, findNeighbour, List.find?_isSome]
    exact ⟨e, mem, by simp [address]⟩
  have key : x.address = a := by simpa using List.find?_some found
  rw [found, eq_of_nodup_map nodup (List.mem_of_find?_eq_some found) mem (key.trans address.symm)]

/-- With no address twice, the entry that changes is the one of its address. -/
theorem map_entry_eq {l : List Neighbour} {e' : Neighbour} (nodup : (l.map (·.address)).Nodup) (mem : e ∈ l)
    (address : e.address = a) : l.map (fun x => if x.address = a then e' else x) =
      l.map (fun x => if x = e then e' else x) := by
  refine List.map_congr_left fun x hx => ?_
  have same : x.address = a ↔ x = e :=
    ⟨fun key => eq_of_nodup_map nodup hx mem (key.trans address.symm), fun eq => eq ▸ address⟩
  simp only [same]

/-- With fewer entries that are not LOST the peer demand does not rise (R102). -/
theorem peerDemand_le (image : t.image = s.image)
    (sub : ∀ x ∈ t.link.table, x.status ≠ .lost → ∃ y ∈ s.link.table, y.status ≠ .lost ∧ y.ownDemand = x.ownDemand) :
    profileCode (peerDemand t) ≤ profileCode (peerDemand s) := by
  obtain ⟨follows, ignores⟩ := Safety.isPeerDemand_peerDemand t
  by_cases flag : t.image.followPeers = 1
  · obtain ⟨-, demand⟩ := follows flag
    rcases demand with ordinary | ⟨x, mem, heard, demand⟩
    · rw [ordinary]
      exact Nat.zero_le _
    · obtain ⟨y, mem', heard', same⟩ := sub x mem heard
      rw [demand, ← same]
      exact ((Safety.isPeerDemand_peerDemand s).1 (image ▸ flag)).1 y mem' heard'
  · rw [ignores flag]
    exact Nat.zero_le _

theorem peerDemand_congr (image : t.image = s.image)
    (sub : ∀ x ∈ t.link.table, x.status ≠ .lost → ∃ y ∈ s.link.table, y.status ≠ .lost ∧ y.ownDemand = x.ownDemand)
    (sup : ∀ x ∈ s.link.table, x.status ≠ .lost → ∃ y ∈ t.link.table, y.status ≠ .lost ∧ y.ownDemand = x.ownDemand) :
    peerDemand t = peerDemand s :=
  Safety.profileCode_injective (Nat.le_antisymm (peerDemand_le image sub) (peerDemand_le image.symm sup))

theorem entered_image (old : NbrStatus) (e : Neighbour) (s : State) : (entered old e s).image = s.image :=
  (eventFrame_entered old e s).1.image

/-- An entry that becomes QUIET announces what it did before (R102, R126). -/
theorem peerDemand_entered_quiet (nodup : (s.link.table.map (·.address)).Nodup) (mem : e ∈ s.link.table)
    (fresh : e.status = .fresh) : peerDemand (entered .fresh { e with status := .quiet } s) = peerDemand s := by
  have table : (entered .fresh { e with status := .quiet } s).link.table =
      s.link.table.map (fun x => if x = e then { e with status := .quiet } else x) := map_entry_eq nodup mem rfl
  refine peerDemand_congr (entered_image ..) (fun x hx heard => ?_) (fun x hx heard => ?_)
  · rw [table, List.mem_map] at hx
    obtain ⟨y, hy, rfl⟩ := hx
    by_cases same : y = e
    · exact ⟨e, mem, by simp [fresh], by simp [same]⟩
    · exact ⟨y, hy, by simpa [same] using heard, by simp [same]⟩
  · refine ⟨if x = e then { e with status := .quiet } else x, ?_, ?_, ?_⟩
    · rw [table]
      exact List.mem_map_of_mem hx
    · split <;> simp [heard]
    · split <;> simp [*]

/-- An entry that becomes LOST announces nothing any more (R102, R126). -/
theorem peerDemand_entered_lost : profileCode (peerDemand (entered .quiet { e with status := .lost } s)) ≤
    profileCode (peerDemand s) := by
  refine peerDemand_le (entered_image ..) fun x hx heard => ?_
  obtain ⟨y, hy, rfl⟩ := List.mem_map.1 (show x ∈ s.link.table.map
    (fun x => if x.address = e.address then { e with status := .lost } else x) from hx)
  by_cases same : y.address = e.address
  · simp [same] at heard
  · exact ⟨y, hy, by simpa [same] using heard, by simp [same]⟩

theorem lostHanded_same {old : NbrStatus} (same : (old = .lost) = (e.status = .lost)) (w : State) :
    lostHanded old e w = w := by
  rw [lostHanded, if_neg (by simp [same])]

theorem profileCode_profileMax (p q : Profile) : profileCode (profileMax p q) = max (profileCode p) (profileCode q) := by
  unfold profileMax
  split <;> omega

theorem exec_neighbourQuietExpiry (up : s.resetHeld = false) (found : findNeighbour a s.link.table = some e)
    (fresh : e.status = .fresh) (timer : e.quietAt = some at_) : exec (.neighbourQuietExpiry a) s =
      .next (changeStatus .fresh { e with status := .quiet } (s.arriveAt at_)) := by
  simp [exec, execNeighbourQuietExpiry, awake, up, quietInstant, found, fresh, timer]

theorem exec_neighbourLostExpiry (up : s.resetHeld = false) (found : findNeighbour a s.link.table = some e)
    (quiet : e.status = .quiet) (timer : e.lostAt = some at_) : exec (.neighbourLostExpiry a) s =
      .next (changeStatus .quiet { e with status := .lost } (s.arriveAt at_)) := by
  simp [exec, execNeighbourLostExpiry, awake, up, lostInstant, found, quiet, timer]

/-- An entry that falls quiet is a notice and no more. -/
theorem changeStatus_quiet (inv : Safety.ProfileInv s) (nodup : (s.link.table.map (·.address)).Nodup)
    (mem : e ∈ s.link.table) (fresh : e.status = .fresh) :
    changeStatus .fresh { e with status := .quiet } s = entered .fresh { e with status := .quiet } s := by
  have prof : (entered .fresh { e with status := .quiet } s).prof = s.prof :=
    (eventFrame_entered ..).1.1 .prof (by decide)
  have peer : peerDemand (entered .fresh { e with status := .quiet } s) = s.prof.peer :=
    (peerDemand_entered_quiet nodup mem fresh).trans ((Safety.isPeerDemand_iff ..).1 inv.peer).symm
  have settled : refreshPeerDemand (entered .fresh { e with status := .quiet } s) =
      entered .fresh { e with status := .quiet } s := by
    have h := settle_same (s := entered .fresh { e with status := .quiet } s)
      (by rw [prof]; exact combined_of_profileInv inv)
    rw [refreshPeerDemand, peer]
    rwa [prof] at h ⊢
  rw [changeStatus_eq, settled, lostHanded_same (by simp)]

end Silence

end Sys2Proof.Claims
end

section
/-! The neighbours that fall silent. -/

namespace Sys2Proof.Claims

open Sys2Proof Sys2Proof.Machine

variable {s t u v w : State} {a : Byte} {e : Neighbour} {at_ : Ms}

/-- A peer demand that does not rise reaches PROF, and in CONFIG the notices, alone. -/
theorem refreshPeerDemand_lowered (own : profileMax s.prof.port s.prof.field = s.prof.ownDemand)
    (low : profileCode (profileMax s.prof.ownDemand (peerDemand s)) ≤ profileCode s.prof.effective) :
    refreshPeerDemand s =
        { s with prof := (refreshPeerDemand s).prof, cport := (refreshPeerDemand s).cport } ∧
      (s.isRun = true → (refreshPeerDemand s).cport = s.cport ∧
        (refreshPeerDemand s).prof.effective = s.prof.effective) := by
  cases run : s.isRun with
  | false => exact ⟨settle_config run, fun h => absurd h (by decide)⟩
  | true =>
    obtain ⟨eq, effective⟩ := settle_lowered (peer := peerDemand s) run own (by rwa [own])
    have kept : (refreshPeerDemand s).cport = s.cport := by rw [refreshPeerDemand, eq]
    refine ⟨?_, fun _ => ⟨kept, effective⟩⟩
    rw [kept]
    exact eq

/-- When an entry is lost, PROF's target stays within the effective profile. -/
theorem lost_target_le (inv : Safety.ProfileInv s) :
    profileCode (profileMax s.prof.ownDemand (peerDemand (entered .quiet { e with status := .lost } s))) ≤
      profileCode s.prof.effective := by
  have target : s.prof.target = profileMax s.prof.ownDemand (peerDemand s) := by
    rw [← (Safety.isPeerDemand_iff ..).1 inv.peer]
    exact (combined_of_profileInv inv).2
  have effective := inv.effective
  have lower := peerDemand_entered_lost (s := s) (e := e)
  rw [target, profileCode_profileMax] at effective
  rw [profileCode_profileMax]
  omega

theorem eventFrame_refreshPeerDemand_lowered
    (eq : refreshPeerDemand s = { s with prof := (refreshPeerDemand s).prof, cport := (refreshPeerDemand s).cport }) :
    EventFrame [.meas, .elem, .fin, .sequencer, .blk, .link, .tripco, .hunt] s (refreshPeerDemand s) := by
  have settings : sameSettings s (refreshPeerDemand s) ∧ sameTransaction s (refreshPeerDemand s) := by
    simp [sameSettings, sameTransaction]
  refine ⟨⟨fun b mem => ?_, settings.1, ?_⟩, settings.2⟩
  · rw [eq]
    cases b <;> first | rfl | exact absurd mem (by decide)
  · rw [eq]

theorem lostHanded_lost (e : Neighbour) (w : State) : lostHanded .quiet { e with status := .lost } w = { w with
    tripco := { w.tripco with
      records := if e.pinned = true ∧ e.relation = .down then
          w.tripco.records.map (fun r => if r.address = e.address then { r with lost := true } else r)
        else w.tripco.records } } := by
  simp [lostHanded]

/-- Settles O30: an entry that falls quiet is a notice; one that is lost frees PROF of its demand, which never raises
the target, and TRIPCO hears of a DOWN neighbour. -/
theorem neighboursFallSilent : Obligations.NeighboursFallSilent := by
  rintro a e at_ s _ up inv nodup mem rfl rfl
  have found : findNeighbour e.address s.link.table = some e := findNeighbour_eq_some nodup mem rfl
  have inv' : Safety.ProfileInv (s.arriveAt at_) := ⟨inv.ownDemand, inv.copy, inv.peer, inv.target, inv.effective⟩
  refine ⟨fun fresh timer => ⟨_, exec_neighbourQuietExpiry up found fresh timer, ?_⟩, fun quiet timer =>
    ⟨_, exec_neighbourLostExpiry up found quiet timer, ?_⟩, fun other => ?_, fun other => ?_⟩
  · rw [changeStatus_quiet (s := s.arriveAt at_) inv' nodup mem fresh]
    refine ⟨rfl, fun pinned => ?_, fun free => ?_, rfl, eventFrame_entered ..⟩
    · exact if_pos ⟨pinned, NbrStatus.noConfusion⟩
    · exact if_neg fun h => by simp [free] at h
  · let e' : Neighbour := { e with status := .lost }
    let x : State := entered .quiet e' (s.arriveAt at_)
    have run_eq : x.isRun = s.isRun := (eventFrame_entered .quiet e' (s.arriveAt at_)).1.isRun
    obtain ⟨eq, still⟩ := refreshPeerDemand_lowered (s := x) (combined_of_profileInv inv').1.symm
      (lost_target_le (s := s.arriveAt at_) inv')
    have frame : EventFrame [.meas, .elem, .fin, .sequencer, .blk, .link, .tripco, .hunt] x (refreshPeerDemand x) :=
      eventFrame_refreshPeerDemand_lowered eq
    have link : (refreshPeerDemand x).link = x.link := frame.1.1 .link (by decide)
    have tripco : (refreshPeerDemand x).tripco = s.tripco := frame.1.1 .tripco (by decide)
    have handovers : (refreshPeerDemand x).handovers = s.handovers := by rw [eq]; rfl
    rw [changeStatus_eq]
    refine ⟨link, isPeerDemand_lostHanded .quiet e' x, fun run => (still (run_eq.trans run)).2, fun run pinned => ?_,
      fun run free => ?_, fun pinned down => ?_, fun other => ?_, ⟨x, refreshPeerDemand x, ?_, ?_, ?_⟩, handovers, ?_⟩
    · refine (still (run_eq.trans run)).1.trans ?_
      exact if_pos ⟨pinned, NbrStatus.noConfusion⟩
    · refine (still (run_eq.trans run)).1.trans ?_
      exact if_neg fun h => absurd (free.symm.trans h.1) (by decide)
    · rw [lostHanded_lost, if_pos ⟨pinned, down⟩, tripco]
    · rw [lostHanded_lost, if_neg (fun h => ?_)]
      · exact tripco
      · exact other.elim (fun free => absurd (free.symm.trans h.1) (by decide)) (fun up_ => up_ h.2)
    · show entered .quiet e' (s.arriveAt at_) = _
      rw [entered]
      simp only [e', nbrStatusCode, ne_eq, reduceCtorEq, not_false_eq_true, and_true]
      rfl
    · exact fun peer isPeer => demandsTaken_refreshPeerDemand x peer isPeer
    · exact lostHanded_lost e _
    · exact ((eventFrame_entered .quiet e' (s.arriveAt at_)).mono (by decide)).trans
        ((frame.mono (by decide)).trans ((eventFrame_lostHanded .quiet e' (refreshPeerDemand x)).mono (by decide)))
  · simp [exec, execNeighbourQuietExpiry, awake, up, quietInstant, found, other]
  · simp [exec, execNeighbourLostExpiry, awake, up, lostInstant, found, other]

end Sys2Proof.Claims
end

section
/-! An accepted frame: the room in the neighbour table, the entry heard, and the events that follow. -/

namespace Sys2Proof.Claims

open Sys2Proof Sys2Proof.Machine

variable {s t u v w : State} {a : Byte} {e e' old : Neighbour} {before after_ l : List Neighbour} {now : Ms}

/-! ### Room in a full table (R124) -/

theorem silence_eq (now : Ms) (e : Neighbour) : silence now e = e.age now := rfl

/-- The elder of the best entry so far and the next one. -/
def elder (now : Ms) (best : Option Neighbour) (e : Neighbour) : Option Neighbour :=
  match best with
  | some b => if b.age now < e.age now then some e else some b
  | none => some e

theorem oldestUnpinned_eq (now : Ms) (l : List Neighbour) :
    oldestUnpinned now l = (l.filter (fun e => !e.pinned)).foldl (elder now) none := rfl

theorem foldl_elder_le (h : ∀ y ∈ l, y.age now ≤ e.age now) : l.foldl (elder now) (some e) = some e := by
  induction l with
  | nil => rfl
  | cons y l ih =>
    have le := h y List.mem_cons_self
    rw [List.foldl_cons, elder, if_neg (by omega)]
    exact ih fun z mem => h z (List.mem_cons_of_mem _ mem)

theorem foldl_elder_lt (h : ∀ y ∈ l, y.age now < e.age now) (best : Option Neighbour)
    (hb : ∀ b, best = some b → b.age now < e.age now) : elder now (l.foldl (elder now) best) e = some e := by
  induction l generalizing best with
  | nil =>
    cases best with
    | none => rfl
    | some b => exact if_pos (hb b rfl)
  | cons y l ih =>
    refine ih (fun z mem => h z (List.mem_cons_of_mem _ mem)) _ fun b eq => ?_
    cases best with
    | none => exact Option.some.inj eq ▸ h y List.mem_cons_self
    | some b' =>
      rw [elder] at eq
      split at eq <;> rw [← Option.some.inj eq]
      · exact h y List.mem_cons_self
      · exact hb b' rfl

/-- The unpinned entry that is silent longest, the earliest of several. -/
theorem oldestUnpinned_eq_some (free : old.pinned = false)
    (younger : ∀ y ∈ before, y.pinned = false → silence now y < silence now old)
    (notOlder : ∀ y ∈ after_, y.pinned = false → silence now y ≤ silence now old) :
    oldestUnpinned now (before ++ old :: after_) = some old := by
  simp only [silence_eq] at younger notOlder
  rw [oldestUnpinned_eq, List.filter_append, List.filter_cons_of_pos (by simp [free]), List.foldl_append,
    List.foldl_cons, foldl_elder_lt (fun y mem => ?_) none (fun _ h => absurd h (by simp)), foldl_elder_le fun y mem => ?_]
  · obtain ⟨mem, unpinned⟩ := List.mem_filter.1 mem
    exact notOlder y mem (by simpa using unpinned)
  · obtain ⟨mem, unpinned⟩ := List.mem_filter.1 mem
    exact younger y mem (by simpa using unpinned)

theorem filter_address_eq (nodup : ((before ++ old :: after_).map (·.address)).Nodup) :
    (before ++ old :: after_).filter (fun x => x.address != old.address) = before ++ after_ := by
  have others : ∀ y ∈ before ++ after_, (y.address != old.address) = true := by
    intro y mem
    rw [List.map_append, List.map_cons, List.nodup_append, List.nodup_cons] at nodup
    obtain ⟨-, ⟨notAfter, -⟩, apart⟩ := nodup
    refine bne_iff_ne.2 fun same => ?_
    rcases List.mem_append.1 mem with inFront | inBack
    · exact apart _ (List.mem_map_of_mem inFront) _ List.mem_cons_self same
    · exact notAfter (same ▸ List.mem_map_of_mem inBack)
  have front := List.filter_eq_self.2 fun y mem => others y (List.mem_append_left after_ mem)
  have back := List.filter_eq_self.2 fun y mem => others y (List.mem_append_right before mem)
  rw [List.filter_append, List.filter_cons_of_neg (by simp), front, back]

theorem addNeighbour_room (room : l.length < 24) : addNeighbour now e l = l ++ [e] := by
  have kept : makeRoom now l = l := if_pos room
  rw [addNeighbour, kept, if_pos room]

theorem addNeighbour_full (full : (before ++ old :: after_).length = 24)
    (nodup : ((before ++ old :: after_).map (·.address)).Nodup) (free : old.pinned = false)
    (younger : ∀ y ∈ before, y.pinned = false → silence now y < silence now old)
    (notOlder : ∀ y ∈ after_, y.pinned = false → silence now y ≤ silence now old) :
    addNeighbour now e (before ++ old :: after_) = before ++ after_ ++ [e] := by
  have room : makeRoom now (before ++ old :: after_) = before ++ after_ := by
    rw [makeRoom, if_neg (by omega), oldestUnpinned_eq_some free younger notOlder]
    exact filter_address_eq nodup
  rw [addNeighbour, room, if_pos]
  simp only [List.length_append, List.length_cons] at full ⊢
  omega

theorem addNeighbour_pinned (full : 24 ≤ l.length) (pinned : ∀ x ∈ l, x.pinned = true) :
    addNeighbour now e l = l := by
  have none_ : oldestUnpinned now l = none := by
    rw [oldestUnpinned_eq, List.filter_eq_nil_iff.2 fun x mem => by simp [pinned x mem]]
    rfl
  have kept : makeRoom now l = l := by rw [makeRoom, if_neg (by omega), none_]
  rw [addNeighbour, kept, if_neg (by omega)]

/-! ### The entry heard (R121, R122, R126) -/

theorem heard_hear {f : RawFrame} {body : FrameBody} :
    Heard f body (missedAfter f.freshStart f.sol.toNat e) now e (e.hear now f.freshStart f.sol.toNat body) := by
  cases body with
  | beacon b => simp [Heard, Neighbour.hear, Neighbour.note]
  | owned g => cases g <;> simp [Heard, Neighbour.hear, Neighbour.note]

theorem missedAfter_gap {last sol : Nat} (known : e.lastSol = some last) :
    missedAfter false sol e = min (e.missed + (sol + 62 - last) % 63) 255 := by
  rw [missedAfter, known]
  simp [solGap]

theorem missedAfter_fresh {fresh : Bool} {sol : Nat} (h : e.lastSol = none ∨ fresh = true) :
    missedAfter fresh sol e = e.missed := by
  rcases h with unknown | rfl
  · rw [missedAfter, unknown]
  · unfold missedAfter
    split <;> rfl

end Sys2Proof.Claims
end

section
/-! An accepted frame: its entry in the table, the demands, TRIPCO and the events. -/

namespace Sys2Proof.Claims

open Sys2Proof Sys2Proof.Machine

variable {s t u v w : State} {a k : Byte} {e e' old : Neighbour} {before after_ kept l : List Neighbour}
  {f : RawFrame} {body : FrameBody}

/-! ### The entry of an address in the table (R122) -/

theorem findNeighbour_address (found : findNeighbour a l = some e) : e.address = a := by
  simpa using List.find?_some found

theorem findNeighbour_eq_none : findNeighbour a l = none ↔ ∀ x ∈ l, x.address ≠ a := by
  simp [findNeighbour]

/-- The entry that takes the place of those of its address is found there. -/
theorem findNeighbour_map_same (address : e'.address = k) (found : findNeighbour k l = some e) :
    findNeighbour k (l.map (fun y => if y.address = k then e' else y)) = some e' := by
  induction l with
  | nil => exact absurd found (by simp [findNeighbour])
  | cons y l ih =>
    by_cases same : y.address = k
    · simp [findNeighbour, same, address]
    · have rest : findNeighbour k l = some e := by simpa [findNeighbour, same] using found
      simpa [findNeighbour, same] using ih rest

theorem findNeighbour_map_other (address : e'.address = k) (other : a ≠ k) :
    findNeighbour a (l.map (fun y => if y.address = k then e' else y)) =
      findNeighbour a (l.filter (fun y => decide (y.address ≠ k))) := by
  induction l with
  | nil => rfl
  | cons y l ih =>
    by_cases same : y.address = k
    · simpa [findNeighbour, same, address, other.symm] using ih
    · by_cases here : y.address = a
      · simp [findNeighbour, here, other]
      · simpa [findNeighbour, same, here] using ih

theorem findNeighbour_append_same (address : e.address = k) (absent : findNeighbour k l = none) :
    findNeighbour k (l ++ [e]) = some e := by
  rw [findNeighbour] at absent
  simp [findNeighbour, List.find?_append, absent, address]

theorem findNeighbour_append_other (address : e.address = k) (other : a ≠ k) :
    findNeighbour a (l ++ [e]) = findNeighbour a l := by
  simp [findNeighbour, List.find?_append, address, other.symm]

theorem map_append_absent (address : e.address = k) (absent : findNeighbour k l = none) :
    (l ++ [e]).map (fun y => if y.address = k then e' else y) = l ++ [e'] := by
  have kept : l.map (fun y => if y.address = k then e' else y) = l := by
    refine (List.map_congr_left fun y mem => ?_).trans (List.map_id l)
    exact if_neg (findNeighbour_eq_none.1 absent y mem)
  rw [List.map_append, kept, List.map_singleton, if_pos address]

theorem ensureNeighbour_found (found : findNeighbour a s.link.table = some e) : ensureNeighbour a s = s :=
  if_pos (by rw [found]; rfl)

theorem ensureNeighbour_absent (absent : findNeighbour a s.link.table = none) : ensureNeighbour a s = { s with
    link := { s.link with
      table := addNeighbour s.now (Neighbour.create a .other false .fresh s.beaconInterval) s.link.table } } :=
  if_neg (by rw [absent]; exact Bool.noConfusion)

/-! ### What an accepted frame comes to (R122, R123) -/

theorem dispatchFrame_eq (a : Byte) (body : FrameBody) (s : State) :
    dispatchFrame a body s = { s with handovers := s.handovers ++ frameEvents a body s } := by
  unfold dispatchFrame frameEvents
  split
  · cases body with
    | beacon b => simp [frameEvent, handOver]
    | owned g => cases g <;> simp [frameEvent, handOver]
  · simp

theorem frameEvents_congr (run : t.isRun = s.isRun) : frameEvents a body t = frameEvents a body s := by
  unfold frameEvents
  rw [run]

theorem acceptFrame_of_entry (found : findNeighbour f.source (ensureNeighbour f.source s).link.table = some e) :
    acceptFrame f body s = dispatchFrame f.source body
      (changeStatus e.status (e.hear s.now f.freshStart f.sol.toNat body) (ensureNeighbour f.source s)) := by
  simp only [acceptFrame]
  rw [found]

/-- In a full table of pinned entries a new source finds no room (R124). -/
theorem acceptFrame_full (absent : findNeighbour f.source s.link.table = none) (full : 24 ≤ s.link.table.length)
    (pinned : ∀ x ∈ s.link.table, x.pinned = true) : acceptFrame f body s = s := by
  have kept : ensureNeighbour f.source s = s := by
    rw [ensureNeighbour_absent absent, addNeighbour_pinned full pinned]
  simp only [acceptFrame, kept, absent]

theorem lostHanded_fresh (fresh : e.status = .fresh) (old : NbrStatus) (w : State) : lostHanded old e w = { w with
    tripco := { w.tripco with
      records := if e.pinned = true ∧ e.relation = .down ∧ old = .lost then
          w.tripco.records.map (fun r => if r.address = e.address then { r with lost := false } else r)
        else w.tripco.records } } := by
  simp [lostHanded, fresh]

theorem entered_fresh (fresh : e.status = .fresh) (old : NbrStatus) (s : State) : entered old e s = { s with
    link := { s.link with table := s.link.table.map (fun x => if x.address = e.address then e else x) },
    cport := if e.pinned = true ∧ old ≠ .fresh then
        s.cport.queue s.image.attnMask
          (note .peerStatus e.address (pair (nbrStatusCode old) 0) (pair (relationCode e.relation) e.missed) s)
      else s.cport } := by
  simp [entered, fresh, nbrStatusCode]

/-! ### The frames PROF's changes place -/

/-- What is handed over from one state to the other is placements with LINK alone. -/
def Places (s t : State) : Prop :=
  ∃ placed : List Placement, t.handovers = s.handovers ++ placed.map Instr.framePlacement

theorem places_same (same : t.handovers = s.handovers) : Places s t := ⟨[], by simpa using same⟩

theorem places_one {p : Placement} (one : t.handovers = s.handovers ++ [.framePlacement p]) : Places s t := ⟨[p], one⟩

theorem Places.trans (h : Places s t) (h' : Places t u) : Places s u := by
  obtain ⟨ps, eq⟩ := h
  obtain ⟨qs, eq'⟩ := h'
  exact ⟨ps ++ qs, by rw [eq', eq, List.map_append, List.append_assoc]⟩

theorem places_tripcoReview (s : State) : Places s (tripcoReview s) := by
  unfold tripcoReview
  split
  · split
    · exact places_same rfl
    · exact places_one rfl
  · split
    · unfold endEpisode
      simp only
      split
      · exact places_same rfl
      · exact places_one rfl
    · exact places_same rfl

theorem Transition.places {st : SeqState} {timer : Option Ms} {ns : List Notice} {fs : List OwnedFrame}
    (h : Transition st timer ns fs s t) : Places s t := by
  obtain ⟨p, -, -, -, placed, -, -, rfl⟩ := h
  exact Places.trans ⟨fs.map .owned, by simpa [placements, Function.comp_def] using placed⟩ (places_tripcoReview p)

theorem places_handRaise (before : Profile) (s : State) : Places s (handRaise before s) := by
  obtain ⟨locks, stays⟩ := raiseHanded_handRaise before s _ _ _ rfl rfl rfl
  by_cases waiting : s.sequencer.st = .deadTime ∨ s.sequencer.st = .deadHold
  · rcases Nat.lt_or_ge (s.image.shotLimit s.prof.effective) s.sequencer.shot with limit | limit
    · exact (locks waiting limit).elim Transition.places Transition.places
    · exact places_same (by rw [stays (.inr limit)])
  · exact places_same (by rw [stays (.inl (not_or.1 waiting))])

theorem places_takeTarget (s : State) : Places s (takeTarget s) := by
  unfold takeTarget
  split
  · unfold raiseProfile
    exact Places.trans (t := { s with
      prof := { s.prof with effective := s.prof.target, relax := .none, relaxAt := none } })
      (places_same rfl) (places_handRaise _ _)
  · split <;> exact places_same rfl

theorem places_askIfChanged (p : ProfState) (s : State) : Places s (askIfChanged p s) := by
  unfold askIfChanged
  split
  · exact places_same rfl
  · exact places_one rfl

theorem places_settle (port field peer : Profile) (s : State) : Places s (settle port field peer s) := by
  cases run : s.isRun with
  | false => exact places_same (by rw [settle_config run])
  | true =>
    simp only [settle, run, if_true]
    refine Places.trans ?_ (places_askIfChanged ..)
    split
    · exact places_same rfl
    · exact places_takeTarget _

/-- Demands that stand as they are, refreshed, change nothing. -/
theorem refreshPeerDemand_same (combined : Combined s.prof) (peer : Safety.IsPeerDemand s.prof.peer s) :
    refreshPeerDemand s = s := by
  rw [refreshPeerDemand, ← (Safety.isPeerDemand_iff ..).1 peer]
  exact settle_same combined

theorem eventFrame_refreshPeerDemand (s : State) :
    EventFrame [.meas, .elem, .blk, .link, .hunt] s (refreshPeerDemand s) := by
  simp [EventFrame, Frame, sameBlock, sameSettings, sameTransaction]

/-- The whole of a heard entry `e'`, from the state `v` in which it stands in the table. -/
theorem heardEntry_frame (old : NbrStatus) (v : State) :
    EventFrame [.meas, .elem, .blk, .link, .hunt] v
      (dispatchFrame a body (lostHanded old e' (refreshPeerDemand v))) := by
  refine (eventFrame_refreshPeerDemand v).trans (((eventFrame_lostHanded old e' _).mono (by decide)).trans ?_)
  rw [dispatchFrame_eq]
  simp [EventFrame, Frame, sameBlock, sameSettings, sameTransaction]

/-! ### The table with the entry of a source (R122, R124) -/

/-- The entry of the source `a` in the table of `s`: the one that stands there or the one created, the list that remains
without it, and the list with another entry in its place. -/
def EntryOf (a : Byte) (s : State) (e : Neighbour) (kept : List Neighbour)
    (place : Neighbour → List Neighbour) : Prop :=
  (findNeighbour a s.link.table = some e ∧
    place = (fun x => s.link.table.map (fun y => if y.address = a then x else y)) ∧
    kept = s.link.table.filter (fun y => decide (y.address ≠ a))) ∨
  (findNeighbour a s.link.table = none ∧
    e = Neighbour.create a .other false .fresh s.beaconInterval ∧ place = (fun x => kept ++ [x]) ∧
    ((s.link.table.length < 24 ∧ kept = s.link.table) ∨
     (s.link.table.length = 24 ∧ (s.link.table.map (·.address)).Nodup ∧
      ∃ (old : Neighbour) (before after_ : List Neighbour), s.link.table = before ++ old :: after_ ∧
        old.pinned = false ∧ kept = before ++ after_ ∧
        (∀ y ∈ before, y.pinned = false → silence s.now y < silence s.now old) ∧
        (∀ y ∈ after_, y.pinned = false → silence s.now y ≤ silence s.now old))))

theorem EntryOf.address {place : Neighbour → List Neighbour} (h : EntryOf a s e kept place) : e.address = a := by
  rcases h with ⟨found, -⟩ | ⟨-, rfl, -⟩
  · exact findNeighbour_address found
  · rfl

/-- A source not in the table stands at the end of the list once it has its entry. -/
theorem EntryOf.created {place : Neighbour → List Neighbour} (h : EntryOf a s e kept place)
    (absent : findNeighbour a s.link.table = none) :
    ensureNeighbour a s = { s with link := { s.link with table := kept ++ [e] } } ∧
      findNeighbour a kept = none ∧ place = (fun x => kept ++ [x]) := by
  rcases h with ⟨found, -⟩ | ⟨-, rfl, rfl, room | ⟨full, nodup, old, before, after_, split_, free, rfl, lt, le⟩⟩
  · exact absurd (absent.symm.trans found) (by simp)
  · obtain ⟨room, rfl⟩ := room
    rw [ensureNeighbour_absent absent, addNeighbour_room room]
    exact ⟨rfl, absent, rfl⟩
  · have others := findNeighbour_eq_none.1 absent
    rw [ensureNeighbour_absent absent]
    rw [split_] at full nodup others ⊢
    rw [addNeighbour_full full nodup free lt le]
    refine ⟨rfl, findNeighbour_eq_none.2 fun x mem => others x ?_, rfl⟩
    rcases List.mem_append.1 mem with front | back
    · exact List.mem_append_left _ front
    · exact List.mem_append_right _ (List.mem_cons_of_mem _ back)

/-- The source has its entry, and the entry that takes its place stands in the table as `place` says. -/
theorem EntryOf.ensured {place : Neighbour → List Neighbour} (h : EntryOf a s e kept place) :
    ∃ l : List Neighbour, ensureNeighbour a s = { s with link := { s.link with table := l } } ∧
      findNeighbour a l = some e ∧
      ∀ e' : Neighbour, e'.address = a →
        l.map (fun y => if y.address = a then e' else y) = place e' ∧ findNeighbour a (place e') = some e' ∧
        ∀ b : Byte, b ≠ a → findNeighbour b (place e') = findNeighbour b kept := by
  cases known : findNeighbour a s.link.table with
  | some x =>
    rcases h with ⟨found, rfl, rfl⟩ | ⟨absent, -⟩
    · exact ⟨s.link.table, ensureNeighbour_found found, found, fun e' address =>
        ⟨rfl, findNeighbour_map_same address found, fun b other => findNeighbour_map_other address other⟩⟩
    · exact absurd (absent.symm.trans known) (by simp)
  | none =>
    obtain ⟨eq, absent, rfl⟩ := h.created known
    exact ⟨kept ++ [e], eq, findNeighbour_append_same h.address absent, fun e' address =>
      ⟨map_append_absent h.address absent, findNeighbour_append_same address absent,
        fun b other => findNeighbour_append_other address other⟩⟩

/-- Settles O28: the entry of the source, made or found, is heard, PROF and TRIPCO take the change, and the frame
goes on. -/
theorem linkFramesAreAccepted : Obligations.LinkFramesAreAccepted := by
  rintro bytes f body s _ up read good foreign known lo hi fresh rfl
  let u : State := takeHandOver (.linkFrameReceived bytes) s
  have ran : exec (.linkFrameReceived bytes) s = .next (acceptFrame f body u) := by
    rw [exec_linkFrameReceived up, receiveFrame_of_split read, checkFrame_foreign (s := u) good foreign,
      takeForeign_accepted (s := u) known lo hi fresh]
  refine ⟨fun e kept place entry => ?_, fun absent full pinned => ?_⟩
  · have entry : EntryOf f.source u e kept place := entry
    obtain ⟨l, ensured, found, placed⟩ := entry.ensured
    let e' : Neighbour := e.hear s.now f.freshStart f.sol.toNat body
    have heard : Heard f body (missedAfter f.freshStart f.sol.toNat e) s.now e e' := heard_hear
    obtain ⟨address, relation, pinned, status, -⟩ := id heard
    obtain ⟨table, same, others⟩ := placed e' (address.trans entry.address)
    let v : State := entered e.status e' { u with link := { u.link with table := l } }
    let w : State := refreshPeerDemand v
    have link : w.link = v.link := (eventFrame_refreshPeerDemand v).1.1 .link (by decide)
    have tableEq : v.link.table = place e' := by
      rw [← table, ← entry.address, ← address]
      rfl
    have result : acceptFrame f body u = dispatchFrame f.source body (lostHanded e.status e' w) := by
      rw [acceptFrame_of_entry (by rw [ensured]; exact found), ensured, changeStatus_eq]
      rfl
    have vFrame : EventFrame [.meas, .elem, .fin, .sequencer, .blk, .prof, .tripco, .hunt] s v :=
      EventFrame.trans (t := { u with link := { u.link with table := l } })
        (by simp [EventFrame, Frame, sameBlock, sameSettings, sameTransaction, u])
        ((eventFrame_entered ..).mono (by decide))
    have vProf : v.prof = s.prof := vFrame.1.1 .prof (by decide)
    have run : (lostHanded e.status e' w).isRun = s.isRun :=
      ((eventFrame_lostHanded e.status e' w).1.isRun.trans (eventFrame_refreshPeerDemand v).1.isRun).trans
        vFrame.1.isRun
    refine ⟨_, v, w, e', ran, fun last lastSol restarted => ?_, fun unknown => ?_, ?_, fun peer isPeer => ?_, ?_, ?_,
      fun b other => ?_, ?_, ?_, ?_⟩
    · rwa [restarted, missedAfter_gap lastSol] at heard
    · rwa [missedAfter_fresh unknown] at heard
    · show entered e.status e' _ = _
      rw [entered_fresh status, pinned, relation, address, entry.address]
      simp only [table]
      rfl
    · rw [← vProf]
      exact demandsTaken_refreshPeerDemand v peer isPeer
    · rw [result, dispatchFrame_eq, frameEvents_congr run, lostHanded_fresh status, pinned, relation, address, entry.address]
    · rw [result, dispatchFrame_eq]
      exact (congrArg (findNeighbour f.source) ((congrArg LinkState.table link).trans tableEq)).trans same
    · rw [result, dispatchFrame_eq]
      exact (congrArg (findNeighbour b) ((congrArg LinkState.table link).trans tableEq)).trans (others b other)
    · rw [result, dispatchFrame_eq]
      exact isPeerDemand_lostHanded e.status e' v
    · obtain ⟨ps, handed⟩ := places_settle v.prof.port v.prof.field (peerDemand v) v
      have handed : w.handovers = u.handovers ++ ps.map Instr.framePlacement := handed
      have none_ : w.handovers = v.handovers → ps = [] := fun same =>
        List.map_eq_nil_iff.1 (List.append_right_eq_self.1 (handed.symm.trans same))
      refine ⟨ps, handed, fun config => none_ ?_, fun inv peer => ?_⟩
      · show (settle v.prof.port v.prof.field (peerDemand v) v).handovers = v.handovers
        rw [settle_config (vFrame.1.isRun.trans config)]
      · have combined : Combined v.prof := by
          rw [vProf]
          exact combined_of_profileInv inv
        have still : w = v := refreshPeerDemand_same combined (vProf ▸ peer)
        exact ⟨none_ (congrArg State.handovers still), (congrArg State.prof still).trans vProf,
          congrArg State.cport still⟩
    · rw [result]
      exact (vFrame.mono (by decide)).trans ((heardEntry_frame e.status v).mono (by decide))
  · rw [ran, acceptFrame_full (s := u) absent full pinned]
    rfl

end Sys2Proof.Claims
end

section
/-! TRIPCO: the restraint records, the timers and the episodes of restraint. -/

namespace Sys2Proof.Claims

open Sys2Proof Sys2Proof.Machine

variable {s t u : State} {a : Byte}

/-! ### The records (R137 to R141) -/

theorem isDownstream_iff (a : Byte) (s : State) : isDownstream a s = true ↔ downstreamOf a s := by
  simp [isDownstream, downstreamOf, and_assoc]

/-- A RESTRAIN starts the hold of a record, or extends it, and shortens none that a TRIP set (R138). -/
theorem restrain_eq {hold : Ms} {g : Restraint → Restraint} (x : Restraint)
    (started : x.held = false → g x = { x with held := true, tripped := false, expiry := some hold })
    (extended : x.held = true → x.tripped = false → g x = { x with expiry := some hold })
    (kept : ∀ old : Ms, x.held = true → x.tripped = true → x.expiry = some old →
      g x = { x with expiry := some (if reached old hold = true then old else hold) })
    (set_ : x.held = true → x.tripped = true → x.expiry = none → g x = { x with expiry := some hold }) :
    x.restrain hold = g x := by
  unfold Restraint.restrain
  cases held : x.held with
  | false => exact (started held).symm
  | true =>
    cases tripped : x.tripped with
    | false => simp [extended held tripped, held, tripped]
    | true =>
      cases expiry : x.expiry with
      | none => simp [set_ held tripped expiry, held, tripped]
      | some old => simp [kept old held tripped expiry, held, tripped]

/-- Settles O36: a frame of a downstream neighbour is its change of that neighbour's record; of another it is
nothing. -/
theorem restraintRecordsFollowFrames : Obligations.RestraintRecordsFollowFrames := by
  intro a s at_ map up isAt isMap
  obtain rfl : at_ = fun c => takeHandOver c s := funext isAt
  obtain rfl : map = onRecord a := funext fun g => funext (isMap g)
  have same : ∀ c, isDownstream a (takeHandOver c s) = isDownstream a s := fun c => rfl
  refine ⟨fun other => ?_, fun down => ?_⟩
  · have other : isDownstream a s = false := by rwa [← Bool.not_eq_true, isDownstream_iff]
    refine ⟨fun r => ?_, ?_, fun x => ?_, fun t => ?_, fun op => ?_⟩
    · simp [exec, execRestrainReceived, awake, up, takeRestrain, same, other]
    · simp [exec, execReleaseReceived, awake, up, takeRelease, same, other]
    · simp [exec, execStateFrameReceived, awake, up, takeStateFrame, same, other]
    · simp [exec, execTripFrameReceived, awake, up, takeTripFrame, same, other]
    · simp [exec, execBreakerFailReceived, awake, up, takeBreakerFail, same, other]
  · have down := (isDownstream_iff a s).2 down
    refine ⟨fun r g hold isHold isG => ?_, ?_, fun x => ⟨fun opened => ?_, fun closed => ?_⟩, fun t => ?_, fun op => ?_⟩
    · subst isHold
      have rule : Restraint.restrain (after s.now s.image.restraintHold) = g := funext fun x => by
        obtain ⟨started, extended, kept, set_⟩ := isG x
        exact restrain_eq x started extended kept set_
      rw [← rule]
      simp [exec, execRestrainReceived, awake, up, takeRestrain, same, down]
    · simp [exec, execReleaseReceived, awake, up, takeRelease, same, down]
      rfl
    · simp [exec, execStateFrameReceived, awake, up, takeStateFrame, same, down, opened]
      rfl
    · simp [exec, execStateFrameReceived, awake, up, takeStateFrame, same, down, closed]
    · simp [exec, execTripFrameReceived, awake, up, takeTripFrame, same, down]
      rfl
    · simp [exec, execBreakerFailReceived, awake, up, takeBreakerFail, same, down]
      rfl

/-! ### Timers and episodes (R142, R144 to R147) -/

theorem restrainCondition_iff (s : State) : restrainCondition s = true ↔ s.elem.summary = true ∧
    (s.sequencer.st = .closedRest ∨ s.sequencer.st = .reclaim ∨ s.sequencer.st = .tripping) := by
  unfold restrainCondition
  cases s.sequencer.st <;> simp

theorem restraintInstant_none (free : ∀ r ∈ s.tripco.records, r.address = a → r.held = false) :
    restraintInstant a s = none := by
  rw [restraintInstant, List.find?_eq_none.2 (fun r mem => by simpa using free r mem)]
  rfl

/-- Settles O37: the record that expires is cleared, the refresh repeats the RESTRAIN, and an episode begins with a
RESTRAIN and ends with a RELEASE unless it tripped. -/
theorem restraintEpisodesAndTimers : Obligations.RestraintEpisodesAndTimers := by
  refine ⟨?_, ?_⟩
  · rintro s _ at_ up rfl
    refine ⟨fun a free => ?_, fun a r found timer => ?_, fun timer fresh => ?_, fun timer stale => ?_⟩
    · simp [exec, execRestraintExpiry, awake, up, restraintInstant_none free]
    · have instant_ : restraintInstant a s = some at_ := by rw [restraintInstant, found]; exact timer
      have ran : exec (.restraintExpiry a) s = .next (onRecord a Restraint.clear (s.arriveAt at_)) := by
        simp [exec, execRestraintExpiry, awake, up, instant_]
      exact ran
    · simp [exec, execRefreshTimerExpiry, awake, up, timer, refreshRestraint, fresh]
      rfl
    · simp [exec, execRefreshTimerExpiry, awake, up, timer, refreshRestraint, stale]
  · rintro s _ condition rfl isCondition
    rw [← restrainCondition_iff] at isCondition
    refine ⟨fun holds free => ?_, fun holds runs => ?_, fun ends runs => ?_, fun ends free => ?_⟩
    · rw [tripcoReview, if_pos (isCondition.1 holds), if_neg (by simp [free]), beginEpisode, beq_decide]
      rfl
    · rw [tripcoReview, if_pos (isCondition.1 holds), if_pos runs, noteTripping, beq_decide]
    · rw [tripcoReview, if_neg (fun h => ends (isCondition.2 h)), if_pos runs]
      unfold endEpisode
      cases s.tripco.tripTaken
      · rfl
      · simp [placements]
    · rw [tripcoReview, if_neg (fun h => ends (isCondition.2 h)), if_neg (by simp [free])]

end Sys2Proof.Claims
end

section
/-! HUNT: reports that join the table, captures that end, and rounds that open. -/

namespace Sys2Proof.Claims

open Sys2Proof Sys2Proof.Machine

variable {s t u v w : State} {a : Byte} {round : Round}

/-! ### The hunt table (R160) -/

theorem dropOldestOther_eq {before after_ : List HuntReport} {x : HuntReport} (other : x.relation = .other)
    (none_ : ∀ y ∈ before, y.relation ≠ .other) : dropOldestOther (before ++ x :: after_) = before ++ after_ := by
  induction before with
  | nil => exact if_pos other
  | cons y l ih =>
    rw [List.cons_append, dropOldestOther, if_neg (none_ y List.mem_cons_self),
      ih fun z mem => none_ z (List.mem_cons_of_mem _ mem)]
    rfl

theorem inserted_insertReport (r : HuntReport) (l : List HuntReport) : Inserted r l (insertReport r l) := by
  have present : l.any (fun e => e.station == r.station) = true ↔ ∃ x ∈ l, x.station = r.station := by simp
  refine ⟨fun known => if_pos (present.2 known), fun new room => ?_, fun before after_ x eq full new other none_ => ?_⟩
  · have new : ¬ l.any (fun e => e.station == r.station) = true := fun h => by
      obtain ⟨x, mem, same⟩ := present.1 h
      exact new x mem same
    rw [insertReport, if_neg new, if_pos room]
  · have new : ¬ l.any (fun e => e.station == r.station) = true := fun h => by
      obtain ⟨x, mem, same⟩ := present.1 h
      exact new x mem same
    have drops : l.any (fun e => e.relation == .other) = true := by
      rw [List.any_eq_true]
      exact ⟨x, by simp [eq], by simp [other]⟩
    rw [insertReport, if_neg new, if_neg (by omega), if_pos drops, eq, dropOldestOther_eq other none_]

/-! ### The end of a capture (R155 to R157, R159) -/

theorem ownRound_eq (known : s.hunt.round = some round) : s.hunt.ownRound = round := by
  rw [HuntState.ownRound, known]
  rfl

theorem endCapture_eq (known : s.hunt.round = some round) (r : OwnReport) : endCapture r s = { s with
    hunt := { s.hunt with
      ownReport := some r, phase := .collect, table := insertReport (ownEntry s.address round r) s.hunt.table },
    handovers := s.handovers ++ placements [.huntReport (reportFrame round r)] } := by
  rw [← ownRound_eq known]
  rfl

theorem captureEnds_endCapture (known : s.hunt.round = some round) (c : Capture) (r : OwnReport) :
    CaptureEnds round c r s (endCapture r { s with hunt := { s.hunt with capture := c } }) := by
  let x : State := { s with hunt := { s.hunt with capture := c } }
  have known' : x.hunt.round = some round := known
  rw [endCapture_eq (s := x) known']
  refine ⟨⟨_, inserted_insertReport (ownEntry s.address round r) s.hunt.table, rfl⟩, rfl, rfl, ?_⟩
  simp [EventFrame, Frame, sameBlock, sameSettings, sameTransaction, x]

theorem checkCapture_complete (enough : 8 ≤ s.hunt.capture.taken) :
    checkCapture s = endCapture (completeReport s.hunt.capture) s :=
  if_pos enough

theorem checkCapture_incomplete (few : s.hunt.capture.taken < 8)
    (over_ : 12 ≤ s.hunt.capture.taken + s.hunt.capture.lost) :
    checkCapture s = endCapture (incompleteReport s.hunt.capture) s := by
  rw [checkCapture, if_neg (by omega), if_pos over_]

theorem checkCapture_goes_on (few : s.hunt.capture.taken < 8)
    (more : s.hunt.capture.taken + s.hunt.capture.lost < 12) : checkCapture s = s := by
  rw [checkCapture, if_neg (by omega), if_neg (by omega)]

theorem huntPosition_of_opened (phase : s.hunt.phase = .capture) (position : s.fin.position = .opened) :
    huntPosition s = endCapture (openReport s.hunt.capture) s :=
  if_pos ⟨phase, position⟩

theorem huntPosition_of_not_opened (position : s.fin.position ≠ .opened) : huntPosition s = s :=
  if_neg fun h => position h.2

/-! ### The opening of a round (R152) -/

theorem enterCapture_closed (position : s.fin.position ≠ .opened) : enterCapture s = { s with
    hunt := { s.hunt with deadlineAt := some (after s.now 600), phase := .capture } } :=
  huntPosition_of_not_opened position

theorem enterCapture_opened (known : s.hunt.round = some round) (zero : s.hunt.capture = Capture.zero)
    (position : s.fin.position = .opened) : enterCapture s = { s with
      hunt := { s.hunt with
        deadlineAt := some (after s.now 600), phase := .collect,
        ownReport := some { mag := 0, dir := .undetermined, isOpen := true, incomplete := false },
        table := insertReport { station := s.address, relation := .own, mag := 0, dir := .undetermined, isOpen := true,
                                incomplete := false, round := round, crossed := false } s.hunt.table },
      handovers := s.handovers ++ placements [openReportFrame round] } := by
  let x : State := { s with hunt := { s.hunt with deadlineAt := some (after s.now 600), phase := .capture } }
  have known' : x.hunt.round = some round := known
  have report : openReport x.hunt.capture =
      { mag := 0, dir := .undetermined, isOpen := true, incomplete := false } := by
    rw [show x.hunt.capture = Capture.zero from zero]
    rfl
  rw [enterCapture, huntPosition_of_opened (s := x) rfl position, report, endCapture_eq known']
  rfl

theorem enterCapture_places (known : s.hunt.round = some round) (zero : s.hunt.capture = Capture.zero) :
    enterCapture s = { s with
      hunt := (enterCapture s).hunt, handovers := s.handovers ++ placements (openReports round s) } := by
  by_cases position : s.fin.position = .opened
  · rw [openReports, if_pos position, enterCapture_opened known zero position]
  · rw [openReports, if_neg position, enterCapture_closed position]
    simp [placements]

/-- HUNT at the moment a round opens, the station's own sequence number `n` (R152 steps 1 to 4). -/
def opening (round : Round) (n : Byte) (s : State) : State :=
  { s with hunt := { s.hunt.begin round (lastCycle s.meas) with ownSeq := n } }

/-- A round opens, and the frames `fs` are placed before the station's own report (R152). -/
def openRound (round : Round) (n : Byte) (fs : List OwnedFrame) (s : State) : State :=
  enterCapture
    { placeBlock (huntKey round) .hold none (opening round n s) with
      handovers := (placeBlock (huntKey round) .hold none (opening round n s)).handovers ++ placements fs }

theorem joinRound_eq (round : Round) (s : State) : joinRound round s = openRound round s.hunt.ownSeq [] s := by
  simp only [openRound, placements, List.map_nil, List.append_nil]
  rfl

theorem callRound_eq (s : State) :
    callRound s = openRound (nextOwnRound s) (s.hunt.ownSeq + 1) [.huntCall s.hunt.ownSeq] s := rfl

section OpenRound

variable {n : Byte} {fs : List OwnedFrame}

/-- The station with the record of its round, before it captures (R152 steps 5 and 6). -/
def recorded (round : Round) (n : Byte) (fs : List OwnedFrame) (s : State) : State :=
  { placeBlock (huntKey round) .hold none (opening round n s) with
    handovers := (placeBlock (huntKey round) .hold none (opening round n s)).handovers ++ placements fs }

theorem openRound_recorded (round : Round) (n : Byte) (fs : List OwnedFrame) (s : State) :
    openRound round n fs s = enterCapture (recorded round n fs s) := rfl

theorem recorded_frame (round : Round) (n : Byte) (fs : List OwnedFrame) (s : State) :
    EventFrame [.meas, .elem, .link, .hunt] (opening round n s) (recorded round n fs s) :=
  (placeBlock_frame (huntKey round) .hold none (opening round n s)).trans (by
    simp [EventFrame, Frame, sameBlock, sameSettings, sameTransaction, recorded])

theorem recorded_hunt : (recorded round n fs s).hunt = (opening round n s).hunt :=
  (recorded_frame round n fs s).1.1 .hunt (by decide)

theorem recorded_position : (recorded round n fs s).fin.position = s.fin.position := by
  simp [recorded, opening]

theorem recorded_now : (recorded round n fs s).now = s.now := (recorded_frame round n fs s).1.2.2

theorem recorded_address : (recorded round n fs s).address = s.address := (recorded_frame round n fs s).1.address

theorem openRound_closed (position : s.fin.position ≠ .opened) : (openRound round n fs s).hunt =
    { (opening round n s).hunt with deadlineAt := some (after s.now 600), phase := .capture } := by
  rw [openRound_recorded, enterCapture_closed (by rwa [recorded_position])]
  simp only [recorded_hunt, recorded_now]

theorem openRound_opened (position : s.fin.position = .opened) : (openRound round n fs s).hunt =
    { (opening round n s).hunt with
      deadlineAt := some (after s.now 600), phase := .collect,
      ownReport := some { mag := 0, dir := .undetermined, isOpen := true, incomplete := false },
      table := [{ station := s.address, relation := .own, mag := 0, dir := .undetermined, isOpen := true,
                  incomplete := false, round := round, crossed := false }] } := by
  rw [openRound_recorded, enterCapture_opened (round := round) (by rw [recorded_hunt]; rfl)
    (by rw [recorded_hunt]; rfl) (by rwa [recorded_position])]
  simp only [recorded_hunt, recorded_now, recorded_address]
  rfl

theorem openRound_blk : (openRound round n fs s).blk = (recorded round n fs s).blk := by
  simp [openRound_recorded]

theorem openRound_ownSeq : (openRound round n fs s).hunt.ownSeq = n := by
  by_cases position : s.fin.position = .opened
  · rw [openRound_opened position]; rfl
  · rw [openRound_closed position]; rfl

theorem roundOpened_openRound (round : Round) (n : Byte) (fs : List OwnedFrame) (s : State) :
    RoundOpened round s (openRound round n fs s) := by
  have stored : hasKey (huntKey round) (openRound round n fs s).blk.table = true ∨
      (openRound round n fs s).blk.overflow = true := by
    rw [openRound_blk]
    exact placeBlock_stored (huntKey round) .hold none (opening round n s)
  by_cases position : s.fin.position = .opened
  · rw [RoundOpened, openRound_opened position]
    exact ⟨rfl, rfl, rfl, rfl, rfl, rfl, rfl, rfl, rfl, rfl, stored, fun h => absurd position h, fun _ => ⟨rfl, rfl, rfl⟩⟩
  · rw [RoundOpened, openRound_closed position]
    exact ⟨rfl, rfl, rfl, rfl, rfl, rfl, rfl, rfl, rfl, rfl, stored, fun _ => ⟨rfl, rfl, rfl⟩, fun h => absurd h position⟩

theorem openReports_congr (position : t.fin.position = s.fin.position) :
    openReports round t = openReports round s := by
  rw [openReports, position, openReports]

theorem placements_append (fs gs : List OwnedFrame) : placements (fs ++ gs) = placements fs ++ placements gs :=
  List.map_append

theorem roundTaken_openRound (round : Round) (n : Byte) (fs : List OwnedFrame) (s : State) :
    RoundTaken round (fs ++ openReports round s) s (storeBlock (huntKey round) .hold none (opening round n s))
      (openRound round n fs s) := by
  refine ⟨(opening round n s).hunt, placeBlock (huntKey round) .hold none (opening round n s), rfl,
    stored_storeBlock .., storeTaken_placeBlock .., ?_⟩
  rw [openRound_recorded]
  refine (enterCapture_places (round := round) (by rw [recorded_hunt]; rfl) (by rw [recorded_hunt]; rfl)).trans ?_
  rw [openReports_congr recorded_position, placements_append, ← List.append_assoc]
  rfl

theorem eventFrame_openRound (round : Round) (n : Byte) (fs : List OwnedFrame) (s : State) :
    EventFrame [.meas, .elem, .link] s (openRound round n fs s) := by
  have begun : EventFrame [.meas, .elem, .link] s (opening round n s) := by
    simp [opening, EventFrame, Frame, sameBlock, sameSettings, sameTransaction]
  refine begun.trans (((recorded_frame round n fs s).mono (by decide)).trans ?_)
  rw [openRound_recorded]
  simp [EventFrame, Frame, sameBlock, sameSettings, sameTransaction]

end OpenRound

end Sys2Proof.Claims
end

section
/-! HUNT: the calls and reports of other stations, and the captures. -/

namespace Sys2Proof.Claims

open Sys2Proof Sys2Proof.Machine

variable {s t u v w : State} {a : Byte} {round : Round}

/-! ### Calls (R149 to R153) -/

theorem exec_huntCallReceived {source n : Byte} (up : s.resetHeld = false) (run : s.isRun = true) :
    exec (.huntCallReceived source n) s =
      .next (takeCall { caller := source, seqNo := n } (takeHandOver (.huntCallReceived source n) s)) := by
  have run' : (takeHandOver (.huntCallReceived source n) s).isRun = true := run
  simp [exec, execHuntCallReceived, awake, up, run']

theorem exec_huntCallReceived_config {source n : Byte} (up : s.resetHeld = false) (config : s.isRun = false) :
    exec (.huntCallReceived source n) s = .next (takeHandOver (.huntCallReceived source n) s) := by
  have config' : (takeHandOver (.huntCallReceived source n) s).isRun = false := config
  simp [exec, execHuntCallReceived, awake, up, config']

theorem takeCall_idle (phase : s.hunt.phase = .idle) :
    takeCall round s = if s.huntEnable = true then joinRound round s else s := by
  rw [takeCall, phase]

theorem takeCall_capture (phase : s.hunt.phase = .capture) : takeCall round s =
    if s.hunt.round = some round then s else { s with hunt := { s.hunt with crossed := bump s.hunt.crossed } } := by
  rw [takeCall, phase]

theorem takeCall_busy (phase : s.hunt.phase = .collect ∨ s.hunt.phase = .cooldown) :
    takeCall round s = { s with hunt := { s.hunt with ignored := bump s.hunt.ignored } } := by
  rcases phase with phase | phase <;> rw [takeCall, phase]

theorem cmdStartHunt_opens (run : s.isRun = true) (phase : s.hunt.phase = .idle) (enabled : s.huntEnable = true) :
    cmdStartHunt s = replyAfter (callRoundBy (fun k => storeBlock k .hold none) s) (callRound s) :=
  if_pos ⟨run, phase, enabled⟩

theorem statusByte_congr (cport : t.cport = s.cport) (meas : t.meas = s.meas) : statusByte t = statusByte s := by
  simp [statusByte, State.isRun, cport, meas]

/-- Of the early status of a START HUNT, BLK's part is the whole. -/
theorem statusByte_callRoundBy (s : State) : statusByte (callRoundBy (fun k => storeBlock k .hold none) s) =
    statusByte (storeBlock (huntKey (nextOwnRound s)) .hold none (opening (nextOwnRound s) (s.hunt.ownSeq + 1) s)) := by
  refine statusByte_congr ?_ ?_ <;> simp [callRoundBy, opening, placeFrame]

theorem AnsweredAs.congr {r : Result} {l : List Byte} (h : AnsweredAs r l u w t) (same : statusByte u = statusByte v) :
    AnsweredAs r l v w t := by
  rwa [AnsweredAs, ← same]

/-- Settles O38: a call joins a round that is not running, counts where it is another's, and START HUNT opens one. -/
theorem huntRoundsOpen : Obligations.HuntRoundsOpen := by
  refine fun s up => ⟨?_, fun closed => ?_, ?_⟩
  · rintro source n _ round rfl rfl
    refine ⟨fun closed => ?_, fun run phase other => ?_, fun run phase => ?_, fun run phase enabled => ?_⟩
    · by_cases run : s.isRun = true
      · rw [exec_huntCallReceived up run]
        rcases closed with config | ⟨phase, disabled⟩ | ⟨phase, same⟩
        · exact absurd (config.symm.trans run) (by decide)
        · rw [takeCall_idle (by exact phase)]
          exact congrArg _ (if_neg fun enabled => absurd (disabled.symm.trans enabled) (by decide))
        · rw [takeCall_capture (by exact phase)]
          exact congrArg _ (if_pos same)
      · exact exec_huntCallReceived_config up (Bool.eq_false_iff.2 run)
    · rw [exec_huntCallReceived up run, takeCall_capture (by exact phase)]
      exact congrArg _ (if_neg other)
    · rw [exec_huntCallReceived up run, takeCall_busy (by exact phase)]
      rfl
    · let u : State := takeHandOver (.huntCallReceived source n) s
      have ran : exec (.huntCallReceived source n) s =
          .next (openRound { caller := source, seqNo := n } s.hunt.ownSeq [] u) := by
        rw [exec_huntCallReceived up run, takeCall_idle (by exact phase)]
        exact congrArg _ ((if_pos enabled).trans (joinRound_eq ..))
      refine ⟨_, _, ran, roundOpened_openRound _ _ _ u, openRound_ownSeq, roundTaken_openRound _ _ [] u, ?_⟩
      refine EventFrame.trans (t := u) ?_ (eventFrame_openRound ..)
      simp [EventFrame, Frame, sameBlock, sameSettings, sameTransaction, u]
  · refine onlyAnswers_reply rfl up (if_neg ?_)
    rintro ⟨run, phase, enabled⟩
    rcases closed with config | other | disabled
    · exact absurd (config.symm.trans run) (by decide)
    · exact other phase
    · exact absurd (disabled.symm.trans enabled) (by decide)
  · rintro round rfl run phase enabled
    obtain ⟨t, ran, answered⟩ := exec_replyAfter (c := .startHunt) rfl up (cmdStartHunt_opens run phase enabled)
    rw [callRound_eq] at answered
    have left := answered.leaves.1
    have hunt := left.1 .hunt (by decide)
    have blk := left.1 .blk (by decide)
    refine ⟨t, _, _, ran, ?_, ?_, roundTaken_openRound _ _ [.huntCall s.hunt.ownSeq] s,
      answered.congr (statusByte_callRoundBy s), (eventFrame_openRound ..).1.trans (left.mono (by decide))⟩
    · have opened := roundOpened_openRound (nextOwnRound s) (s.hunt.ownSeq + 1) [.huntCall s.hunt.ownSeq] s
      rwa [RoundOpened, ← show t.hunt = _ from hunt, ← show t.blk = _ from blk] at opened
    · rw [show t.hunt = _ from hunt]
      exact openRound_ownSeq

/-! ### Reports and verdicts (R160, R161, R165) -/

theorem exec_huntReportReceived {r : ReportInfo} (up : s.resetHeld = false) : exec (.huntReportReceived a r) s =
    .next (takeReport a r (takeHandOver (.huntReportReceived a r) s)) :=
  awake_eq (f := fun s => takeReport a r (takeHandOver (.huntReportReceived a r) s)) up

theorem exec_huntVerdictReceived (up : s.resetHeld = false) : exec (.huntVerdictReceived a round) s =
    .next (takeVerdict a (takeHandOver (.huntVerdictReceived a round) s)) :=
  awake_eq (f := fun s => takeVerdict a (takeHandOver (.huntVerdictReceived a round) s)) up

theorem takeReport_stores {r : ReportInfo} (phase : s.hunt.phase = .capture ∨ s.hunt.phase = .collect) :
    takeReport a r s = storeReport (receivedEntry a r s) s := by
  rcases phase with phase | phase <;> rw [takeReport, phase]

theorem takeReport_ignored {r : ReportInfo} (phase : s.hunt.phase = .idle ∨ s.hunt.phase = .cooldown) :
    takeReport a r s = s := by
  rcases phase with phase | phase <;> rw [takeReport, phase]

theorem relationOf_eq {rel : Relation} (absent : findNeighbour a s.link.table = none → rel = .other)
    (known : ∀ e : Neighbour, findNeighbour a s.link.table = some e → rel = e.relation) : relationOf a s = rel := by
  have unfolded : relationOf a s = ((findNeighbour a s.link.table).map (·.relation)).getD .other := rfl
  rw [unfolded]
  cases found : findNeighbour a s.link.table with
  | none => exact (absent found).symm
  | some e => exact (known e found).symm

theorem receivedEntry_eq {r : ReportInfo} {rel : Relation} (absent : findNeighbour a s.link.table = none → rel = .other)
    (known : ∀ e : Neighbour, findNeighbour a s.link.table = some e → rel = e.relation) : receivedEntry a r s =
      { station := a, relation := rel, mag := r.mag, dir := r.dir, isOpen := r.isOpen, incomplete := r.incomplete,
        round := r.round, crossed := decide (s.hunt.round ≠ some r.round) } := by
  rw [receivedEntry, relationOf_eq absent known]

theorem takeVerdict_heard (phase : s.hunt.phase = .capture ∨ s.hunt.phase = .collect) : takeVerdict a s =
    { s with hunt := { s.hunt with heardOwner := some (s.hunt.heardOwner.getD a) } } := by
  rcases phase with phase | phase <;> rw [takeVerdict, phase]

theorem takeVerdict_cooldown (phase : s.hunt.phase = .cooldown) : takeVerdict a s =
    if s.hunt.verdict = .uncertain ∧ reportedForward a s.hunt = true then resolveUncertain a s else s := by
  rw [takeVerdict, phase]

theorem takeVerdict_idle (phase : s.hunt.phase = .idle) : takeVerdict a s = s := by
  rw [takeVerdict, phase]

theorem reportedForward_iff (a : Byte) (h : HuntState) :
    reportedForward a h = true ↔ ∃ x ∈ h.table, x.station = a ∧ x.dir = .forward := by
  simp [reportedForward]

/-- Settles O39: a report is stored while a round runs; an owner's verdict is noted, and resolves an uncertain one. -/
theorem huntFramesAreTaken : Obligations.HuntFramesAreTaken := by
  refine fun source s up => ⟨?_, ?_⟩
  · rintro r _ rfl
    refine ⟨fun phase => ?_, ?_⟩
    · rw [exec_huntReportReceived up, takeReport_ignored (by exact phase)]
      rfl
    · rintro _ rel absent known rfl phase
      refine ⟨_, inserted_insertReport _ _, ?_⟩
      rw [exec_huntReportReceived up, takeReport_stores (by exact phase),
        receivedEntry_eq (s := takeHandOver (.huntReportReceived source r) s) absent known]
      rfl
  · rintro round _ rfl
    let u : State := takeHandOver (.huntVerdictReceived source round) s
    refine ⟨fun phase => ?_, fun phase => ?_, fun phase other => ?_, fun own phase uncertain known forward => ?_⟩
    · rw [exec_huntVerdictReceived up, takeVerdict_idle (by exact phase)]
      rfl
    · rw [exec_huntVerdictReceived up, takeVerdict_heard (by exact phase)]
      rfl
    · rw [exec_huntVerdictReceived up, takeVerdict_cooldown (by exact phase)]
      refine congrArg _ (if_neg fun h => ?_)
      obtain ⟨uncertain, forward⟩ := h
      obtain ⟨x, mem, station, dir⟩ := (reportedForward_iff ..).1 forward
      exact other.elim (fun v => v uncertain) (fun none_ => none_ x mem station dir)
    · have ran : exec (.huntVerdictReceived source round) s = .next (resolveUncertain source u) := by
        rw [exec_huntVerdictReceived up, takeVerdict_cooldown (by exact phase)]
        exact congrArg _ (if_pos ⟨uncertain, (reportedForward_iff ..).2 forward⟩)
      refine ⟨_, ran, rfl, rfl, ?_, rfl, ?_⟩
      · rw [← ownRound_eq known]
        rfl
      · simp [resolveUncertain, EventFrame, Frame, sameBlock, sameSettings, sameTransaction, u]

/-! ### Captures (R149, R155 to R157, R159) -/

theorem huntCycle_takes (phase : s.hunt.phase = .capture) (taken : s.hunt.excluded ≠ some s.meas.cycleSerial) :
    huntCycle s = checkCapture { s with hunt := { s.hunt with capture := s.hunt.capture.take s.meas.last } } :=
  if_pos ⟨phase, taken⟩

theorem huntLost_counts (phase : s.hunt.phase = .capture) : huntLost s =
    checkCapture { s with hunt := { s.hunt with capture := { s.hunt.capture with lost := s.hunt.capture.lost + 1 } } } :=
  if_pos phase

theorem huntStep_idle (phase : s.hunt.phase = .idle) {n : Nat}
    (arm : n = if s.elem.sefPickup = true then min (s.hunt.arm + 1) 5 else 0) : huntStep s =
      if n = 5 ∧ s.huntEnable = true then callRound { s with hunt := { s.hunt with arm := n } }
      else { s with hunt := { s.hunt with arm := n } } := by
  subst arm
  exact if_pos phase

/-- Settles O40: the three events that end a capture, and the five steps that call a round. -/
theorem capturesTakeCycles : Obligations.CapturesTakeCycles := by
  refine ⟨fun s round c phase known taken lost isSum fwd rev => ⟨fun excluded => ?_, fun included => ?_⟩,
    ?_, fun s round phase known => ⟨fun position => ?_, fun position => ?_⟩, fun s phase => ⟨?_, ?_, ?_⟩, ?_⟩
  · exact if_neg fun h => h.2 excluded
  · have next_ : s.hunt.capture.take s.meas.last = c := by
      cases c
      simp only at taken lost isSum fwd rev
      subst taken lost isSum fwd rev
      rw [Capture.take]
      congr 1 <;> split <;> rfl
    rw [huntCycle_takes phase included, next_]
    refine ⟨fun enough => ?_, fun few over_ => ?_, fun more few => ?_⟩
    · rw [checkCapture_complete (by exact enough)]
      exact captureEnds_endCapture known c _
    · rw [checkCapture_incomplete (by exact few) (by exact over_)]
      exact captureEnds_endCapture known c _
    · exact checkCapture_goes_on (by exact few) (by exact more)
  · rintro s round _ phase known rfl few
    rw [huntLost_counts phase]
    refine ⟨fun over_ => ?_, fun more => ?_⟩
    · rw [checkCapture_incomplete (by exact few) (by exact over_)]
      exact captureEnds_endCapture known _ _
    · exact checkCapture_goes_on (by exact few) (by exact more)
  · rw [huntPosition_of_opened phase position]
    exact captureEnds_endCapture known s.hunt.capture _
  · exact huntPosition_of_not_opened position
  · exact if_neg fun h => phase h.1
  · exact if_neg phase
  · exact if_neg fun h => phase h.1
  · intro s n arm
    refine ⟨fun phase => if_neg phase, fun phase not_ => ?_, ?_⟩
    · rw [huntStep_idle phase arm, if_neg]
      rintro ⟨five, enabled⟩
      rcases not_ with few | disabled
      · omega
      · exact absurd (disabled.symm.trans enabled) (by decide)
    · rintro phase five enabled round rfl
      let x : State := { s with hunt := { s.hunt with arm := n } }
      have called : huntStep s = openRound (nextOwnRound s) (s.hunt.ownSeq + 1) [.huntCall s.hunt.ownSeq] s := by
        rw [huntStep_idle phase arm, if_pos ⟨five, enabled⟩]
        exact callRound_eq x
      rw [called]
      exact ⟨roundOpened_openRound .., openRound_ownSeq, ⟨_, roundTaken_openRound _ _ [.huntCall s.hunt.ownSeq] s⟩,
        eventFrame_openRound ..⟩

end Sys2Proof.Claims
end

section
/-! HUNT: the verdict of a round, what follows from it, and the end of the cooldown. -/

namespace Sys2Proof.Claims

open Sys2Proof Sys2Proof.Machine

variable {s t u v w : State} {a : Byte} {round : Round} {r : OwnReport} {verdict : Verdict} {at_ : Ms}

/-! ### The verdict (R162) -/

theorem seesFault_iff (pickup : Nat) (dir : Direction) (mag : Nat) :
    seesFault pickup dir mag = true ↔ dir = .forward ∧ pickup ≤ mag := by
  simp [seesFault]

theorem classify_seesFault (s : State) (a : Byte) :
    classify s.pickupSef s.hunt s.link.table a = .seesFault ↔ neighbourSees s a := by
  unfold classify neighbourSees
  cases s.hunt.table.find? (fun r => r.station == a) with
  | some r =>
    simp only [Option.some.injEq, exists_eq_left', ← seesFault_iff]
    split <;> simp [*]
  | none =>
    simp only [reduceCtorEq, false_and, exists_false, iff_false]
    split <;> simp

theorem entryClear_iff (e : Neighbour) : entryClear e = true ↔ ¬ (e.pos ≠ .opened ∧ ∀ x : SeqState, e.st = some x →
    x ≠ .lockout ∧ x ≠ .opened ∧ x ≠ .failed ∧ x ≠ .deadTime ∧ x ≠ .deadHold) := by
  unfold entryClear
  cases e.st with
  | none => simp
  | some x => cases x <;> simp

theorem classify_missing (s : State) (a : Byte) :
    classify s.pickupSef s.hunt s.link.table a = .missing ↔ neighbourMissing s a := by
  unfold classify neighbourMissing
  cases s.hunt.table.find? (fun r => r.station == a) with
  | some r =>
    simp only [reduceCtorEq, false_and, iff_false]
    split <;> simp
  | none =>
    simp only [true_and]
    split
    next clear =>
      obtain ⟨e, mem, isClear⟩ := List.any_eq_true.1 clear
      simp only [Bool.and_eq_true, beq_iff_eq, entryClear_iff] at isClear
      simp only [reduceCtorEq, false_iff]
      exact fun open_ => isClear.2 (open_ e mem isClear.1)
    next clear =>
      simp only [true_iff]
      intro e mem address
      refine Classical.byContradiction fun open_ => ?_
      exact clear (List.any_eq_true.2 ⟨e, mem, by simp [address, (entryClear_iff e).2 open_]⟩)

theorem any_seesFault_iff (s : State) :
    (s.image.downstream.map (classify s.pickupSef s.hunt s.link.table)).any (· == .seesFault) = true ↔
      ∃ a ∈ s.image.downstream, neighbourSees s a := by
  simp [classify_seesFault]

theorem any_missing_iff (s : State) :
    (s.image.downstream.map (classify s.pickupSef s.hunt s.link.table)).any (· == .missing) = true ↔
      ∃ a ∈ s.image.downstream, neighbourMissing s a := by
  simp [classify_missing]

theorem decideVerdict_eq (report_ : s.hunt.ownReport = some r) (is_ : VerdictIs r verdict s) :
    decideVerdict s = verdict := by
  obtain ⟨blind, sees⟩ := is_
  rw [decideVerdict, report_]
  show (if seesFault s.pickupSef r.dir r.mag = true then _ else _) = _
  split
  next own =>
    obtain ⟨other, none_⟩ := sees ((seesFault_iff ..).1 own).1 ((seesFault_iff ..).1 own).2
    simp only
    split
    next some_ => exact (other ((any_seesFault_iff s).1 some_)).symm
    next noOne =>
      obtain ⟨missing, all_⟩ := none_ fun a mem h => noOne ((any_seesFault_iff s).2 ⟨a, mem, h⟩)
      split
      next some_ => exact (missing ((any_missing_iff s).1 some_)).symm
      next noOne => exact (all_ fun a mem h => noOne ((any_missing_iff s).2 ⟨a, mem, h⟩)).symm
  next own => exact (blind fun h => own ((seesFault_iff ..).2 h)).symm

theorem decideVerdict_undetermined (report_ : s.hunt.ownReport = some r) (dir : r.dir = .undetermined) :
    decideVerdict s = .notInvolved := by
  simp [decideVerdict, report_, seesFault, dir]

/-! ### What follows from a verdict (R163 to R165) -/

theorem requestOwnerTrip_eq (st : SeqState) (s : State) : ∃ (request : List Instr) (n : Nat),
    requestOwnerTrip st s = { s with handovers := s.handovers ++ request, freeCount := n } ∧
      (request = [.tripRequest .huntOwner] ∨ (st = .deadHold ∧ request = [])) := by
  unfold requestOwnerTrip
  split
  next first_ => exact ⟨[], s.freeCount + 1, by simp [advanceFree], .inr ⟨first_.1, rfl⟩⟩
  next => exact ⟨_, s.freeCount + 1, rfl, .inl rfl⟩

theorem actOnVerdict_eq (verdict : Verdict) (st : SeqState) (s : State) : ∃ (request : List Instr) (n : Nat),
    actOnVerdict verdict st s = { s with
      elem := if verdict = .notOwner then { s.elem with deferral := true } else s.elem,
      handovers := s.handovers ++ (if verdict = .owner then placements [.huntVerdict s.hunt.ownRound] else []) ++ request,
      freeCount := n } ∧
    (verdict ≠ .owner ∨ s.sefTrips = false → request = []) ∧
    (verdict = .owner → s.sefTrips = true →
      request = [.tripRequest .huntOwner] ∨ (st = .deadHold ∧ request = [])) ∧
    (verdict ≠ .owner → n = s.freeCount) := by
  cases verdict with
  | owner =>
    let told : State := placeFrame (.huntVerdict s.hunt.ownRound) s
    have acts : actOnVerdict .owner st s = if s.sefTrips = true then requestOwnerTrip st told else told := rfl
    rw [acts]
    cases trips : s.sefTrips with
    | false => exact ⟨[], s.freeCount, by simp [told, placeFrame, handOver, placements], fun _ => rfl, by simp, by simp⟩
    | true =>
      obtain ⟨request, n, eq, is_⟩ := requestOwnerTrip_eq st told
      refine ⟨request, n, eq, by simp, fun _ _ => is_, by simp⟩
  | notOwner => exact ⟨[], s.freeCount, by simp [actOnVerdict, setDeferral], fun _ => rfl, by simp, by simp⟩
  | none => exact ⟨[], s.freeCount, by simp [actOnVerdict], fun _ => rfl, by simp, by simp⟩
  | uncertain => exact ⟨[], s.freeCount, by simp [actOnVerdict], fun _ => rfl, by simp, by simp⟩
  | notInvolved => exact ⟨[], s.freeCount, by simp [actOnVerdict], fun _ => rfl, by simp, by simp⟩

/-- A station with a running round is not at rest, so PROF keeps its profile when the record of a round goes
(R107). -/
theorem removeBlock_prof {k : BlockKey} (phase : s.hunt.phase ≠ .idle) : (removeBlock k s).prof = s.prof := by
  unfold removeBlock
  split
  · let x : State := { s with blk := { s.blk with table := removeRecord k s.blk.table } }
    show (seqBlockChange x).prof = x.prof
    by_cases st : x.sequencer.st = .deadHold
    · obtain ⟨-, prof, -, frame⟩ := unmoved_judgeBlocks (hold := fun t => t) (Unmoved.refl x)
      have hunt : (judgeBlocks (fun t => t) x).hunt = s.hunt := frame.1.1 .hunt (by decide)
      rw [seqBlockChange, if_pos st, (restTaken_profRest _).1 fun rests => phase (hunt ▸ rests.2.2.2)]
      exact prof
    · rw [seqBlockChange, if_neg st]
  · rfl

theorem removeBlock_frame (k : BlockKey) (s : State) :
    EventFrame [.meas, .elem, .link, .hunt] s (removeBlock k s) := by
  unfold removeBlock
  split
  · refine EventFrame.trans ?_ ((seqBlockChange_frame _).mono (by decide))
    simp [EventFrame, Frame, sameBlock, sameSettings, sameTransaction]
  · exact EventFrame.refl s

theorem removeBlock_sequencer {k : BlockKey} (st : s.sequencer.st ≠ .deadHold) :
    (removeBlock k s).sequencer = s.sequencer := by
  unfold removeBlock
  split
  · rw [seqBlockChange, if_neg (by exact st)]
  · rfl

theorem removeBlock_removes (k : BlockKey) (s : State) : hasKey k (removeBlock k s).blk.table = false := by
  rw [← Bool.not_eq_true]
  unfold removeBlock
  split
  · let x : State := { s with blk := { s.blk with table := removeRecord k s.blk.table } }
    have blk : (seqBlockChange x).blk = x.blk := (seqBlockChange_frame x).1.1 .blk (by decide)
    rw [show (seqBlockChange x).blk.table = without k s.blk.table from congrArg BlkState.table blk, hasKey_iff]
    rintro ⟨r, mem, key⟩
    simp [without, key] at mem
  · assumption

/-- The state of a round whose record has gone, its verdict held (R163 steps 1 and 2). -/
def freed (verdict : Verdict) (s : State) : State :=
  removeBlock (huntKey s.hunt.ownRound) { s with hunt := { s.hunt with verdict := verdict } }

theorem freed_frame (verdict : Verdict) (s : State) :
    EventFrame [.meas, .elem, .link, .hunt] { s with hunt := { s.hunt with verdict := verdict } } (freed verdict s) :=
  removeBlock_frame ..

theorem freed_hunt (verdict : Verdict) (s : State) : (freed verdict s).hunt = { s.hunt with verdict := verdict } :=
  (freed_frame verdict s).1.1 .hunt (by decide)

theorem freed_sefTrips (phase : s.hunt.phase ≠ .idle) : (freed verdict s).sefTrips = s.sefTrips := by
  rw [State.sefTrips, (freed_frame verdict s).1.image, freed, removeBlock_prof (by exact phase)]
  rfl

/-- The notice of a verdict (R163). -/
def verdictNote (verdict : Verdict) (s : State) : Notice :=
  note .huntVerdict s.hunt.ownRound.caller (pair s.hunt.ownRound.seqNo.toNat (verdictCode verdict))
    (pair (if verdict = .owner then s.address else s.hunt.heardOwner.getD 0).toNat
      (min (s.hunt.crossed + s.hunt.ignored) 255)) s

theorem giveVerdict_eq (verdict : Verdict) (s : State) : ∃ (request : List Instr) (n : Nat),
    giveVerdict verdict s = { freed verdict s with
      hunt := { s.hunt with
        verdict := verdict, deadlineAt := none, cooldownAt := some (after s.now 5000), phase := .cooldown },
      elem := if verdict = .notOwner then { s.elem with deferral := true } else s.elem,
      cport := (freed verdict s).cport.queue s.image.attnMask (verdictNote verdict s),
      handovers := (freed verdict s).handovers ++
        (if verdict = .owner then placements [.huntVerdict s.hunt.ownRound] else []) ++ request,
      freeCount := n } ∧
    (verdict ≠ .owner ∨ (freed verdict s).sefTrips = false → request = []) ∧
    (verdict = .owner → (freed verdict s).sefTrips = true →
      request = [.tripRequest .huntOwner] ∨ (s.sequencer.st = .deadHold ∧ request = [])) ∧
    (verdict ≠ .owner → n = (freed verdict s).freeCount) := by
  obtain ⟨frame, -⟩ := freed_frame verdict s
  have now : (freed verdict s).now = s.now := frame.2.2
  have image : (freed verdict s).image = s.image := frame.image
  have address : (freed verdict s).address = s.address := frame.address
  have elem : (freed verdict s).elem = s.elem := frame.1 .elem (by decide)
  have told : queueVerdict (verdictOwner verdict (freed verdict s)) (freed verdict s) = { freed verdict s with
      cport := (freed verdict s).cport.queue s.image.attnMask (verdictNote verdict s) } := by
    have notice : verdictNote verdict s = note .huntVerdict (freed verdict s).hunt.ownRound.caller
        (pair (freed verdict s).hunt.ownRound.seqNo.toNat (verdictCode (freed verdict s).hunt.verdict))
        (pair (verdictOwner verdict (freed verdict s)).toNat
          (min ((freed verdict s).hunt.crossed + (freed verdict s).hunt.ignored) 255)) (freed verdict s) := by
      rw [verdictOwner, freed_hunt, address, note, now]
      rfl
    rw [notice, ← image]
    rfl
  obtain ⟨request, n, acted, none_, owner, count⟩ := actOnVerdict_eq verdict s.sequencer.st { freed verdict s with
    cport := (freed verdict s).cport.queue s.image.attnMask (verdictNote verdict s) }
  have trips : State.sefTrips { freed verdict s with
      cport := (freed verdict s).cport.queue s.image.attnMask (verdictNote verdict s) } = (freed verdict s).sefTrips := by
    simp [State.sefTrips, State.image, queue_settings]
  refine ⟨request, n, ?_, trips ▸ none_, trips ▸ owner, count⟩
  have unfolded : giveVerdict verdict s = enterCooldown (actOnVerdict verdict s.sequencer.st
    (queueVerdict (verdictOwner verdict (freed verdict s)) (freed verdict s))) := rfl
  rw [unfolded, told, acted, enterCooldown]
  simp only [freed_hunt, elem, now]
  rfl

/-! ### The deadline and the cooldown (R158, R159, R162 to R166) -/

theorem exec_roundDeadlineExpiry (up : s.resetHeld = false) (timer : s.hunt.deadlineAt = some at_) :
    exec .roundDeadlineExpiry s = .next (reachDeadline (s.arriveAt at_)) := by
  simp [exec, execRoundDeadlineExpiry, awake, up, timer]

theorem exec_cooldownExpiry (up : s.resetHeld = false) (timer : s.hunt.cooldownAt = some at_) :
    exec .cooldownExpiry s = .next (endCooldown (s.arriveAt at_)) := by
  simp [exec, execCooldownExpiry, awake, up, timer]

theorem reachDeadline_collect (phase : s.hunt.phase = .collect) :
    reachDeadline s = giveVerdict (decideVerdict s) s := by
  simp [reachDeadline, phase]

/-- The capture that the deadline cuts off, reported (R158). -/
def cutOff (s : State) : State := report (incompleteReport s.hunt.capture) s

theorem reachDeadline_capture (phase : s.hunt.phase = .capture) :
    reachDeadline s = giveVerdict .notInvolved (cutOff s) := by
  have verdict : decideVerdict (cutOff s) = .notInvolved := decideVerdict_undetermined (s := cutOff s) rfl rfl
  rw [← verdict]
  simp [reachDeadline, phase, cutOff]

theorem giveVerdict_notInvolved (s : State) : giveVerdict .notInvolved s = { freed .notInvolved s with
    hunt := { s.hunt with
      verdict := .notInvolved, deadlineAt := none, cooldownAt := some (after s.now 5000), phase := .cooldown },
    elem := s.elem,
    cport := (freed .notInvolved s).cport.queue s.image.attnMask (verdictNote .notInvolved s) } := by
  obtain ⟨request, n, given, none_, -, count⟩ := giveVerdict_eq .notInvolved s
  obtain rfl := none_ (.inl (by decide))
  obtain rfl := count (by decide)
  simpa using given

theorem freed_drops (known : s.hunt.round = some round) :
    DropsRecord { source := .hunt, origin := round.caller, tag := half round.seqNo.toNat }
      { s with hunt := { s.hunt with verdict := verdict } } (freed verdict s) := by
  rw [freed, ownRound_eq known]
  exact dropsRecord_removeBlock ..

theorem freed_removes (known : s.hunt.round = some round) :
    hasKey { source := .hunt, origin := round.caller, tag := half round.seqNo.toNat }
      (freed verdict s).blk.table = false := by
  rw [freed, ownRound_eq known]
  exact removeBlock_removes ..

theorem giveVerdict_leaves (s : State) {n : Nat} {h : HuntState} {e : ElemState} {x : Notice} {l : List Instr} :
    EventFrame [.meas, .link] s { freed verdict s with
      hunt := h, elem := e, cport := (freed verdict s).cport.queue s.image.attnMask x, handovers := l,
      freeCount := n } := by
  refine EventFrame.trans (t := { s with hunt := { s.hunt with verdict := verdict } }) ?_
    (((freed_frame verdict s).mono (by decide)).trans ?_)
  · simp [EventFrame, Frame, sameBlock, sameSettings, sameTransaction]
  · simp [EventFrame, Frame, sameBlock, sameSettings, sameTransaction, queue_settings]

/-- Settles O41: the verdict the table gives, with the record gone, the notice, the frame and the request it calls for;
and the phase that ends. -/
theorem huntRoundsEnd : Obligations.HuntRoundsEnd := by
  rintro s _ at_ up rfl
  let u : State := s.arriveAt at_
  refine ⟨fun r verdict round timer phase own known is_ => ?_, fun timer phase => ?_, fun timer => ?_⟩
  · have round_ : u.hunt.ownRound = round := ownRound_eq known
    have decided : decideVerdict u = verdict := decideVerdict_eq own is_
    obtain ⟨request, n, given, none_, owner, -⟩ := giveVerdict_eq verdict u
    rw [freed_sefTrips (s := u) (show s.hunt.phase ≠ .idle by rw [phase]; decide)] at none_ owner
    have ran : exec .roundDeadlineExpiry s = .next (giveVerdict verdict u) := by
      rw [exec_roundDeadlineExpiry up timer, reachDeadline_collect (s := u) phase, decided]
    refine ⟨_, freed verdict u, request, n, ran, ?_, ?_, none_, owner, ?_, fun st => ?_, ?_⟩
    · exact freed_drops (s := u) known
    · rw [given, verdictNote, round_]
      rfl
    · rw [given]
      exact freed_removes (s := u) known
    · rw [given]
      exact removeBlock_sequencer (by exact st)
    · rw [given]
      exact giveVerdict_leaves u
  · have ran : exec .roundDeadlineExpiry s = .next (giveVerdict .notInvolved (cutOff u)) := by
      rw [exec_roundDeadlineExpiry up timer, reachDeadline_capture (s := u) phase]
    rw [giveVerdict_notInvolved] at ran
    refine ⟨_, ran, rfl, rfl, rfl, rfl, rfl, rfl, ?_⟩
    rintro round _ known rfl
    have round_ : (cutOff u).hunt.ownRound = round := ownRound_eq (s := cutOff u) known
    have cut : cutOff u = { u with
        hunt := { s.hunt with
          ownReport := some (incompleteReport s.hunt.capture),
          table := insertReport (ownEntry s.address round (incompleteReport s.hunt.capture)) s.hunt.table },
        handovers := s.handovers ++ placements [.huntReport (reportFrame round (incompleteReport s.hunt.capture))] } := by
      rw [← round_]
      rfl
    refine ⟨freed_removes (s := cutOff u) known, freed .notInvolved (cutOff u),
      insertReport (ownEntry s.address round (incompleteReport s.hunt.capture)) s.hunt.table,
      inserted_insertReport .., ?_, ?_⟩
    · have dropped := freed_drops (s := cutOff u) (verdict := .notInvolved) known
      rw [cut] at dropped ⊢
      exact dropped
    · obtain ⟨frame, -⟩ := freed_frame .notInvolved (cutOff u)
      have image : (freed .notInvolved (cutOff u)).image = (cutOff u).image := frame.image
      have elem : (freed .notInvolved (cutOff u)).elem = (cutOff u).elem := frame.1 .elem (by decide)
      rw [image, verdictNote, round_, freed_hunt, ← elem]
      rfl
  · let x : State := { u with hunt := { s.hunt with phase := .idle, cooldownAt := none } }
    have taken : RestTaken x (profRest x) := restTaken_profRest x
    refine ⟨_, exec_cooldownExpiry up timer, taken, fun calm => ?_, ?_⟩
    · have still : endCooldown (s.arriveAt at_) = x := taken.1 fun rests => calm rests.1
      rw [still]
      exact ⟨rfl, rfl, rfl⟩
    · refine EventFrame.trans (t := x) ?_ (taken.frame.2.2.2.2.mono (by decide))
      simp [EventFrame, Frame, sameBlock, sameSettings, sameTransaction, x, u]

end Sys2Proof.Claims
end

section
/-! The step of the part, the timers that are stopped, and the state after a power-on reset. -/

namespace Sys2Proof.Claims

open Sys2Proof Sys2Proof.Machine

variable {s t u : State}

/-! ### Timers and samples whose instant has come -/

theorem due_iff_dueNow (s : State) (timer : Option Ms) : due s.now timer = true ↔ DueNow s timer := by
  cases timer with
  | none => simp [due, DueNow]
  | some at_ => simp [due, DueNow, reached]

theorem whenDue_eq_some {timer : Option Ms} {c e : Instr} :
    whenDue s timer c = some e ↔ e = c ∧ DueNow s timer := by
  rw [whenDue, ← due_iff_dueNow]
  split <;> simp [*, eq_comm]

theorem seqExpiryEvent_eq_some {e : Instr} : seqExpiryEvent s = some e ↔
    ((s.sequencer.st = .tripping ∧ e = .tripFailExpiry) ∨ (s.sequencer.st = .deadTime ∧ e = .deadTimeExpiry) ∨
      (s.sequencer.st = .deadHold ∧ e = .holdMaxExpiry) ∨ (s.sequencer.st = .closing ∧ e = .closeFailExpiry) ∨
      (s.sequencer.st = .reclaim ∧ e = .reclaimExpiry)) ∧ DueNow s s.sequencer.timer := by
  unfold seqExpiryEvent
  cases s.sequencer.st <;> simp [whenDue_eq_some]

theorem txExpiryEvent_eq_some {e : Instr} : txExpiryEvent s = some e ↔
    ((s.link.tx = .defer ∧ e = .deferQuietExpiry) ∨ (s.link.tx = .backoff ∧ e = .backoffExpiry) ∨
      (s.link.tx = .keyup ∧ e = .keyupExpiry) ∨ (s.link.tx = .keydown ∧ e = .keydownExpiry)) ∧
    DueNow s s.link.txTimer := by
  unfold txExpiryEvent
  cases s.link.tx <;> simp [whenDue_eq_some]

theorem blockExpiryEvent_expires {e : Instr} (found : blockExpiryEvent s = some e) :
    ∃ r ∈ s.blk.table, e = .blockRecordExpiry r.key ∧ DueNow s r.expiry := by
  obtain ⟨r, first_, rfl⟩ := Option.map_eq_some_iff.1 found
  have now : due s.now r.expiry = true := by simpa using List.find?_some first_
  exact ⟨r, List.mem_of_find?_eq_some first_, rfl, (due_iff_dueNow ..).1 now⟩

theorem blockExpiryEvent_none (none_ : blockExpiryEvent s = none) {r : BlockRecord} (mem : r ∈ s.blk.table) :
    ¬ DueNow s r.expiry := fun now => by
  have first_ := List.find?_eq_none.1 (Option.map_eq_none_iff.1 none_) r mem
  exact first_ ((due_iff_dueNow ..).2 now)

theorem restraintExpiryEvent_expires {e : Instr} (found : restraintExpiryEvent s = some e) :
    ∃ r ∈ s.tripco.records, r.held = true ∧ e = .restraintExpiry r.address ∧ DueNow s r.expiry := by
  obtain ⟨r, first_, rfl⟩ := Option.map_eq_some_iff.1 found
  have held_now : (r.held && due s.now r.expiry) = true := by simpa using List.find?_some first_
  obtain ⟨held, now⟩ := Bool.and_eq_true_iff.1 held_now
  exact ⟨r, List.mem_of_find?_eq_some first_, held, rfl, (due_iff_dueNow ..).1 now⟩

theorem restraintExpiryEvent_none (none_ : restraintExpiryEvent s = none) {r : Restraint}
    (mem : r ∈ s.tripco.records) (held : r.held = true) : ¬ DueNow s r.expiry := fun now => by
  have first_ := List.find?_eq_none.1 (Option.map_eq_none_iff.1 none_) r mem
  exact first_ (Bool.and_eq_true_iff.2 ⟨held, (due_iff_dueNow ..).2 now⟩)

/-- The expiry of a neighbour entry (R126). -/
def EntryExpires (s : State) (n : Neighbour) (e : Instr) : Prop :=
  (n.status = .fresh ∧ e = .neighbourQuietExpiry n.address ∧ DueNow s n.quietAt) ∨
    (n.status = .quiet ∧ e = .neighbourLostExpiry n.address ∧ DueNow s n.lostAt)

/-- The event of a neighbour entry, if it has one. -/
def entryEvent (s : State) (n : Neighbour) : Option Instr :=
  match n.status with
  | .fresh => whenDue s n.quietAt (.neighbourQuietExpiry n.address)
  | .quiet => whenDue s n.lostAt (.neighbourLostExpiry n.address)
  | .lost => none

theorem entryEvent_eq_some {n : Neighbour} {e : Instr} : entryEvent s n = some e ↔ EntryExpires s n e := by
  unfold entryEvent EntryExpires
  cases n.status <;> simp [whenDue_eq_some]

theorem neighbourExpiryEvent_eq (s : State) : neighbourExpiryEvent s = s.link.table.findSome? (entryEvent s) := rfl

theorem neighbourExpiryEvent_expires {e : Instr} (found : neighbourExpiryEvent s = some e) :
    ∃ n ∈ s.link.table, EntryExpires s n e := by
  obtain ⟨n, mem, is_⟩ := List.exists_of_findSome?_eq_some ((neighbourExpiryEvent_eq s).symm.trans found)
  exact ⟨n, mem, entryEvent_eq_some.1 is_⟩

theorem neighbourExpiryEvent_none (none_ : neighbourExpiryEvent s = none) {n : Neighbour} {e : Instr}
    (mem : n ∈ s.link.table) : ¬ EntryExpires s n e := fun is_ => by
  have silent := List.findSome?_eq_none_iff.1 ((neighbourExpiryEvent_eq s).symm.trans none_) n mem
  exact absurd (silent.symm.trans (entryEvent_eq_some.2 is_)) (by simp)

/-! ### One step -/

theorem dueEvent_expires {e : Instr} (found : dueEvent s = some e) : Expires s e := by
  obtain ⟨x, mem, is_⟩ := List.exists_of_findSome?_eq_some found
  obtain rfl : x = some e := is_
  simp only [List.mem_cons, List.not_mem_nil, or_false] at mem
  unfold Expires
  rcases mem with h | h | h | h | h | h | h | h | h | h | h | h | h | h | h <;> have h := h.symm
  · exact .inl (whenDue_eq_some.1 h)
  · exact .inr (.inl (whenDue_eq_some.1 h))
  · exact .inr (.inr (.inl (whenDue_eq_some.1 h)))
  · exact .inr (.inr (.inr (.inl (whenDue_eq_some.1 h))))
  · exact .inr (.inr (.inr (.inr (.inl (whenDue_eq_some.1 h)))))
  · exact .inr (.inr (.inr (.inr (.inr (.inl (seqExpiryEvent_eq_some.1 h))))))
  · exact .inr (.inr (.inr (.inr (.inr (.inr (.inl (blockExpiryEvent_expires h)))))))
  · exact .inr (.inr (.inr (.inr (.inr (.inr (.inr (.inl (whenDue_eq_some.1 h))))))))
  · exact .inr (.inr (.inr (.inr (.inr (.inr (.inr (.inr (.inl (neighbourExpiryEvent_expires h)))))))))
  · exact .inr (.inr (.inr (.inr (.inr (.inr (.inr (.inr (.inr (.inl (txExpiryEvent_eq_some.1 h))))))))))
  · exact .inr (.inr (.inr (.inr (.inr (.inr (.inr (.inr (.inr (.inr (.inl (whenDue_eq_some.1 h)))))))))))
  · exact .inr (.inr (.inr (.inr (.inr (.inr (.inr (.inr (.inr (.inr (.inr (.inl (restraintExpiryEvent_expires h))))))))))))
  · exact .inr (.inr (.inr (.inr (.inr (.inr (.inr (.inr (.inr (.inr (.inr (.inr (.inl (whenDue_eq_some.1 h)))))))))))))
  · exact .inr (.inr (.inr (.inr (.inr (.inr (.inr (.inr (.inr (.inr (.inr (.inr (.inr (.inl (whenDue_eq_some.1 h))))))))))))))
  · exact .inr (.inr (.inr (.inr (.inr (.inr (.inr (.inr (.inr (.inr (.inr (.inr (.inr (.inr (whenDue_eq_some.1 h))))))))))))))

theorem dueEvent_none (none_ : dueEvent s = none) (e : Instr) : ¬ Expires s e := by
  have silent := List.findSome?_eq_none_iff.1 none_
  simp only [List.mem_cons, List.not_mem_nil, or_false, forall_eq_or_imp, forall_eq, id_eq] at silent
  obtain ⟨silence, period, static_, pulse, disc, seq, block, relax, neighbour, tx, beacon, restraint, refresh, deadline,
    cooldown⟩ := silent
  have never : ∀ {timer : Option Ms} {c : Instr}, whenDue s timer c = none → ¬ (e = c ∧ DueNow s timer) :=
    fun none_ is_ => absurd (none_.symm.trans (whenDue_eq_some.2 is_)) (by simp)
  rintro (h | h | h | h | h | h | ⟨r, mem, -, now⟩ | h | ⟨n, mem, h⟩ | h | h | ⟨r, mem, held, -, now⟩ | h | h | h)
  · exact never silence h
  · exact never period h
  · exact never static_ h
  · exact never pulse h
  · exact never disc h
  · exact absurd (seq.symm.trans (seqExpiryEvent_eq_some.2 h)) (by simp)
  · exact blockExpiryEvent_none block mem now
  · exact never relax h
  · exact neighbourExpiryEvent_none neighbour mem h
  · exact absurd (tx.symm.trans (txExpiryEvent_eq_some.2 h)) (by simp)
  · exact never beacon h
  · exact restraintExpiryEvent_none restraint mem held now
  · exact never refresh h
  · exact never deadline h
  · exact never cooldown h

theorem ownEvent_idle (up : s.resetHeld = false) (idle : s.handovers = []) : ownEvent s = dueEvent s := by
  simp [ownEvent, up, idle]

theorem step_own {e : Instr} (empty : s.pending = []) (own : ownEvent s = some e) : step s = exec e s := by
  simp only [step, empty, own]

theorem step_none (empty : s.pending = []) (none_ : ownEvent s = none) : step s = .next (tick s) := by
  simp only [step, empty, none_]

theorem tick_up (up : s.resetHeld = false) : tick s = { s with now := s.now + 1 } := by
  simp [tick, up]

/-- Settles O1: the queue first, then a hand-over, then a timer that has run out, else a millisecond. -/
theorem stepRunsTheCommandInFront : Obligations.StepRunsTheCommandInFront := by
  intro s
  refine ⟨fun c rest queued => ?_, fun empty e own => step_own empty own, fun empty none_ up => ?_, fun empty held => ?_,
    fun empty up => ⟨fun e rest first_ => ?_, fun idle some_ => ?_, fun idle none_ => ?_⟩⟩
  · simp only [step, queued]
    rfl
  · rw [step_none empty none_, tick_up up]
  · rw [step_none empty (by simp [ownEvent, held])]
    simp [tick, held]
  · exact step_own empty (by simp [ownEvent, up, first_])
  · cases found : dueEvent s with
    | some e => exact ⟨e, dueEvent_expires found, step_own empty ((ownEvent_idle up idle).trans found)⟩
    | none =>
      obtain ⟨e, is_⟩ := some_
      exact absurd is_ (dueEvent_none found e)
  · cases found : dueEvent s with
    | some e => exact absurd (dueEvent_expires found) (none_ e)
    | none => rw [step_none empty ((ownEvent_idle up idle).trans found), tick_up up]

/-! ### A held reset and stopped timers (R176, R56) -/

theorem awake_still {f : State → State} (still : f s = s) : awake f s = .next s := by
  rw [awake, still, ite_self]

theorem seqExpiry_stopped {st : SeqState} {f : State → State} (off : s.sequencer.timer = none) :
    seqExpiry st f s = s := by
  simp [seqExpiry, off]

theorem seqExpiry_other {st : SeqState} {f : State → State} (other : s.sequencer.st ≠ st) : seqExpiry st f s = s :=
  if_neg other

theorem txExpiry_stopped {st : TxState} {f : State → State} (off : s.link.txTimer = none) : txExpiry st f s = s := by
  simp [txExpiry, off]

theorem txExpiry_other {st : TxState} {f : State → State} (other : s.link.tx ≠ st) : txExpiry st f s = s :=
  if_neg other

/-- Settles O3: every row but the two of the reset waits for its release, and an expiry looks at its own timer. -/
theorem heldResetAndStoppedTimersDoNothing : Obligations.HeldResetAndStoppedTimersDoNothing := by
  refine fun s => ⟨fun held c notReset notRelease => ?_, fun off => ?_, fun off => ?_, fun off => ?_,
    fun off => ⟨awake_still (seqExpiry_stopped off), awake_still (seqExpiry_stopped off),
      awake_still (seqExpiry_stopped off), awake_still (seqExpiry_stopped off), awake_still (seqExpiry_stopped off)⟩,
    fun st => awake_still (seqExpiry_other st), fun st => awake_still (seqExpiry_other st),
    fun st => awake_still (seqExpiry_other st), fun st => awake_still (seqExpiry_other st),
    fun st => awake_still (seqExpiry_other st), fun off => ?_,
    fun off => ⟨awake_still (txExpiry_stopped off), awake_still (txExpiry_stopped off),
      awake_still (txExpiry_stopped off), awake_still (txExpiry_stopped off)⟩,
    fun tx => awake_still (txExpiry_other tx), fun tx => awake_still (txExpiry_other tx),
    fun tx => awake_still (txExpiry_other tx), fun tx => awake_still (txExpiry_other tx),
    fun off => ?_, fun off => ?_, fun off => ?_, fun off => ?_⟩
  · cases c with
    | powerOnReset k => exact absurd rfl (notReset k)
    | resetnRelease => exact absurd rfl notRelease
    | _ => exact congrArg Host.Outcome.next (if_pos held)
  · simp [exec, execFrameSilenceExpiry, awake, off]
  · simp [exec, execSensePeriodStart, awake, off]
  · simp [exec, execDiscrepancyTimeout, awake, off]
  · simp [exec, execRelaxTimerExpiry, awake, off]
  · simp [exec, execBeaconTimerExpiry, awake, off]
  · simp [exec, execRefreshTimerExpiry, awake, off]
  · simp [exec, execRoundDeadlineExpiry, awake, off]
  · simp [exec, execCooldownExpiry, awake, off]

/-! ### The transaction, byte by byte (R169, R171) -/

theorem exec_commandByteTaken {b : Byte} (up : s.resetHeld = false) :
    exec (.commandByteTaken b) s = .next (takePortByte b s) := awake_eq up

theorem takePortByte_command {b : Byte} (trans : s.cport.trans = .command) :
    takePortByte b s = takeBuffer (s.cport.rxBuf ++ [b]) s := by
  rw [takePortByte, trans]

theorem takeBuffer_long {code length : Byte} {l : List Byte} (long : 24 < length.toNat) :
    takeBuffer (code :: length :: l) s =
      { s with cport := { s.cport with rxBuf := code :: length :: l, trans := .discard } } :=
  if_pos long

theorem takeBuffer_waits {code length : Byte} {l : List Byte} (short : length.toNat ≤ 24)
    (more : l.length ≠ length.toNat + 1) : takeBuffer (code :: length :: l) s = setBuffer (code :: length :: l) s := by
  rw [takeBuffer, if_neg (by omega), if_neg more]

/-- Settles O50: what each byte does in each state of the transaction. -/
theorem transactionsGoByteByByte : Obligations.TransactionsGoByteByByte := by
  intro b s up
  refine ⟨awake_eq up, awake_eq up, fun closed => ?_, fun trans => ?_, fun trans empty => ?_,
    fun code trans one => ⟨fun long => ?_, fun short => ?_⟩, fun code length l trans buffer short more => ?_⟩
  · rw [exec_commandByteTaken up]
    rcases closed with trans | trans <;> rw [takePortByte, trans]
  · rw [exec_commandByteTaken up, takePortByte, trans]
    rfl
  · rw [exec_commandByteTaken up, takePortByte_command trans, empty]
    rfl
  · rw [exec_commandByteTaken up, takePortByte_command trans, one]
    exact congrArg _ (takeBuffer_long long)
  · rw [exec_commandByteTaken up, takePortByte_command trans, one]
    exact congrArg _ (takeBuffer_waits short (by simp))
  · rw [exec_commandByteTaken up, takePortByte_command trans, buffer]
    exact congrArg _ (takeBuffer_waits short (by simp; omega))

/-! ### The state after a power-on reset (R176) -/

theorem profileInv_reset : Safety.ProfileInv State.reset :=
  ⟨by decide, rfl, ⟨fun h => absurd h (by decide), fun _ => rfl⟩, by decide, by decide⟩

theorem sequencerInv_reset : Safety.SequencerInv State.reset :=
  ⟨by decide, by decide, rfl, by decide, by decide, by decide, by decide⟩

theorem transmitInv_reset : Safety.TransmitInv State.reset := ⟨by decide, rfl, by decide, fun _ => ⟨rfl, rfl, rfl⟩⟩

theorem input_reset (n : Nat) : State.reset.input n = none := by
  have same : (List.replicate 8 InputState.reset).getD n InputState.reset = InputState.reset := by
    rw [List.getD_eq_getElem?_getD, List.getElem?_replicate]
    split <;> rfl
  exact congrArg InputState.confirmed same

theorem healthyInv_reset : Safety.HealthyInv State.reset := by
  rw [Safety.healthyInv_iff]
  rfl

/-- Settles O53: the reset values, block by block. -/
theorem resetStateHasTheInvariants : Obligations.ResetStateHasTheInvariants :=
  ⟨sequencerInv_reset, ⟨by decide, by decide⟩, profileInv_reset, ⟨by decide, by decide⟩, ⟨rfl, by decide, by decide⟩,
    healthyInv_reset, transmitInv_reset, ⟨by decide, by decide⟩, ⟨by decide, by decide, by decide, by decide, by decide⟩,
    ⟨by decide, by decide, by decide, by decide, by decide⟩, ⟨by decide, by decide⟩,
    rfl, rfl, rfl, rfl, input_reset, rfl, rfl, rfl, rfl, rfl, rfl, rfl, rfl, rfl, rfl, rfl, rfl⟩

end Sys2Proof.Claims
end

section
/-! The bytes of records: fields laid out one after the other, most significant byte first, are read back. -/

namespace Sys2Proof.Claims

open Sys2Proof Sys2Proof.Machine

variable {s t u : State}

/-! ### Fields laid out one after the other -/

/-- A number in `size` bytes, most significant first. -/
def bigEndian : Nat → Nat → List Byte
  | 0, _ => []
  | size + 1, v => byteOf (v / 256 ^ size) :: bigEndian size v

/-- The fields of a record, each given by its size and its value. -/
def layOut : List (Nat × Nat) → List Byte
  | [] => []
  | (size, v) :: fs => bigEndian size v ++ layOut fs

/-- The fields of a record with the offsets at which they stand. -/
def offsets : Nat → List (Nat × Nat) → List (Nat × Nat × Nat)
  | _, [] => []
  | off, (size, v) :: fs => (off, size, v) :: offsets (off + size) fs

theorem length_bigEndian (size v : Nat) : (bigEndian size v).length = size := by
  induction size with
  | zero => rfl
  | succ size ih => rw [bigEndian, List.length_cons, ih]

/-- A number read from bytes, most significant first. -/
def fromBytes : List Byte → Nat := List.foldl (fun n b => n * 256 + b.toNat) 0

theorem fieldAt_eq_fromBytes {l : List Byte} {off size : Nat} (room : off + size ≤ l.length) :
    fieldAt l off size = fromBytes ((l.drop off).take size) := by
  have bytes : (l.drop off).take size = (List.range size).map (fun k => l.getD (off + k) 0) := by
    refine List.ext_getElem ?_ fun k h _ => ?_
    · simp only [List.length_take, List.length_drop, List.length_map, List.length_range]
      omega
    · simp only [List.length_take, List.length_drop] at h
      rw [List.getElem_take, List.getElem_drop, List.getElem_map, List.getElem_range,
        getD_of_lt l 0 (by omega)]
  rw [bytes, fromBytes, List.foldl_map, fieldAt]

theorem foldl_bigEndian (size v n : Nat) :
    (bigEndian size v).foldl (fun n b => n * 256 + b.toNat) n = n * 256 ^ size + v % 256 ^ size := by
  induction size generalizing n with
  | zero => simp [bigEndian, Nat.mod_one]
  | succ size ih =>
    have split_ : v % 256 ^ (size + 1) = v / 256 ^ size % 256 * 256 ^ size + v % 256 ^ size := by
      rw [Nat.pow_succ, Nat.mod_mul, Nat.mul_comm (256 ^ size)]
      exact Nat.add_comm ..
    rw [bigEndian, List.foldl_cons, ih, toNat_byteOf_mod, split_, Nat.pow_succ, Nat.add_mul, Nat.add_assoc, Nat.mul_assoc,
      Nat.mul_comm 256]

theorem fromBytes_bigEndian (size v : Nat) : fromBytes (bigEndian size v) = v % 256 ^ size := by
  rw [fromBytes, foldl_bigEndian, Nat.zero_mul, Nat.zero_add]

theorem fieldAt_bigEndian (before after_ : List Byte) (size v : Nat) :
    fieldAt (before ++ (bigEndian size v ++ after_)) before.length size = v % 256 ^ size := by
  rw [fieldAt_eq_fromBytes, List.drop_left, List.take_left' (length_bigEndian size v), fromBytes_bigEndian]
  simp [length_bigEndian]

theorem fieldAt_layOut (before : List Byte) (fs : List (Nat × Nat)) : ∀ f ∈ offsets before.length fs,
    fieldAt (before ++ layOut fs) f.1 f.2.1 = f.2.2 % 256 ^ f.2.1 := by
  induction fs generalizing before with
  | nil => exact fun f mem => absurd mem (by simp [offsets])
  | cons g fs ih =>
    obtain ⟨size, v⟩ := g
    intro f mem
    rcases List.mem_cons.1 mem with rfl | mem
    · exact fieldAt_bigEndian before (layOut fs) size v
    · have step_ := ih (before ++ bigEndian size v) f (by rwa [List.length_append, length_bigEndian])
      rwa [List.append_assoc] at step_

theorem length_layOut (fs : List (Nat × Nat)) : (layOut fs).length = (fs.map (·.1)).sum := by
  induction fs with
  | nil => rfl
  | cons g fs ih =>
    obtain ⟨size, v⟩ := g
    rw [layOut, List.length_append, length_bigEndian, ih]
    rfl

/-- A record made of fields reads as any of them, at their offsets. -/
theorem reads_of_layOut {l : List Byte} {fs : List (Nat × Nat)} {length : Nat} {gs : List (Nat × Nat × Nat)}
    (made : l = layOut fs) (sum_ : (fs.map (·.1)).sum = length) (sub : ∀ g ∈ gs, g ∈ offsets 0 fs) :
    Reads l length gs := by
  subst made
  exact ⟨(length_layOut fs).trans sum_, fun g mem => fieldAt_layOut [] fs g (sub g mem)⟩

/-! ### The bytes of the model as fields -/

theorem bigEndian_one (v : Nat) : bigEndian 1 v = [byteOf v] := by
  simp [bigEndian]

theorem bigEndian_two (v : Nat) : bigEndian 2 v = be16 v := by
  simp [bigEndian, be16]

theorem bigEndian_four (v : Nat) : bigEndian 4 v = be32 v := by
  simp [bigEndian, be32]

theorem byteOf_toNat (b : Byte) : byteOf b.toNat = b := by
  simp [byteOf]

theorem be16_toNat (h : Half) : be16 h.toNat = halfBytes h := by
  obtain ⟨hi, lo⟩ := toNat_half_bytes h
  rw [be16, halfBytes]
  rw [← hi, byteOf_toNat]
  exact congrArg (fun b => [_, b]) (BitVec.eq_of_toNat_eq (by rw [lo, toNat_byteOf_mod]))

theorem satByte_eq (n : Nat) : satByte n = byteOf (min n 255) := rfl

theorem flagBit_eq (b : Bool) (n : Nat) : flagBit b n = bitIf (b = true) n := rfl

theorem flagBit_isSome {α : Type} (x : Option α) (n : Nat) [Decidable (x ≠ none)] :
    flagBit x.isSome n = bitIf (x ≠ none) n := by
  cases x <;> simp [flagBit, bitIf]

/-- The codes stand in the order of 11.1. -/
theorem codesOfRecords : CodesOfRecords := by
  unfold CodesOfRecords
  decide

theorem codesOfNotices : CodesOfNotices := by
  unfold CodesOfNotices
  decide

theorem signed32_eq (x : Int) : signed32 x = be32 (x % 4294967296).toNat := by
  rw [signed32, BitVec.toNat_ofInt]
  rfl

/-! ### The records (11.3, 11.5, 11.6) -/

theorem snapshotLaidOut (x : Snapshot) : SnapshotLaidOut x := by
  refine reads_of_layOut (fs := [(2, x.ia), (2, x.ib), (2, x.ic), (2, x.ir), (2, x.is), (2, x.v0),
    (4, (x.p0 % 4294967296).toNat), (1, directionCode x.dir), (2, x.accPh), (2, x.accEf), (2, x.sefCount),
    (1, profileCode x.effective), (1, seqStateCode x.st), (1, x.shot), (1, x.sol), (4, x.time.toNat)])
    ?_ (by simp) (by simp [offsets])
  simp [snapshotBytes, layOut, bigEndian_one, bigEndian_two, bigEndian_four, signed32_eq]

theorem noticeLaidOut (n : Notice) : NoticeLaidOut n := by
  refine reads_of_layOut (fs := [(1, noticeCode n.kind), (1, noticeCategory n.kind), (4, n.time.toNat),
    (1, n.station.toNat), (2, n.detail1.toNat), (2, n.detail2.toNat), (1, n.tagA.toNat), (1, n.tagB.toNat)])
    ?_ (by simp) (by simp [offsets])
  simp [noticeBytes, layOut, bigEndian_one, bigEndian_two, bigEndian_four, byteOf_toNat, be16_toNat]

theorem neighbourLaidOut (e : Neighbour) : NeighbourLaidOut e := by
  refine reads_of_layOut (fs := [(1, e.address.toNat), (1, relationCode e.relation),
    (1, bitIf (e.pinned = true) 0 + bitIf (e.lastHeard ≠ none) 1 + bitIf (e.measFresh = true) 2),
    (1, nbrStatusCode e.status), (1, e.lastSol.getD 0), (4, (e.lastHeard.getD 0).toNat), (1, min e.missed 255),
    (1, profileCode e.ownDemand), (1, profileCode e.effective), (1, (e.st.map seqStateCode).getD 255),
    (1, positionCode e.pos), (1, phaseCode e.phase), (1, e.interval), (2, e.tripFail.getD 0)])
    ?_ (by simp) (by simp [offsets])
  rw [neighbourBytes, flagBit_isSome]
  simp [layOut, bigEndian_one, bigEndian_two, bigEndian_four, byteOf_toNat, instantBytes_getD, satByte_eq, flagBit_eq]

theorem blockLaidOut (r : BlockRecord) : BlockLaidOut r := by
  refine reads_of_layOut (fs := [(1, blockSourceCode r.key.source), (1, r.key.origin.toNat), (2, r.key.tag.toNat),
    (1, blockEffectCode r.effect), (1, bitIf (r.expiry ≠ none) 0), (4, r.setTime.toNat),
    (4, (r.expiry.getD 0).toNat)]) ?_ (by simp) (by simp [offsets])
  simp [blockBytes, layOut, bigEndian_one, bigEndian_two, bigEndian_four, byteOf_toNat, be16_toNat, instantBytes_getD,
    flagBit_isSome]

theorem watchLaidOut (w : Watch) : WatchLaidOut w := by
  refine reads_of_layOut (fs := [(1, w.station.toNat), (1, kindCode w.kind), (1, w.substate.toNat),
    (1, watchModeCode w.mode), (1, watchActionCode w.action1), (1, watchActionCode w.action2), (2, w.blockTag.toNat),
    (1, w.effect.toNat), (2, w.duration.toNat), (1, w.tagA.toNat), (1, w.tagB.toNat)]) ?_ (by simp) (by simp [offsets])
  simp [watchBytes, layOut, bigEndian_one, bigEndian_two, byteOf_toNat, be16_toNat]

theorem huntLaidOut (h : HuntState) (r : HuntReport) : HuntLaidOut h r := by
  constructor
  · refine reads_of_layOut (fs := [(1, phaseCode h.phase),
      (1, ((h.round.map (fun x : Round => x.caller)).getD 0).toNat),
      (1, ((h.round.map (fun x : Round => x.seqNo)).getD 0).toNat), (1, verdictCode h.verdict),
      (1, (h.heardOwner.getD 0).toNat), (1, min h.crossed 255), (1, min h.ignored 255)])
      ?_ (by simp) (by simp [offsets])
    simp [huntHeader, layOut, bigEndian_one, byteOf_toNat, satByte_eq]
  · refine reads_of_layOut (fs := [(1, r.station.toNat), (1, relationCode r.relation), (2, r.mag),
      (1, directionCode r.dir), (1, bitIf (r.isOpen = true) 0 + bitIf (r.incomplete = true) 1 + bitIf (r.crossed = true) 7),
      (1, r.round.caller.toNat), (1, r.round.seqNo.toNat)]) ?_ (by simp) (by simp [offsets])
    simp [huntReportBytes, layOut, bigEndian_one, bigEndian_two, byteOf_toNat, flagBit_eq]

theorem payloadsLaidOut : PayloadsLaidOut := by
  refine ⟨fun op => ?_, fun x => ?_, fun x => ?_, rfl, fun x => ?_, fun n => rfl, fun x => ?_, fun x => ?_, fun x => ?_⟩
  · refine reads_of_layOut (fs := [(1, failedOpCode op)]) ?_ (by simp) (by simp [offsets])
    simp [bodyPayload, ownedPayload, layOut, bigEndian_one]
  · refine reads_of_layOut (fs := [(1, causeCode x.cause), (1, x.shot), (1, x.fail10)]) ?_ (by simp) (by simp [offsets])
    simp [bodyPayload, ownedPayload, layOut, bigEndian_one]
  · refine reads_of_layOut (fs := [(1, bitIf (x.ph = true) 0 + bitIf (x.ef = true) 1 + bitIf (x.phh = true) 2),
      (1, x.tripNo)]) ?_ (by simp) (by simp [offsets])
    simp [bodyPayload, ownedPayload, layOut, bigEndian_one, flagBit_eq]
  · refine reads_of_layOut (fs := [(1, seqStateCode x.st), (1, positionCode x.pos), (1, x.shot)])
      ?_ (by simp) (by simp [offsets])
    simp [bodyPayload, ownedPayload, layOut, bigEndian_one]
  · refine reads_of_layOut (fs := [(1, x.round.caller.toNat), (1, x.round.seqNo.toNat), (2, x.mag),
      (1, directionCode x.dir), (1, bitIf (x.isOpen = true) 0 + bitIf (x.incomplete = true) 1)])
      ?_ (by simp) (by simp [offsets])
    simp [bodyPayload, ownedPayload, layOut, bigEndian_one, bigEndian_two, byteOf_toNat, flagBit_eq]
  · refine reads_of_layOut (fs := [(1, x.caller.toNat), (1, x.seqNo.toNat), (1, 1)]) ?_ (by simp) (by simp [offsets])
    simp [bodyPayload, ownedPayload, layOut, bigEndian_one, byteOf_toNat, verdictCode]
  · refine reads_of_layOut (fs := [(1, profileCode x.ownDemand), (1, profileCode x.effective), (1, seqStateCode x.st),
      (1, positionCode x.pos), (1, bitIf (x.measFresh = true) 0), (1, phaseCode x.phase), (1, x.interval)])
      ?_ (by simp) (by simp [offsets])
    simp [bodyPayload, beaconPayload, layOut, bigEndian_one, bitIf]

/-- Settles O9: the bytes of a snapshot, its request, and its reading. -/
theorem snapshotCommands : Obligations.SnapshotCommands := by
  refine ⟨snapshotLaidOut, codesOfRecords, fun s up => ⟨fun pending => ?_, fun free => ?_, fun r valid held => ?_,
    fun other => ?_⟩⟩
  · exact onlyAnswers_reply rfl up (if_pos pending)
  · refine ⟨_, answeredNow_reply rfl up (if_neg free), answeredNow_enterResponse .., rfl, ?_⟩
    simp [Frame, sameBlock, sameSettings]
  · exact onlyAnswers_replyWith rfl up (by simp [cmdSnapshotRead, valid, held])
  · exact onlyAnswers_replyWith rfl up (by simp [cmdSnapshotRead, other])

/-! ### The status record (R183) -/

/-- The first `k` of a row of flags, added up as bits, are those flags. -/
theorem testBit_sum_flagBit (f : Nat → Bool) (k : Nat) :
    ((List.range k).map (fun n => flagBit (f n) n)).sum < 2 ^ k ∧
      ∀ n : Nat, n < k → ((List.range k).map (fun n => flagBit (f n) n)).sum.testBit n = f n := by
  induction k with
  | zero => simp
  | succ k ih =>
    obtain ⟨small, bits⟩ := ih
    have top : flagBit (f k) k = 2 ^ k * (f k).toNat := by cases f k <;> simp [flagBit]
    rw [List.range_succ, List.map_append, List.sum_append, List.map_singleton, List.sum_singleton, top, Nat.add_comm]
    refine ⟨?_, fun n lt => ?_⟩
    · have le := Nat.mul_le_mul_left (2 ^ k) (Bool.toNat_le (f k))
      rw [Nat.pow_succ]
      omega
    · rw [Nat.testBit_two_pow_mul_add _ small]
      split
      · exact bits n ‹_›
      · obtain rfl : n = k := by omega
        cases f n <;> simp

theorem getLsbD_inputBits (f : Nat → Bool) {n : Nat} (small : n < 8) : (inputBits f).getLsbD n = f n := by
  rw [inputBits, byteOf, BitVec.getLsbD_ofNat, (testBit_sum_flagBit f 8).2 n small]
  simp [small]

theorem restraintHeld_iff (s : State) : restraintHeld s = true ↔ ∃ r ∈ s.tripco.records, r.held = true := by
  simp [restraintHeld]

theorem downstreamLost_iff (s : State) : downstreamLost s = true ↔ ∃ r ∈ s.tripco.records, r.lost = true := by
  simp [downstreamLost]

theorem flagBit_of_iff {b : Bool} {p : Prop} [Decidable p] (h : b = true ↔ p) (n : Nat) : flagBit b n = bitIf p n := by
  simp only [flagBit, bitIf, h]

/-- The fields of the status record, the two bytes of the inputs among them (11.6). -/
def statusFields (s : State) : List (Nat × Nat) :=
  [(1, bitIf (s.isRun = true) 0), (1, s.address.toNat), (1, profileCode s.prof.port), (1, profileCode s.prof.field),
   (1, profileCode s.prof.ownDemand), (1, profileCode s.prof.peer), (1, profileCode s.prof.target),
   (1, profileCode s.prof.effective), (1, relaxCode s.prof.relax), (1, seqStateCode s.sequencer.st),
   (1, s.sequencer.shot), (1, causeCode s.sequencer.lastCause), (1, positionCode s.fin.position),
   (1, (inputBits s.inputSet).toNat), (1, (inputBits (fun n => (s.input n).isSome)).toNat),
   (1, bitIf (s.meas.status = .fresh) 0), (1, min s.meas.lossCount 255), (1, phaseCode s.hunt.phase),
   (1, bitIf (s.blk.overflow = true) 0), (1, min s.blk.table.length 255), (1, min s.blk.watches.length 255),
   (1, min s.link.table.length 255), (1, s.link.sol), (1, txCode s.link.tx),
   (1, bitIf (∃ r ∈ s.tripco.records, r.held = true) 0), (1, bitIf (∃ r ∈ s.tripco.records, r.lost = true) 0),
   (1, min s.cport.notices.length 255), (1, bitIf (s.cport.overflow = true) 0), (1, 0), (4, s.now.toNat)]

theorem statusRecord_eq (s : State) : statusRecord s = layOut (statusFields s) := by
  have fresh : flagBit (s.meas.status == .fresh) 0 = bitIf (s.meas.status = .fresh) 0 :=
    flagBit_of_iff (by simp) 0
  rw [statusRecord, flagBit_of_iff (restraintHeld_iff s), flagBit_of_iff (downstreamLost_iff s), fresh]
  simp [statusFields, layOut, bigEndian_one, bigEndian_four, satByte_eq, flagBit_eq, byteOf]

theorem statusLaidOut (s : State) : StatusLaidOut s := by
  refine ⟨reads_of_layOut (statusRecord_eq s) (by simp [statusFields]) (by simp [statusFields, offsets]),
    fun n small => ⟨?_, ?_⟩⟩
  · rw [show (statusRecord s).getD 13 0 = inputBits s.inputSet from rfl, getLsbD_inputBits _ small, State.inputSet,
      beq_iff_eq]
  · rw [show (statusRecord s).getD 14 0 = inputBits (fun n => (s.input n).isSome) from rfl, getLsbD_inputBits _ small,
      Option.isSome_iff_ne_none]

/-! ### Notices, tables and status (R179 to R183) -/

theorem tablePayload_none {table first count : Byte} (other : table.toNat = 0 ∨ 4 < table.toNat) :
    tablePayload table.toNat first.toNat count.toNat s = none := by
  unfold tablePayload
  split <;> first | rfl | omega

theorem cmdReadTable_refused {table first count : Byte}
    (bad : table.toNat = 0 ∨ 4 < table.toNat ∨ count.toNat = 0 ∨ 4 < count.toNat) :
    cmdReadTable table first count s = reply .refusedRange s := by
  unfold cmdReadTable
  cases payload : tablePayload table.toNat first.toNat count.toNat s with
  | none => rfl
  | some l =>
    refine if_neg fun within_ => ?_
    simp only [within, Bool.and_eq_true, decide_eq_true_eq] at within_
    have table_ : table.toNat = 0 ∨ 4 < table.toNat := by omega
    exact absurd ((tablePayload_none table_).symm.trans payload) (by simp)

theorem cmdReadTable_reads {table first count : Byte} {l : List Byte} (lo : 1 ≤ count.toNat) (hi : count.toNat ≤ 4)
    (payload : tablePayload table.toNat first.toNat count.toNat s = some l) :
    cmdReadTable table first count s = replyWith .accepted l s := by
  rw [cmdReadTable, payload]
  exact if_pos (by simp [within, lo, hi])

theorem queue_room {c : CportState} {mask : Nat} {n : Notice} (room : c.notices.length < 64) :
    c.queue mask n = { c with notices := c.notices ++ [n], attn := attnLevel mask (c.notices ++ [n]) } :=
  if_pos room

theorem queue_full {c : CportState} {mask : Nat} {n : Notice} (full : 64 ≤ c.notices.length) :
    c.queue mask n = { c with overflow := true } :=
  if_neg (by omega)

/-- Settles O48: the layouts of the records, the queue, and the four readings. -/
theorem noticesTablesAndStatusAreRead : Obligations.NoticesTablesAndStatusAreRead := by
  refine ⟨codesOfRecords, codesOfNotices, noticeLaidOut, neighbourLaidOut, blockLaidOut, watchLaidOut, huntLaidOut,
    statusLaidOut, fun c mask n => ⟨fun room => ?_, queue_full⟩, fun s up => ⟨fun empty => ?_, fun n rest first_ => ?_,
    fun n => rfl⟩, fun s table first count record up isRecord => ⟨fun bad => ?_, fun lo hi => ⟨?_, ?_, ?_, ?_⟩, ?_, ?_⟩⟩
  · exact ⟨_, (Safety.enabledQueued_iff ..).symm, queue_room room⟩
  · exact onlyAnswers_replyWith rfl up (by rw [cmdReadNotice, empty])
  · let u : State := refreshAttn { s with cport := { s.cport with notices := rest, overflow := false } }
    have answer : cmdReadNotice s = replyWith .accepted (noticeBytes n ++ [byteOf rest.length]) u := by
      rw [cmdReadNotice, first_]
    refine ⟨enterResponse (statusByte u) .accepted (noticeBytes n ++ [byteOf rest.length]) u, ?_,
      answeredNow_enterResponse .., rfl, rfl, rfl, rfl, ?_⟩
    · rw [exec_command (c := .readNotice) (s := s) rfl up, answer, respond_replyWith]
    · refine Frame.trans (t := u) ?_ (frame_enterResponse ..)
      simp [Frame, allBlocks, sameBlock, sameSettings, u, refreshAttn]
  · exact onlyAnswers_reply rfl up (cmdReadTable_refused bad)
  · rintro rfl
    rw [isRecord]
    exact onlyAnswers_replyWith rfl up (cmdReadTable_reads lo hi rfl)
  · rintro rfl
    rw [isRecord]
    exact onlyAnswers_replyWith rfl up (cmdReadTable_reads lo hi rfl)
  · rintro rfl
    rw [isRecord]
    exact onlyAnswers_replyWith rfl up (cmdReadTable_reads lo hi rfl)
  · rintro rfl
    rw [isRecord]
    exact onlyAnswers_replyWith rfl up (cmdReadTable_reads lo hi rfl)
  · exact onlyAnswers_replyWith rfl up rfl
  · rw [statusRecord_eq, length_layOut]
    simp [statusFields]

end Sys2Proof.Claims
end

section
/-! The check codes bit by bit, the bytes of a response, and the bytes of a frame. -/

namespace Sys2Proof.Claims

open Sys2Proof Sys2Proof.Machine

variable {s t u : State}

/-! ### Check codes (R2, R117, R170) -/

section Crc

variable {w : Nat}

theorem crcByBits_append (poly : BitVec w) (l l' : List Bool) (r : BitVec w) :
    crcByBits poly (l ++ l') r = crcByBits poly l' (crcByBits poly l r) := by
  induction l generalizing r with
  | nil => rfl
  | cons b l ih => rw [List.cons_append, crcByBits, crcByBits, ih]

/-- A word that has joined the register leaves it bit by bit, the topmost first. -/
theorem crcBits_xor (poly : BitVec w) (n : Nat) (r c : BitVec w) : crcBits poly n (r ^^^ c) =
    crcByBits poly ((List.range n).map (fun k => (c <<< k).msb)) r ^^^ (c <<< n) := by
  induction n generalizing r c with
  | zero => simp [crcBits, crcByBits]
  | succ n ih =>
    rw [crcBits_succ, crcBit_xor, ih, List.range_succ_eq_map, List.map_cons, List.map_map, crcByBits]
    simp only [BitVec.shiftLeft_zero, Function.comp_def, ← BitVec.shiftLeft_add, Nat.add_comm 1]

theorem crcOver_eq_crcByBits (poly : BitVec w) (widen : Byte → BitVec w)
    (bits : ∀ (b : Byte) (k : Nat), k < 8 → (widen b <<< k).msb = b.getLsbD (7 - k))
    (gone : ∀ b : Byte, widen b <<< 8 = 0#w) (l : List Byte) (r : BitVec w) :
    crcOver poly (fun r b => r ^^^ widen b) l r = crcByBits poly (bitsOf l) r := by
  induction l generalizing r with
  | nil => rfl
  | cons b l ih =>
    have same : (List.range 8).map (fun k => (widen b <<< k).msb) = (List.range 8).map (fun k => b.getLsbD (7 - k)) :=
      List.map_congr_left fun k mem => bits b k (List.mem_range.1 mem)
    rw [crcOver_cons, crcBits_xor, gone, same, ih, BitVec.xor_zero, ← crcByBits_append]
    rfl

theorem crc8_eq_crcByBits (initial : Byte) (l : List Byte) : crc8 initial l = crcByBits 0x07#8 (bitsOf l) initial := by
  refine crcOver_eq_crcByBits 0x07#8 id (fun b k small => ?_) (fun b => ?_) l initial
  · have inside : ¬ (7 < k) := by omega
    simp only [id, BitVec.msb_eq_getLsbD_last, BitVec.getLsbD_shiftLeft]
    simp [inside, -BitVec.getLsbD_eq_getElem]
  · simp

theorem crc16_eq_crcByBits (initial : Half) (l : List Byte) :
    crc16 initial l = crcByBits 0x1021#16 (bitsOf l) initial := by
  refine crcOver_eq_crcByBits 0x1021#16 (fun b => (b ++ 0#8 : BitVec 16)) (fun b k small => ?_) (fun b => ?_) l initial
  · have inside : ¬ (15 < k) := by omega
    have high : ¬ (15 - k < 8) := by omega
    have place : 15 - k - 8 = 7 - k := by omega
    rw [BitVec.msb_eq_getLsbD_last, BitVec.getLsbD_shiftLeft, BitVec.getLsbD_append]
    simp [inside, high, place]
  · refine BitVec.eq_of_getLsbD_eq fun i small => ?_
    rw [BitVec.getLsbD_shiftLeft, BitVec.getLsbD_append]
    by_cases low : i < 8
    · simp [low]
    · have top : i - 8 < 8 := by omega
      simp [top]

end Crc

/-! ### The lengths of the commands (R170, 11.4) -/

/-- A command code and a payload are a command where the length is that of the command. -/
theorem isSome_parseCommand {code : Nat} (known : code ∈ commandCodes) (l : List Byte) :
    (parseCommand code l).isSome = true ↔ lengthFits code l.length := by
  simp only [commandCodes, List.mem_cons, List.not_mem_nil, or_false] at known
  rcases known with rfl | rfl | rfl | rfl | rfl | rfl | rfl | rfl | rfl | rfl | rfl | rfl | rfl | rfl | rfl | rfl | rfl |
    rfl | rfl <;>
  simp [parseCommand, lengthFits, parseLoad_isSome, parseWatch_isSome, parse0_isSome, parse1_isSome, parse2_isSome,
    parse3_isSome, parse4_isSome, -List.length_eq_zero_iff]

/-! ### Judging a command (R170) -/

section Judge

variable {code length crc : Byte} {payload : List Byte}

theorem judge_unknownCommand (good : crc = crc8 0xFF ([code, length] ++ payload)) (unknown : code.toNat ∉ commandCodes) :
    judge code length payload crc = .rejected .unknownCommand := by
  rw [judge, if_neg (by simp [good]), if_neg (by simpa using unknown)]

theorem judge_refusedRange (good : crc = crc8 0xFF ([code, length] ++ payload)) (known : code.toNat ∈ commandCodes)
    (bad : ¬ lengthFits code.toNat payload.length) : judge code length payload crc = .rejected .refusedRange := by
  have none_ : parseCommand code.toNat payload = none := by
    rwa [← isSome_parseCommand known, Option.isSome_iff_ne_none, ne_eq, Classical.not_not] at bad
  rw [judge, if_neg (by simp [good]), if_pos (by simpa using known), none_]

theorem judge_command (good : crc = crc8 0xFF ([code, length] ++ payload)) (known : code.toNat ∈ commandCodes)
    (whole : payload.length = length.toNat) (fits : lengthFits code.toNat payload.length) :
    ∃ c : HostCommand, judge code length payload crc = .passed c := by
  obtain ⟨c, read⟩ := Option.isSome_iff_exists.1 ((isSome_parseCommand known payload).2 fits)
  exact ⟨c, by rw [judge, if_neg (by simp [good]), if_pos (by simpa using known), read]; exact if_pos whole⟩

theorem onlyAnswers_commandRejected {r : Result} (up : s.resetHeld = false)
    (rejected : judge code length payload crc = .rejected r) :
    OnlyAnswers (.commandRejected code length payload crc) r [] s := by
  rw [OnlyAnswers, ← respond_reply]
  simp [exec, execCommandRejected, awake, up, rejected, answer]

end Judge

/-! ### The status byte (R172) -/

theorem statusByte_bits (run attn overflow fresh : Bool) (x : SnapState) :
    let b := byteOf (flagBit run 7 + flagBit attn 6 + flagBit overflow 5 + flagBit fresh 4 + snapCode x)
    b.getLsbD 7 = run ∧ b.getLsbD 6 = attn ∧ b.getLsbD 5 = overflow ∧ b.getLsbD 4 = fresh ∧ b.getLsbD 3 = false ∧
      b.getLsbD 2 = false ∧ b.toNat % 4 = snapCode x := by
  revert run attn overflow fresh
  cases x <;> decide

/-- Settles O49: the check code, the response and its status byte, and the three tests in their order. -/
theorem badCommandsAreRejected : Obligations.BadCommandsAreRejected := by
  refine ⟨crc8_eq_crcByBits, by decide, ?_, fun status r payload s => rfl, fun s => ?_,
    fun s code length crc payload up whole => ⟨fun bad => ?_, fun good => ⟨fun unknown => ?_, fun known bad => ?_,
      fun known fits => ?_⟩⟩⟩
  · rintro status r payload _ rfl
    rw [responseBytes, crc8_eq_crcByBits]
  · obtain ⟨run, attn, overflow, fresh, three, two, snap⟩ := statusByte_bits s.isRun s.cport.attn s.cport.overflow
      (s.meas.status == .fresh) s.meas.snapState
    refine ⟨by rw [statusByte, run], by rw [statusByte, attn], by rw [statusByte, overflow],
      by rw [statusByte, fresh, beq_iff_eq], three, two, fun st => ?_, fun st => ?_, fun st => ?_, fun st => ?_⟩ <;>
    · rw [statusByte, snap, st]
      rfl
  · exact onlyAnswers_commandRejected up (judge_crcError code length crc payload bad)
  · exact onlyAnswers_commandRejected up (judge_unknownCommand good unknown)
  · exact onlyAnswers_commandRejected up (judge_refusedRange good known (by rwa [whole]))
  · obtain ⟨c, passed⟩ := judge_command good known whole (by rwa [whole])
    simp [exec, execCommandRejected, awake, passed]

/-! ### The CRC byte of a command (R169, R170) -/

/-- The command `c` of the table is the host command `h` with the payload and the code it is sent with. -/
def SentAs (c : Instr) (h : HostCommand) (code : Byte) (payload : List Byte) : Prop :=
  code.toNat ∈ commandCodes ∧ parseCommand code.toNat payload = some h ∧
    ∀ s : State, exec c s = hostCommand (runCommand h) s

theorem append_halfBytes (x : Half) : (x.extractLsb' 8 8 ++ x.extractLsb' 0 8 : BitVec 16) = x := half_of_bytes x

theorem sentAs_of_commandBytes {c : Instr} {code : Byte} {payload : List Byte} (wf : c.wf = true)
    (bytes : commandBytes c = some (code, payload)) : ∃ h : HostCommand, SentAs c h code payload := by
  cases c
  case loadSettings area off data =>
    obtain ⟨rfl, rfl⟩ := Prod.mk.inj (Option.some.inj bytes)
    simp only [Instr.wf, Bool.and_eq_true, decide_eq_true_eq] at wf
    refine ⟨.loadSettings area off data, by decide, ?_, fun _ => rfl⟩
    simp [parseCommand, parseLoad, halfBytes, wf, append_halfBytes]
  case tag n d =>
    obtain ⟨rfl, rfl⟩ := Prod.mk.inj (Option.some.inj bytes)
    refine ⟨.tag n d, by decide, ?_, fun _ => rfl⟩
    simp [parseCommand, parse4, halfBytes, append_halfBytes]
  case untag n =>
    obtain ⟨rfl, rfl⟩ := Prod.mk.inj (Option.some.inj bytes)
    refine ⟨.untag n, by decide, ?_, fun _ => rfl⟩
    simp [parseCommand, parse2, halfBytes, append_halfBytes]
  case unblock source origin n =>
    obtain ⟨rfl, rfl⟩ := Prod.mk.inj (Option.some.inj bytes)
    refine ⟨.unblock source origin n, by decide, ?_, fun _ => rfl⟩
    simp [parseCommand, parse4, halfBytes, append_halfBytes]
  case bookWatch w =>
    obtain ⟨rfl, rfl⟩ := Prod.mk.inj (Option.some.inj bytes)
    refine ⟨.bookWatch w, by decide, ?_, fun _ => rfl⟩
    simp [parseCommand, parseWatch, halfBytes, append_halfBytes]
  case start | softReset | selectProfile | clearOverflow | unbookWatch | manualOpen | manualClose | resetFail |
      startHunt | snapshotRequest | snapshotRead | readNotice | readTable | readStatus =>
    obtain ⟨rfl, rfl⟩ := Prod.mk.inj (Option.some.inj bytes)
    exact ⟨_, by decide, rfl, fun _ => rfl⟩
  all_goals exact absurd bytes (by simp [commandBytes])

/-- Settles O51: the CRC byte runs the row of the command, or the row of a rejection. -/
theorem commandBytesRunTheCommand : Obligations.CommandBytesRunTheCommand := by
  intro s code length crc payload up trans buffer whole short
  let u : State := { s with cport := { s.cport with rxBuf := [code, length] ++ payload ++ [crc] } }
  have taken := commandByteTaken_crc s code length crc payload up trans buffer whole short
  have rejects : ∀ r : Result, judge code length payload crc = .rejected r →
      exec (.commandByteTaken crc) s = exec (.commandRejected code length payload crc) u := by
    intro r rejected
    rw [taken, onlyAnswers_commandRejected (s := u) up rejected, rejected, ← respond_reply]
    rfl
  refine ⟨fun c wf bytes good => ?_, fun bad => ?_⟩
  · obtain ⟨h, known, read, runs⟩ := sentAs_of_commandBytes wf bytes
    rw [taken, judge_passed code length crc payload h good whole known read]
    exact ((runs u).trans (awake_eq up)).symm
  · by_cases good : crc = crc8 0xFF ([code, length] ++ payload)
    · by_cases known : code.toNat ∈ commandCodes
      · have wrong := (bad.resolve_left fun h => h good).resolve_left fun h => h known
        exact rejects _ (judge_refusedRange good known (by rwa [whole]))
      · exact rejects _ (judge_unknownCommand good known)
    · exact rejects _ (judge_crcError code length crc payload good)

end Sys2Proof.Claims
end

section
/-! The bytes of a frame, sent by one station and taken by the receiver of another. -/

namespace Sys2Proof.Claims

open Sys2Proof Sys2Proof.Machine

variable {feeder : Half} {source : Byte} {fresh : Bool} {sol : Nat} {body : FrameBody}

theorem kindCodes : [.breakerFail, .trip, .restrain, .release, .state, .huntCall, .huntReport, .huntVerdict,
    .beacon].map kindCode = List.range' 1 9 := by decide

theorem be16_half (x : Half) : [byteOf (x.toNat / 256), byteOf x.toNat] = halfBytes x := be16_toNat x

theorem frameBytes_eq (feeder : Half) (source : Byte) (fresh : Bool) (sol : Nat) (body : FrameBody) :
    frameBytes feeder source fresh sol body = [0x7E, 0x7E] ++ (checkedBytes source fresh sol body ++
      linkCrc feeder (checkedBytes source fresh sol body)) := by
  rw [frameBytes, List.append_assoc]

/-! ### The receiver (R118) -/

/-- In a frame the receiver collects the bytes up to the length the frame announces. -/
theorem receiveAll_body {n : Nat} (acc l : List Byte) (some_ : l ≠ []) (whole : acc.length + l.length = n) :
    receiveAll l (.body n acc) = (.hunt, [acc ++ l]) := by
  induction l generalizing acc with
  | nil => exact absurd rfl some_
  | cons b l ih =>
    simp only [List.length_cons] at whole
    cases l with
    | nil =>
      have last : n ≤ acc.length + 1 := by simp at whole; omega
      simp [receiveAll, RxState.take, last]
    | cons c l =>
      have more : ¬ n ≤ acc.length + 1 := by simp only [List.length_cons] at whole; omega
      have taken : (RxState.body n acc).take b true = (.body n (acc ++ [b]), none) := by
        simp [RxState.take, more]
      have rest := ih (acc ++ [b]) (by simp) (by
        simp only [List.length_append, List.length_cons, List.length_nil] at whole ⊢
        omega)
      rw [receiveAll, taken, rest]
      simp

/-- Two sync bytes and a length byte begin a frame. -/
theorem receiveAll_sync (b : Byte) (l : List Byte) (lo : 6 ≤ b.toNat) (hi : b.toNat ≤ 16) (whole : l.length + 1 = b.toNat) :
    receiveAll ([0x7E, 0x7E] ++ (b :: l)) .hunt = (.hunt, [b :: l]) := by
  have notSync : ¬ b = 126#8 := by
    rintro rfl
    exact absurd hi (by decide)
  have begun : RxState.sync2.take b true = (.body b.toNat [b], none) := by
    simp [RxState.take, notSync, lo, hi]
  have collected := receiveAll_body [b] l (by rintro rfl; simp at whole; omega) (by simpa [Nat.add_comm] using whole)
  have first_ : RxState.hunt.take 0x7E true = (.sync1, none) := rfl
  have second : RxState.sync1.take 0x7E true = (.sync2, none) := rfl
  simp only [List.cons_append, List.nil_append] at collected ⊢
  rw [receiveAll, first_, receiveAll, second, receiveAll, begun, collected]
  rfl

/-- Settles O35: the layout of the bytes; the receiver collects them from the length byte on, and they are taken apart
into the fields they were made of. -/
theorem framesAreReadBack : Obligations.FramesAreReadBack := by
  refine ⟨kindCodes, payloadsLaidOut, codesOfRecords, ?_, fun feeder source fresh sol body wf small => ?_⟩
  · rintro feeder _ source fresh sol body _ rfl rfl
    rw [frameBytes_eq, be16_half, ← crc16_eq_crcByBits, List.append_assoc]
    rfl
  · let checked := checkedBytes source fresh sol body
    have short := bodyPayload_length body
    have length_ : (byteOf (6 + (bodyPayload body).length)).toNat = 6 + (bodyPayload body).length :=
      toNat_byteOf _ (by omega)
    have received := receiveAll_sync (byteOf (6 + (bodyPayload body).length))
      ([source, kindByte (bodyKind body) fresh, byteOf sol] ++ bodyPayload body ++ linkCrc feeder checked)
      (by omega) (by omega) (by simp [linkCrc_length, length_]; omega)
    have split_ := splitFrame_bytes feeder source (kindByte (bodyKind body) fresh) (byteOf sol) (bodyPayload body)
      (by omega)
    obtain ⟨kind, flag⟩ := kindByte_read (bodyKind body) fresh
    refine ⟨checked ++ linkCrc feeder checked, _, ?_, split_, ?_, rfl, flag, toNat_byteOf sol small, ?_, ?_, ?_⟩
    · rw [frameBytes_eq]
      exact received
    · simp [RawFrame.crcGood]
    · rw [RawFrame.body, RawFrame.kindCode, kind]
      exact parseBody_bodyPayload body wf
    · simp [checked, checkedBytes, linkCrc_length]
      omega
    · simp [checked, checkedBytes, linkCrc_length]
      omega

end Sys2Proof.Claims
end

section
/-! The manual commands: what SEQ makes of them, with PROF after it, and the answer. -/

namespace Sys2Proof.Claims

open Sys2Proof Sys2Proof.Machine

variable {s t u v w : State} {st : SeqState} {timer : Option Ms} {ns : List Notice} {fs : List OwnedFrame}

/-! ### A command that SEQ carries out (R72, R109, R170) -/

theorem Transition.commandMoves (h : Transition st timer ns fs s v) (rest : RestTaken v w)
    (answered : AnsweredAs .accepted [] v w t) : CommandMoves st timer ns fs s t := by
  obtain ⟨seqIs, counts, contacts, blk, records, -⟩ := h.moves rest
  obtain ⟨⟨blocks, -⟩, -⟩ := answered.leaves
  have sequencer : t.sequencer = w.sequencer := blocks .sequencer (by decide)
  have fin : t.fin = w.fin := blocks .fin (by decide)
  have tripco : t.tripco = w.tripco := blocks .tripco (by decide)
  refine ⟨?_, ?_, sameContacts_trans contacts (sameContacts_of_fin fin), answered.blk.trans blk, tripco ▸ records,
    v, w, h, rest, answered⟩
  · simpa [SeqIs, sequencer] using seqIs
  · simpa [sameCounts, sequencer] using counts

theorem answeredNow_of_same {r : Result} {l : List Byte} (answered : AnsweredAs r l v v t) : AnsweredNow r l t := by
  rw [answered.1 rfl]
  exact answeredNow_enterResponse ..

/-- What an answered change of SEQ leaves, and the answer where no relax waits for rest. -/
theorem Unmoved.answered {r : Result} {l : List Byte} (h : Unmoved s v) (answered : AnsweredAs r l v (profRest v) t) :
    (noRelaxDue s → AnsweredNow r l t ∧ t.prof = s.prof) ∧ Frame [.meas, .elem, .blk, .link, .hunt] s t := by
  obtain ⟨left, -⟩ := answered.leaves
  obtain ⟨-, -, prof, frame⟩ := h.relaxed
  refine ⟨fun quiet => ?_, frame.1.trans (left.mono (by decide))⟩
  have same : profRest v = v := profRest_of_ne_due v (by rw [h.2.1]; exact quiet)
  refine ⟨answeredNow_of_same (by rwa [same] at answered), (left.1 .prof (by decide)).trans (prof quiet)⟩

/-! ### MANUAL OPEN (R73, R74) -/

theorem cmdManual_dormant {f : State → Reply} (st : s.sequencer.st = .dormant) :
    judgeManual f s = reply .refusedState s := if_pos st

theorem cmdManual_local {f : State → Reply} (st : s.sequencer.st ≠ .dormant) (local_ : s.inputSet 6 = true) :
    judgeManual f s = reply .refusedLocal s := by
  rw [judgeManual, if_neg st, if_pos local_]

theorem cmdManual_remote {f : State → Reply} (st : s.sequencer.st ≠ .dormant) (remote : s.inputSet 6 = false) :
    judgeManual f s = f s := by
  rw [judgeManual, if_neg st, if_neg (by simp [remote])]

theorem manualOpen_trips (takes : takesRequest s) : manualOpen s = replySeq (takeManualTrip s) := by
  rcases takes with st | st | st <;> rw [manualOpen, st]

theorem manualOpen_waiting (st : s.sequencer.st = .deadTime ∨ s.sequencer.st = .deadHold) :
    manualOpen s = replySeq (seqMove .opened none .manualOpen s) := by
  rcases st with st | st <;> rw [manualOpen, st]

theorem manualOpen_resting (st : s.sequencer.st = .lockout ∨ s.sequencer.st = .opened) :
    manualOpen s = reply .accepted s := by
  rcases st with st | st <;> rw [manualOpen, st]

/-- The manual trip, announced (R71, R74). -/
def manualTripped (s : State) : State := handTransition (announceTrip (tripEntered .manual s.sequencer.shot true s))

theorem transition_manualTripped (s : State) : Transition .tripping (some (after s.now s.image.tripFail))
    [tripNote .manual s.sequencer.shot s] [tripFrame .manual s.sequencer.shot s]
    (tripEntered .manual s.sequencer.shot true s) (manualTripped s) :=
  transition_announceTrip rfl

theorem takeManualTrip_of_not_open (position : s.fin.position ≠ .opened) : takeManualTrip s = manualTripped s :=
  finishTrip_of_not_open (tripEntered .manual s.sequencer.shot true s) position

theorem takeManualTrip_of_open (position : s.fin.position = .opened) :
    takeManualTrip s = seqOpened (manualTripped s) :=
  finishTrip_of_open (tripEntered .manual s.sequencer.shot true s) position

theorem unmoved_manualTripped (s : State) : Unmoved s (manualTripped s) :=
  (transition_manualTripped s).unmoved.of_sequencer

/-- FIN after a transition: the forcing and HEALTHY follow the new state (R44, R53). -/
theorem Transition.fin (h : Transition st timer ns fs s v) : v.fin.forced = decide (st = .tripping ∨ st = .closing) ∧
    v.fin.healthy = decide (s.isRun = true ∧ s.meas.status = .fresh ∧ st ≠ .failed) := by
  obtain ⟨p, -, -, -, -, ⟨forced, healthy, -⟩, -, rfl⟩ := h
  simp [forced, healthy]

/-- Where FIN stands once the command is answered. -/
theorem AnsweredAs.fin {early : State} {r : Result} {l : List Byte} (h : AnsweredAs r l early (profRest v) t) :
    t.fin = v.fin :=
  (h.leaves.1.1 .fin (by decide)).trans (restTaken_profRest v).frame.2.1

theorem AnsweredAs.sequencer {early : State} {r : Result} {l : List Byte} (h : AnsweredAs r l early (profRest v) t) :
    t.sequencer = v.sequencer :=
  (h.leaves.1.1 .sequencer (by decide)).trans (restTaken_profRest v).frame.1

/-- An open breaker ends a manual trip in LOCKOUT at once (R61, R74). -/
theorem transition_manualTripped_opened (s : State) : Transition .lockout none [stateNote .lockout .noReclose s]
    [stateFrame .lockout s.sequencer.shot s] (manualTripped s) (seqOpened (manualTripped s)) := by
  obtain ⟨-, ⟨shot, -, flag, -⟩, ⟨-, position, -⟩, -, -, -, frame⟩ := (transition_manualTripped s).leaves
  have h := transition_seqOpened_noReclose (s := manualTripped s) flag
  rwa [stateNote_congr (s := s) frame.1.2.2 frame.1.address, stateFrame_congr (s := s) position, shot] at h

/-- Settles O46: each state with the row of R74, and the trip as SEQ announces it. -/
theorem manualOpenByState : Obligations.ManualOpenByState := by
  refine fun s up => ⟨fun closed => ?_, fun st local_ => ?_, fun remote => ⟨fun st => ?_, fun st => ?_, fun st => ?_,
    fun takes => ?_⟩⟩
  · refine onlyAnswers_reply rfl up ?_
    rcases closed with st | ⟨st, remote⟩
    · exact cmdManual_dormant st
    · rw [cmdManualOpen, cmdManual_remote (by rw [st]; decide) remote, manualOpen, st]
  · exact onlyAnswers_reply rfl up (cmdManual_local st local_)
  · refine onlyAnswers_reply rfl up ?_
    rw [cmdManualOpen, cmdManual_remote (by rcases st with st | st <;> rw [st] <;> decide) remote,
      manualOpen_resting st]
  · have answer : cmdManualOpen s = reply .accepted { s with sequencer := { s.sequencer with noReclose := true } } := by
      rw [cmdManualOpen, cmdManual_remote (by rw [st]; decide) remote, manualOpen, st]
    refine ⟨_, answeredNow_reply rfl up answer, answeredNow_enterResponse .., rfl, ⟨rfl, rfl, rfl⟩, rfl, ?_⟩
    simp [Frame, sameBlock, sameSettings]
  · obtain ⟨t, ran, answered⟩ := exec_replyAfter (c := .manualOpen) (s := s) rfl up
      ((cmdManual_remote (by rcases st with st | st <;> rw [st] <;> decide) remote).trans (manualOpen_waiting st))
    have moved := transition_seqMove .opened none .manualOpen s
    obtain ⟨calm, frame⟩ := moved.unmoved.answered answered
    exact ⟨t, ran, moved.commandMoves (restTaken_profRest _) answered, calm, frame⟩
  · obtain ⟨t, ran, answered⟩ := exec_replyAfter (c := .manualOpen) (s := s) rfl up
      ((cmdManual_remote (by rcases takes with st | st | st <;> rw [st] <;> decide) remote).trans
        (manualOpen_trips takes))
    have trip := transition_manualTripped s
    obtain ⟨-, ⟨shot, manual, final, cause⟩, contacts, -, records, prof, -⟩ := trip.leaves
    by_cases position : s.fin.position = .opened
    · rw [takeManualTrip_of_open position] at answered
      have opened := transition_manualTripped_opened s
      have unmoved := (unmoved_manualTripped s).trans opened.unmoved
      obtain ⟨calm, frame⟩ := unmoved.answered answered
      obtain ⟨-, ⟨shot', manual', final', cause'⟩, -⟩ := opened.leaves
      rw [← answered.sequencer] at shot' manual' final' cause'
      have moves := opened.commandMoves (restTaken_profRest _) answered
      obtain ⟨-, -, contacts', -, records', -⟩ := id moves
      exact ⟨t, _, ran, rfl, fun other => absurd position other,
        fun _ => ⟨manualTripped s, trip, moves, by rw [answered.fin, opened.fin.1]; decide⟩,
        shot'.trans shot, cause'.trans cause, final'.trans final, manual'.trans manual, records'.trans records,
        sameContacts_trans contacts contacts', calm, frame⟩
    · rw [takeManualTrip_of_not_open position] at answered
      obtain ⟨calm, frame⟩ := (unmoved_manualTripped s).answered answered
      have moves := trip.commandMoves (restTaken_profRest _) answered
      obtain ⟨-, ⟨shot', manual', final', cause'⟩, contacts', -, records', -⟩ := id moves
      have active : profRest (manualTripped s) = manualTripped s :=
        profRest_of_active _ (by simp only [SequencerState.atRest, trip.leaves.1.1])
      have profIs : t.prof = s.prof := (answered.leaves.1.1 .prof (by decide)).trans (by rw [active]; exact prof)
      exact ⟨t, _, ran, rfl, fun _ => ⟨moves, by rw [answered.fin, trip.fin.1]; decide, profIs⟩,
        fun opened => absurd opened position, shot', cause', final', manual', records', contacts', calm, frame⟩

/-! ### Records removed while SEQ does not hold (R81, R83) -/

theorem removeBlock_resting {k : BlockKey} (st : s.sequencer.st ≠ .deadHold) :
    removeBlock k s = { s with blk := { s.blk with table := without k s.blk.table } } := by
  unfold removeBlock
  split
  · exact if_neg (by exact st)
  next absent =>
    have kept : without k s.blk.table = s.blk.table := List.filter_eq_self.2 fun r mem => by
      rw [hasKey_iff, not_exists] at absent
      exact decide_eq_true fun key => absent r ⟨mem, key⟩
    rw [kept]

theorem removeBlocks_resting (ks : List BlockKey) (st : s.sequencer.st ≠ .deadHold) : removeBlocks ks s =
    { s with blk := { s.blk with table := s.blk.table.filter (fun r => decide (r.key ∉ ks)) } } := by
  induction ks generalizing s with
  | nil =>
    have all_ : s.blk.table.filter (fun r => decide (r.key ∉ [])) = s.blk.table :=
      List.filter_eq_self.2 fun _ _ => decide_eq_true List.not_mem_nil
    rw [all_]
    rfl
  | cons k ks ih =>
    have rest : removeBlocks (k :: ks) s = removeBlocks ks (removeBlock k s) := rfl
    rw [rest, removeBlock_resting st, ih (by exact st)]
    simp only [without, List.filter_filter, List.mem_cons, not_or, Bool.decide_and, Bool.and_comm]

theorem removeSource_resting (src : BlockSource) (st : s.sequencer.st ≠ .deadHold) : removeSource src s =
    { s with blk := { s.blk with table := s.blk.table.filter (fun r => decide (r.key.source ≠ src)) } } := by
  have kept : s.blk.table.filter (fun r => decide (r.key ∉ keysWhere (fun r => decide (r.key.source = src)) s.blk.table)) =
      s.blk.table.filter (fun r => decide (r.key.source ≠ src)) := by
    refine List.filter_congr fun r mem => decide_eq_decide.2 (not_congr ?_)
    simp only [keysWhere, List.mem_map, List.mem_filter, decide_eq_true_eq]
    exact ⟨fun ⟨r', ⟨_, source⟩, key⟩ => key ▸ source, fun source => ⟨r, ⟨mem, source⟩, rfl⟩⟩
  rw [removeSource, removeBlocks_resting _ st, kept]

/-! ### MANUAL CLOSE (R73, R75) -/

theorem manualClose_other (lockout : s.sequencer.st ≠ .lockout) (opened : s.sequencer.st ≠ .opened) :
    manualClose s = reply .refusedState s := by
  unfold manualClose
  split <;> first | rfl | contradiction

theorem manualClose_resting (st : s.sequencer.st = .lockout ∨ s.sequencer.st = .opened) : manualClose s =
    if s.blk.table.any (fun r => decide (r.key.source = .tag)) = true then reply .refusedTagged s
    else if s.inputSet 5 = true then reply .refusedGas s
    else replySeq (seqClosing { s with
      sequencer := { s.sequencer with shot := 0, manualClose := true },
      blk := { s.blk with table := s.blk.table.filter (fun r => decide (r.key.source ≠ .sef)) } }) := by
  have freed := removeSource_resting .sef (s := s) (by rcases st with st | st <;> rw [st] <;> decide)
  rcases st with st | st <;> rw [manualClose, st] <;> simp only [freed]

theorem profRest_of_transition (h : Transition st timer ns fs s v) (active : st = .closing ∨ st = .reclaim) :
    profRest v = v := by
  refine profRest_of_active v ?_
  rw [SequencerState.atRest, h.leaves.1.1]
  rcases active with rfl | rfl <;> rfl

/-- A close begins in CLOSING or, with the breaker closed already, goes on to RECLAIM; neither is at rest. -/
theorem profRest_seqClosing (s : State) : profRest (seqClosing s) = seqClosing s := by
  by_cases position : s.fin.position = .closed
  · rw [seqClosing_of_closed position]
    exact profRest_of_transition (transition_seqClosed_closing s) (.inr rfl)
  · rw [seqClosing_of_not_closed position]
    exact profRest_of_transition (transition_closing s) (.inl rfl)

/-! ### RESET FAIL (R76) -/

/-- A RESET FAIL that is carried out takes SEQ to `st` with the count 0. -/
theorem resetFail_moves {q : SequencerState} (st_ : st ≠ .failed) (up : s.resetHeld = false)
    (count : q.shot = 0)
    (answer : cmdResetFail s = replySeq (seqMove st none .resetFail { s with sequencer := q })) :
    ∃ t : State, exec .resetFail s = .next t ∧
      CommandMoves st none [stateNote st .resetFail s] [stateFrame st 0 s] { s with sequencer := q } t ∧
      t.fin.healthy = decide (s.isRun = true ∧ s.meas.status = .fresh) ∧
      (noRelaxDue s → AnsweredNow .accepted [] t ∧ t.prof = s.prof) ∧ Frame [.meas, .elem, .blk, .link, .hunt] s t := by
  obtain ⟨t, ran, answered⟩ := exec_replyAfter (c := .resetFail) (s := s) rfl up answer
  have moved : Transition st none [stateNote st .resetFail s] [stateFrame st 0 s] { s with sequencer := q }
      (seqMove st none .resetFail { s with sequencer := q }) := by
    have h := transition_seqMove st none .resetFail { s with sequencer := q }
    rwa [show ({ s with sequencer := q } : State).sequencer.shot = 0 from count] at h
  obtain ⟨calm, frame⟩ := moved.unmoved.of_sequencer.answered answered
  refine ⟨t, ran, moved.commandMoves (restTaken_profRest _) answered, ?_, calm, frame⟩
  rw [answered.fin, moved.fin.2]
  simp [st_]
  rfl

/-- Settles O47: the tests of MANUAL CLOSE in their order, and the transitions the two commands make. -/
theorem manualCloseAndResetFail : Obligations.ManualCloseAndResetFail := by
  refine ⟨fun s tagged up isTagged => ⟨fun st => ?_, fun st local_ => ?_, fun remote lockout opened => ?_,
    fun remote st => ?_⟩, fun s up => ⟨fun closed => ?_, fun st position => ?_, fun st position => ?_⟩⟩
  · exact onlyAnswers_reply rfl up (cmdManual_dormant st)
  · exact onlyAnswers_reply rfl up (cmdManual_local st local_)
  · refine onlyAnswers_reply rfl up ?_
    by_cases dormant : s.sequencer.st = .dormant
    · exact cmdManual_dormant dormant
    · exact (cmdManual_remote dormant remote).trans (manualClose_other lockout opened)
  · have tags : s.blk.table.any (fun r => decide (r.key.source = .tag)) = true ↔ tagged := by
      rw [isTagged]
      simp
    have judged : cmdManualClose s = manualClose s :=
      cmdManual_remote (by rcases st with st | st <;> rw [st] <;> decide) remote
    rw [manualClose_resting st] at judged
    refine ⟨fun tag => ?_, fun free gas => ?_, fun free noGas => ?_⟩
    · exact onlyAnswers_reply rfl up (judged.trans (if_pos (tags.2 tag)))
    · exact onlyAnswers_reply rfl up (judged.trans ((if_neg (mt tags.1 free)).trans (if_pos gas)))
    · let p : State := { s with
        sequencer := { s.sequencer with shot := 0, manualClose := true },
        blk := { s.blk with table := s.blk.table.filter (fun r => decide (r.key.source ≠ .sef)) } }
      obtain ⟨t, ran, answered⟩ := exec_replyAfter (c := .manualClose) (s := s) rfl up
        (judged.trans ((if_neg (mt tags.1 free)).trans (if_neg (by simp [noGas]))))
      have still : profRest (seqClosing p) = seqClosing p := profRest_seqClosing p
      have now := answeredNow_of_same (v := seqClosing p) (by rwa [still] at answered)
      have unmoved : Unmoved p (seqClosing p) := unmoved_seqClosing p
      obtain ⟨left, -⟩ := answered.leaves
      obtain ⟨contacts, prof, records, frame⟩ := unmoved
      refine ⟨t, p, ran, rfl, fun position => ?_, fun position => ⟨closing p, transition_closing p, ?_⟩, ?_, ?_, ?_, now, ?_⟩
      · rw [seqClosing_of_not_closed (s := p) position] at answered
        have moved := transition_closing p
        exact ⟨moved.commandMoves (restTaken_profRest _) answered, by rw [answered.fin, moved.fin.1]; decide⟩
      · rw [seqClosing_of_closed (s := p) position] at answered
        exact (transition_seqClosed_closing p).commandMoves (restTaken_profRest _) answered
      · exact answered.blk.trans ((congrArg State.blk still).trans (frame.1.1 .blk (by decide)))
      · rw [left.1 .tripco (by decide), still]
        exact records
      · exact sameContacts_trans (u := t) (t := seqClosing p) contacts (sameContacts_of_fin answered.fin)
      · have first_ : Frame [.meas, .elem, .prof, .link, .hunt] s (seqClosing p) := by
          refine ⟨?_, frame.1.2.1, frame.1.2.2⟩
          simp only [List.forall_mem_cons, List.not_mem_nil, false_imp_iff, implies_true, and_true]
          exact ⟨frame.1.1 .meas (by decide), frame.1.1 .elem (by decide), prof, frame.1.1 .link (by decide),
            frame.1.1 .hunt (by decide)⟩
        rw [still] at left
        exact first_.trans (left.mono (by decide))
  · refine onlyAnswers_reply rfl up ?_
    by_cases st : s.sequencer.st = .failed
    · rw [cmdResetFail, if_pos st, closed.resolve_left fun other => other st]
    · exact if_neg st
  · exact resetFail_moves (by decide) up rfl (by rw [cmdResetFail, if_pos st, position])
  · exact resetFail_moves (by decide) up rfl (by rw [cmdResetFail, if_pos st, position])

end Sys2Proof.Claims
end

section
/-! The resets to CONFIG, and LOAD SETTINGS. -/

namespace Sys2Proof.Claims

open Sys2Proof Sys2Proof.Machine

variable {s t u v : State}

/-- Settles O52: a power-on reset is the initial state, and SOFT RESET in CONFIG keeps what R177 says. -/
theorem resetsToTheInitialState : Obligations.ResetsToTheInitialState := by
  refine ⟨fun s initial isInitial => ⟨?_, ?_, fun held => ?_, fun up => ?_⟩, fun s up config => ?_⟩
  · rw [isInitial]
    rfl
  · rw [isInitial]
    rfl
  · rw [isInitial]
    exact congrArg Host.Outcome.next (if_pos held)
  · exact congrArg Host.Outcome.next (if_neg (by simp [up]))
  · have answer : cmdSoftReset s = reply .accepted (softResetConfig s) := if_neg (by simp [config])
    exact ⟨_, answeredNow_reply (c := .softReset) rfl up answer, answeredNow_enterResponse .., rfl, rfl, rfl, rfl, rfl,
      rfl, rfl, rfl, rfl, rfl, rfl, rfl, rfl, rfl, rfl, rfl, rfl⟩

/-! ### The staging image (R173) -/

theorem write_eq_some {area : Byte} {off : Nat} {data : List Byte} {i j : Image} (written : Written area off data i j) :
    i.write area off data = some j := by
  rcases written with ⟨code, room, rfl⟩ | ⟨code, room, rfl⟩
  · exact if_pos ⟨code, room⟩
  · rw [Image.write, if_neg (fun h => by rw [code] at h; exact absurd h.1 (by decide)), if_pos ⟨code, room⟩]
    rfl

theorem write_eq_none {area : Byte} {off : Nat} {data : List Byte} {i : Image}
    (bad : (area.toNat ≠ 1 ∧ area.toNat ≠ 2) ∨ (area.toNat = 1 ∧ 81 < off + data.length) ∨
      (area.toNat = 2 ∧ 44 < off + data.length)) : i.write area off data = none := by
  rw [Image.write, if_neg (by simp only [areaSCode]; omega), if_neg (by simp only [areaFCode]; omega)]

theorem fieldAt_one (l : List Byte) (off : Nat) : fieldAt l off 1 = (l.getD off 0).toNat := by
  simp [fieldAt]

theorem fieldAt_two (l : List Byte) (off : Nat) :
    fieldAt l off 2 = (l.getD off 0).toNat * 256 + (l.getD (off + 1) 0).toNat := by
  simp [fieldAt, List.range_succ]

theorem fieldAt_four (l : List Byte) (off : Nat) :
    fieldAt l off 4 = fieldAt l off 2 * 65536 + fieldAt l (off + 2) 2 := by
  simp [fieldAt, List.range_succ, Nat.add_assoc]
  omega

theorem stagedBaud_eq (i : Image) : stagedBaud i = effectiveBaud i := by
  simp only [stagedBaud, fieldAt_one]
  rfl

theorem image_staged (open_ : s.cport.locked = none) : s.image = s.cport.staging := by
  rw [State.image, open_]
  rfl

/-! ### FIN and LINK read the staged values (R44, R115) -/

theorem changeModes_getD (i j : Image) (l : List InputState) (n : Nat) (x : InputState)
    (isX : x = l.getD n InputState.reset) :
    ((i.inputMode n = 1 ↔ j.inputMode n = 1) → (changeModes i j l).getD n InputState.reset = x) ∧
      (¬ (i.inputMode n = 1 ↔ j.inputMode n = 1) → (changeModes i j l).getD n InputState.reset = x.changeMode) := by
  have mode : ∀ k : Image, sensedStatic k false n = decide (k.inputMode n ≠ 1) := fun k => by
    rw [Bool.eq_iff_iff]
    simp [sensedStatic]
  have same : sensedStatic i false n = sensedStatic j false n ↔ (i.inputMode n = 1 ↔ j.inputMode n = 1) := by
    rw [mode, mode, decide_eq_decide]
    exact Decidable.not_iff_not
  by_cases inside : n < l.length
  · have read : (changeModes i j l).getD n InputState.reset =
        if sensedStatic i false n = sensedStatic j false n then x else x.changeMode := by
      rw [isX]
      simp [changeModes, inside]
    exact ⟨fun h => read.trans (if_pos (same.2 h)), fun h => read.trans (if_neg (mt same.1 h))⟩
  · have past : x = InputState.reset := by simp [isX, List.getD, Nat.le_of_not_lt inside]
    have read : (changeModes i j l).getD n InputState.reset = InputState.reset := by
      simp [changeModes, List.getD, Nat.le_of_not_lt inside]
    rw [read, past]
    exact ⟨fun _ => rfl, fun _ => rfl⟩

theorem length_changeModes (i j : Image) (l : List InputState) : (changeModes i j l).length = l.length :=
  List.length_mapIdx

theorem confirmed_changeModes (i j : Image) (l : List InputState) (n : Nat) :
    ((changeModes i j l).getD n InputState.reset).confirmed = (l.getD n InputState.reset).confirmed := by
  obtain ⟨kept, changed⟩ := changeModes_getD i j l n _ rfl
  by_cases same : i.inputMode n = 1 ↔ j.inputMode n = 1
  · rw [kept same]
  · rw [changed same]
    rfl

/-! ### ATTN in CONFIG (R180) -/

/-- ATTN is high exactly with an enabled notice queued. -/
def AttnRight (mask : Nat) (c : CportState) : Prop := c.attn = attnLevel mask c.notices

theorem AttnRight.queue {c : CportState} {mask : Nat} (h : AttnRight mask c) (n : Notice) :
    AttnRight mask (c.queue mask n) := by
  rcases Nat.lt_or_ge c.notices.length 64 with room | full
  · rw [queue_room room]
    rfl
  · rw [queue_full full]
    exact h

theorem attnRight_settle_config {port field peer : Profile} (config : s.isRun = false)
    (h : AttnRight s.image.attnMask s.cport) : AttnRight s.image.attnMask (settle port field peer s).cport := by
  simp only [settle, config]
  rw [if_neg (by decide)]
  split
  · exact h
  · unfold followTarget
    split
    · exact h
    · exact h.queue _

/-- The image stored in CONFIG, and what FIN and LINK read in it, before PROF looks at it (R173). -/
def staged (j : Image) (s : State) : State := readStaged s.cport.staging (storeImage j s)

theorem staged_eq {j : Image} (open_ : s.cport.locked = none) : staged j s = { s with
    cport := { s.cport with staging := j, attn := attnLevel j.attnMask s.cport.notices },
    fin := { s.fin with
      inputs := changeModes s.cport.staging j s.fin.inputs, wet := (staged j s).fin.wet },
    link := { s.link with
      rx := if stagedBaud s.cport.staging = stagedBaud j then s.link.rx else .hunt } } := by
  have image : (storeImage j s).image = j := image_staged open_
  have stored : storeImage j s = { s with
      cport := { s.cport with staging := j, attn := attnLevel j.attnMask s.cport.notices } } := by
    have image' : State.image { s with cport := { s.cport with staging := j } } = j := image_staged open_
    rw [storeImage, refreshAttn, image']
  rw [stagedBaud_eq, stagedBaud_eq, staged, readStaged, image, stored]
  rfl

theorem staged_wet (j : Image) (s : State) : (staged j s).fin.wet = true ↔ WetHigh (staged j s) :=
  wetLevel_iff (staged j s)

/-- Settles O42: the refusals in their order; the image stored, read by FIN and LINK, and followed by PROF. -/
theorem loadSettingsWritesTheStagingImage : Obligations.LoadSettingsWritesTheStagingImage := by
  refine fun s area off data up => ⟨fun run => ?_, fun config bad => ?_, fun j config open_ lo hi written => ?_⟩
  · exact onlyAnswers_reply rfl up (if_pos run)
  · refine onlyAnswers_reply rfl up ?_
    rw [cmdLoadSettings, if_neg (by simp [config])]
    rcases bad with short | long | bad
    · exact if_neg (by omega)
    · exact if_neg (by omega)
    · rw [write_eq_none (by exact bad)]
      split <;> rfl
  · let u : State := staged j s
    have answer : cmdLoadSettings area off data s = replyAfter (storeImage j s) (refreshPeerDemand u) := by
      rw [cmdLoadSettings, if_neg (by simp [config]), if_pos ⟨lo, hi⟩, write_eq_some written]
      rfl
    obtain ⟨t, ran, answered⟩ := exec_replyAfter (c := .loadSettings area off data) (s := s) rfl up answer
    have early : statusByte (storeImage j s) = statusByte u := statusByte_congr rfl rfl
    have answered := answered.congr (v := u) early
    have uEq : u = _ := staged_eq open_
    have uImage : u.image = j := image_staged open_
    have config' : u.isRun = false := config
    have settled : refreshPeerDemand u =
        { u with prof := (refreshPeerDemand u).prof, cport := (refreshPeerDemand u).cport } := settle_config config'
    obtain ⟨⟨blocks, ⟨part, staging, locked, held, pending⟩, now⟩, ⟨notices, -, attn⟩, handovers⟩ := answered.leaves
    obtain ⟨⟨blocks', ⟨part', staging', locked', held', pending'⟩, now'⟩, -⟩ := eventFrame_refreshPeerDemand u
    obtain ⟨_, _, _, profEq⟩ := settle_demands u.prof.port u.prof.field (peerDemand u) u
    have prof : t.prof = (settle u.prof.port u.prof.field (peerDemand u) u).prof := blocks .prof (by decide)
    have fin : t.fin = u.fin := (blocks .fin (by decide)).trans (by rw [settled])
    have link : t.link = u.link := (blocks .link (by decide)).trans (by rw [settled])
    have right : AttnRight j.attnMask (refreshPeerDemand u).cport := by
      have h : AttnRight u.image.attnMask u.cport := by
        rw [uImage, uEq]
        rfl
      rw [← uImage]
      exact attnRight_settle_config config' h
    have other : ∀ b : Block, b ∈ [Block.meas, .elem, .sequencer, .blk, .tripco, .hunt] → sameBlock s t b := by
      intro b mem
      have first_ : sameBlock s (refreshPeerDemand u) b := by
        rw [settled, uEq]
        simp only [List.mem_cons, List.not_mem_nil, or_false] at mem
        rcases mem with rfl | rfl | rfl | rfl | rfl | rfl <;> rfl
      exact sameBlock_trans first_ (blocks b (by cases b <;> decide))
    have contacts : sameContacts s t := by
      refine sameContacts_trans (t := u) ⟨fun n => ?_, rfl, rfl, rfl, rfl, rfl, rfl⟩ (sameContacts_of_fin fin)
      rw [uEq]
      exact confirmed_changeModes ..
    refine ⟨t, u, refreshPeerDemand u, changeModes s.cport.staging j s.fin.inputs, u.fin.wet,
      attnLevel j.attnMask s.cport.notices, ran, uEq, (Safety.enabledQueued_iff ..).symm, staged_wet j s,
      length_changeModes .., fun n x _ isX => ?_, fun peer isPeer => demandsTaken_refreshPeerDemand u peer isPeer,
      answered, staging.trans staging', (locked.trans locked').trans open_, part.trans part', ?_, ?_, ?_, ?_, fin, link,
      contacts, ?_, ?_, ?_, now.trans now', pending.trans pending', (held.trans held').trans up,
      other .meas (by decide), other .elem (by decide), other .sequencer (by decide), other .blk (by decide),
      other .tripco (by decide), other .hunt (by decide)⟩
    · rw [image_staged open_]
      exact changeModes_getD _ j _ n x isX
    · rw [attn, notices, Safety.enabledQueued_iff, ← Bool.eq_iff_iff]
      exact right
    · rw [prof, profEq]
      rfl
    · rw [prof, profEq]
      rfl
    · have isPeer := isPeerDemand_refreshPeerDemand u
      have image : t.image = (refreshPeerDemand u).image := Frame.image (bs := []) ⟨by simp, ⟨part, staging, locked, held, pending⟩, now⟩
      rw [isPeerDemand_congr (s := refreshPeerDemand u) (congrArg LinkState.table (blocks .link (by decide))) image, prof]
      exact isPeer
    · rw [fin]
      rfl
    · rw [fin]
      rfl
    · rw [handovers, settled]
      rfl

end Sys2Proof.Claims
end

section
/-! The settings: where each stands in the two areas, and the checks of START. -/

namespace Sys2Proof.Claims

open Sys2Proof Sys2Proof.Machine

variable {s t u v : State} {i : Image} {l : List Byte} {n : Nat}

/-! ### The fields of the two areas (11.7, 11.8) -/

theorem s8_eq (i : Image) (off : Nat) : i.s8 off = fieldAt i.areaS off 1 := (fieldAt_one ..).symm

theorem s16_eq (i : Image) (off : Nat) : i.s16 off = fieldAt i.areaS off 2 := (fieldAt_two ..).symm

theorem s32_eq (i : Image) (off : Nat) : i.s32 off = fieldAt i.areaS off 4 := by
  rw [Image.s32, s16_eq, s16_eq, fieldAt_four]

theorem f8_eq (i : Image) (off : Nat) : i.f8 off = fieldAt i.areaF off 1 := (fieldAt_one ..).symm

theorem f16_eq (i : Image) (off : Nat) : i.f16 off = fieldAt i.areaF off 2 := (fieldAt_two ..).symm

theorem fieldAt_one_lt (l : List Byte) (off : Nat) : fieldAt l off 1 < 256 := by
  rw [fieldAt_one]
  exact BitVec.isLt _

theorem fieldAt_two_lt (l : List Byte) (off : Nat) : fieldAt l off 2 < 65536 := by
  have hi := (l.getD off 0).isLt
  have lo := (l.getD (off + 1) 0).isLt
  rw [fieldAt_two]
  omega

theorem toNat_feederCode (i : Image) : i.feederCode.toNat = fieldAt i.areaS 1 2 := by
  have small : i.s16 1 < 65536 := s16_eq i 1 ▸ fieldAt_two_lt ..
  rw [Image.feederCode, half, BitVec.toNat_ofNat, Nat.mod_eq_of_lt small, s16_eq]

theorem downstream_toNat (i : Image) : i.downstream.map BitVec.toNat =
    ([4, 5, 6, 7].map (fun off => fieldAt i.areaS off 1)).filter (fun n => n != 0) := by
  have nonzero (b : Byte) : (b != 0) = (b.toNat != 0) := by
    simp only [bne, BitVec.toNat_eq, beq_decide]
    rfl
  have kept : (fun a : Byte => a != 0) = (fun n : Nat => n != 0) ∘ BitVec.toNat := funext nonzero
  rw [Image.downstream, kept, ← List.filter_map]
  simp only [fieldAt_one, List.map_cons, List.map_nil]

theorem settingsReadAt (i : Image) : SettingsReadAt i := by
  refine ⟨(fieldAt_one ..).symm, (fieldAt_one ..).symm, downstream_toNat i, ?_, ?_, ?_, ?_⟩
  · simp only [List.map_cons, List.map_nil, toNat_feederCode, ← s8_eq, ← s16_eq, ← s32_eq]
    rfl
  · intro n small
    exact s8_eq ..
  · simp only [List.map_cons, List.map_nil, ← s8_eq, ← s16_eq]
    rfl
  · intro p at_ reads
    have flag (off : Nat) : (i.f8 (profileBase p + off) == 1) = true ↔ at_ off 1 = 1 := by
      rw [beq_iff_eq, f8_eq, reads]
      rfl
    refine ⟨?_, flag 2, flag 11, flag 12, flag 13⟩
    simp only [reads, ← f8_eq, ← f16_eq]
    rfl

/-! ### The ranges (R174) -/

theorem within_eq_false {lo hi v : Nat} : within lo hi v = false ↔ v < lo ∨ hi < v := by
  simp only [within, Bool.and_eq_false_iff, decide_eq_false_iff_not]
  omega

/-- What is said of the row of a field is said of the one row that stands in the layout. -/
theorem exists_row_iff {row : Option (Nat × Nat × Nat × Nat)} {off size lo hi : Nat}
    (at_ : row = some (off, size, lo, hi)) (fact : Nat → Nat → Nat → Nat → Prop) :
    (∃ off size lo hi : Nat, row = some (off, size, lo, hi) ∧ fact off size lo hi) ↔ fact off size lo hi := by
  subst at_
  constructor
  · rintro ⟨_, _, _, _, same, holds⟩
    cases same
    exact holds
  · exact fun holds => ⟨off, size, lo, hi, rfl, holds⟩

theorem outS_iff {off size lo hi : Nat} (at_ : layoutS[n]? = some (off, size, lo, hi)) : outS l n ↔
    fieldAt l off size < lo ∨ hi < fieldAt l off size ∨ gapS l n (fieldAt l off size) :=
  exists_row_iff at_ fun off size lo hi =>
    fieldAt l off size < lo ∨ hi < fieldAt l off size ∨ gapS l n (fieldAt l off size)

theorem outS_of_no_gap {off size lo hi : Nat} (at_ : layoutS[n]? = some (off, size, lo, hi))
    (noGap : n ∉ [2, 3, 4, 5, 6, 14, 19, 41]) :
    within lo hi (fieldAt l off size) = false ↔ outS l n := by
  have never : ¬ gapS l n (fieldAt l off size) := by
    simp only [List.mem_cons, List.not_mem_nil, or_false, not_or] at noGap
    rintro (gap | gap | gap) <;> omega
  rw [outS_iff at_, within_eq_false]
  simp [never]

theorem gapS_of_no_neighbour {v : Nat} (noNeighbour : ¬ (2 ≤ n ∧ n ≤ 6)) :
    gapS l n v ↔ ((n = 14 ∨ n = 19) ∧ v ≠ 0 ∧ v < 20) ∨ (n = 41 ∧ v ≠ 50 ∧ v ≠ 200) := by
  constructor
  · rintro (reset | sense | ⟨least, most, -⟩)
    · exact .inl reset
    · exact .inr sense
    · exact absurd ⟨least, most⟩ noNeighbour
  · rintro (reset | sense)
    · exact .inl reset
    · exact .inr (.inl sense)

theorem neighbourOk_eq_false (i : Image) {k : Nat} (small : k < 5) :
    i.neighbourOk k = false ↔ outS i.areaS (2 + k) := by
  have at_ : layoutS[2 + k]? = some (3 + k, 1, 0, 62) := by
    rcases (by omega : k = 0 ∨ k = 1 ∨ k = 2 ∨ k = 3 ∨ k = 4) with rfl | rfl | rfl | rfl | rfl <;> rfl
  rw [outS_iff at_]
  simp only [Image.neighbourOk, Image.neighbourField, s8_eq, gapS, Nat.add_sub_cancel_left]
  generalize fieldAt i.areaS (3 + k) 1 = a
  have same : (∃ j < k, fieldAt i.areaS (3 + j) 1 = a) ↔ ∃ j < k, a = fieldAt i.areaS (3 + j) 1 := by
    simp only [eq_comm]
  simp only [Bool.and_eq_false_iff, Bool.or_eq_false_iff, decide_eq_false_iff_not, beq_eq_false_iff_ne,
    bne_eq_false_iff_eq, List.all_eq_false, List.mem_range, bne_iff_ne, ne_eq, Classical.not_not, ← same]
  generalize (∃ j < k, fieldAt i.areaS (3 + j) 1 = a) = earlier
  grind

theorem resetTimeOk_eq_false {off : Nat} (at_ : layoutS[n]? = some (off, 2, 0, 60000)) (reset : n = 14 ∨ n = 19) :
    resetTimeOk (fieldAt l off 2) = false ↔ outS l n := by
  rw [outS_iff at_, gapS_of_no_neighbour (by omega)]
  simp only [resetTimeOk, Bool.or_eq_false_iff, within_eq_false, beq_eq_false_iff_ne]
  omega

theorem sensePeriod_eq_false (i : Image) :
    ((i.sensePeriod == 50) || (i.sensePeriod == 200)) = false ↔ outS i.areaS 41 := by
  rw [outS_iff rfl, gapS_of_no_neighbour (by decide), Image.sensePeriod, s8_eq]
  simp only [Bool.or_eq_false_iff, beq_eq_false_iff_ne, true_and]
  omega

theorem not_outS_one (l : List Byte) : ¬ outS l 1 := by
  have small := fieldAt_two_lt l 1
  rw [outS_iff rfl, gapS_of_no_neighbour (by decide)]
  omega

/-- A field whose only check is its range. -/
theorem fieldsS_of_no_gap {off size lo hi v : Nat} (at_ : layoutS[n]? = some (off, size, lo, hi))
    (noGap : n ∉ [2, 3, 4, 5, 6, 14, 19, 41]) (reads : v = fieldAt i.areaS off size)
    (field : i.fieldsS[n]? = some (within lo hi v)) : i.fieldsS[n]? = some false ↔ outS i.areaS n := by
  rw [field, reads, Option.some_inj, outS_of_no_gap at_ noGap]

theorem fieldsS_one_byte (one : n ∈ [0, 7, 8, 9, 10, 12, 13, 18, 33, 34, 35, 36, 37, 38, 39, 40, 43]) :
    i.fieldsS[n]? = some false ↔ outS i.areaS n := by
  simp only [List.mem_cons, List.not_mem_nil, or_false] at one
  rcases one with rfl | rfl | rfl | rfl | rfl | rfl | rfl | rfl | rfl | rfl | rfl | rfl | rfl | rfl | rfl | rfl | rfl
  all_goals exact fieldsS_of_no_gap rfl (by decide) (s8_eq ..) rfl

theorem fieldsS_two_bytes (two : n ∈ [11, 15, 16, 17, 20, 27, 28, 30, 31, 32, 42]) :
    i.fieldsS[n]? = some false ↔ outS i.areaS n := by
  simp only [List.mem_cons, List.not_mem_nil, or_false] at two
  rcases two with rfl | rfl | rfl | rfl | rfl | rfl | rfl | rfl | rfl | rfl | rfl
  all_goals exact fieldsS_of_no_gap rfl (by decide) (s16_eq ..) rfl

theorem fieldsS_four_bytes (four : n ∈ [21, 22, 23, 24, 25, 26, 29]) :
    i.fieldsS[n]? = some false ↔ outS i.areaS n := by
  simp only [List.mem_cons, List.not_mem_nil, or_false] at four
  rcases four with rfl | rfl | rfl | rfl | rfl | rfl | rfl
  all_goals exact fieldsS_of_no_gap rfl (by decide) (s32_eq ..) rfl

theorem fieldsS_neighbour {k : Nat} (small : k < 5) : i.fieldsS[2 + k]? = some false ↔ outS i.areaS (2 + k) := by
  have field : i.fieldsS[2 + k]? = some (i.neighbourOk k) := by
    rcases (by omega : k = 0 ∨ k = 1 ∨ k = 2 ∨ k = 3 ∨ k = 4) with rfl | rfl | rfl | rfl | rfl <;> rfl
  rw [field, Option.some_inj, neighbourOk_eq_false i small]

theorem fieldsS_reset_time (reset : n = 14 ∨ n = 19) : i.fieldsS[n]? = some false ↔ outS i.areaS n := by
  rcases reset with rfl | rfl
  · rw [← resetTimeOk_eq_false (off := 16) rfl (.inl rfl), ← s16_eq]
    exact Option.some_inj
  · rw [← resetTimeOk_eq_false (off := 25) rfl (.inr rfl), ← s16_eq]
    exact Option.some_inj

/-- Every field of area S is checked as its row of the layout says (R174, 11.7). -/
theorem fieldsS_eq_false (i : Image) (n : Nat) : i.fieldsS[n]? = some false ↔ outS i.areaS n := by
  by_cases small : n < 44
  · by_cases neighbour : 2 ≤ n ∧ n ≤ 6
    · obtain ⟨k, rfl⟩ := Nat.exists_eq_add_of_le neighbour.1
      exact fieldsS_neighbour (by omega)
    by_cases reset : n = 14 ∨ n = 19
    · exact fieldsS_reset_time reset
    by_cases one : n ∈ [0, 7, 8, 9, 10, 12, 13, 18, 33, 34, 35, 36, 37, 38, 39, 40, 43]
    · exact fieldsS_one_byte one
    by_cases two : n ∈ [11, 15, 16, 17, 20, 27, 28, 30, 31, 32, 42]
    · exact fieldsS_two_bytes two
    by_cases four : n ∈ [21, 22, 23, 24, 25, 26, 29]
    · exact fieldsS_four_bytes four
    have last : n = 1 ∨ n = 41 := by
      simp only [List.mem_cons, List.not_mem_nil, or_false] at one two four
      omega
    rcases last with rfl | rfl
    · have field : i.fieldsS[1]? = some true := rfl
      simp [field, not_outS_one]
    · exact Option.some_inj.trans (sensePeriod_eq_false i)
  · have noField : i.fieldsS[n]? = none := List.getElem?_eq_none (Nat.le_of_not_lt small)
    have noRow : layoutS[n]? = none := List.getElem?_eq_none (Nat.le_of_not_lt small)
    simp [noField, outS, noRow]

/-! ### The profile records (R174, 11.8) -/

/-- The field of index `n` of area F is a field of one profile's record. -/
theorem fieldsF_getElem (i : Image) (small : n < 33) :
    ∃ p : Profile, profileBase p = 14 * (n / 11) ∧ i.fieldsF[n]? = (i.fieldsOf p)[n % 11]? := by
  have length (p : Profile) : (i.fieldsOf p).length = 11 := rfl
  rw [Image.fieldsF, List.append_assoc]
  rcases (by omega : n < 11 ∨ (11 ≤ n ∧ n < 22) ∨ 22 ≤ n) with first | ⟨past, second⟩ | third
  · refine ⟨.ordinary, by simp only [profileBase, profileCode]; omega, ?_⟩
    rw [List.getElem?_append_left first, Nat.mod_eq_of_lt first]
  · refine ⟨.elevated, by simp only [profileBase, profileCode]; omega, ?_⟩
    rw [List.getElem?_append_right past, List.getElem?_append_left (by rw [length, length]; omega), length,
      (by omega : n - 11 = n % 11)]
  · refine ⟨.extreme, by simp only [profileBase, profileCode]; omega, ?_⟩
    rw [List.getElem?_append_right (by rw [length]; omega), List.getElem?_append_right (by rw [length, length]; omega),
      length, length, (by omega : n - 11 - 11 = n % 11)]

theorem fieldsOf_within {off size lo hi v k : Nat} {p : Profile} (reads : v = fieldAt i.areaF (profileBase p + off) size)
    (at_ : layoutF[k]? = some (off, size, lo, hi)) (field : (i.fieldsOf p)[k]? = some (within lo hi v)) :
    (i.fieldsOf p)[k]? = some false ↔ ∃ off size lo hi : Nat, layoutF[k]? = some (off, size, lo, hi) ∧
      (fieldAt i.areaF (profileBase p + off) size < lo ∨ hi < fieldAt i.areaF (profileBase p + off) size) := by
  rw [field, reads, Option.some_inj, within_eq_false]
  exact (exists_row_iff at_ fun off size lo hi =>
    fieldAt i.areaF (profileBase p + off) size < lo ∨ hi < fieldAt i.areaF (profileBase p + off) size).symm

theorem fieldsOf_eq_false (i : Image) (p : Profile) {k : Nat} (small : k < 11) :
    (i.fieldsOf p)[k]? = some false ↔ ∃ off size lo hi : Nat, layoutF[k]? = some (off, size, lo, hi) ∧
      (fieldAt i.areaF (profileBase p + off) size < lo ∨ hi < fieldAt i.areaF (profileBase p + off) size) := by
  by_cases two : k = 4 ∨ k = 6 ∨ k = 7
  · rcases two with rfl | rfl | rfl
    all_goals exact fieldsOf_within (f16_eq ..) rfl rfl
  · have one : k = 0 ∨ k = 1 ∨ k = 2 ∨ k = 3 ∨ k = 5 ∨ k = 8 ∨ k = 9 ∨ k = 10 := by omega
    rcases one with rfl | rfl | rfl | rfl | rfl | rfl | rfl | rfl
    all_goals exact fieldsOf_within (f8_eq ..) rfl rfl

theorem fieldsF_eq_false (i : Image) (n : Nat) : i.fieldsF[n]? = some false ↔ outF i.areaF n := by
  by_cases small : n < 33
  · obtain ⟨p, base, field⟩ := fieldsF_getElem i small
    rw [field, fieldsOf_eq_false i p (Nat.mod_lt n (by decide)), base]
    simp [outF, small]
  · have noField : i.fieldsF[n]? = none := List.getElem?_eq_none (Nat.le_of_not_lt small)
    simp [noField, outF, small]

/-! ### The first failure (R174, R99) -/

theorem firstBad_of_firstOut {b : List Bool} {out : Nat → Prop} (fields : ∀ n, b[n]? = some false ↔ out n)
    (first : firstOut out n) : firstBad b = some n := by
  obtain ⟨isOut, before⟩ := first
  obtain ⟨small, isFalse⟩ := List.getElem?_eq_some_iff.mp ((fields n).mpr isOut)
  refine List.findIdx?_eq_some_iff_getElem.mpr ⟨small, by simp [isFalse], fun m m_lt => ?_⟩
  have good := mt (fields m).mp (before m m_lt)
  rw [List.getElem?_eq_getElem (Nat.lt_trans m_lt small)] at good
  simpa using good

theorem firstBad_of_none {b : List Bool} {out : Nat → Prop} (fields : ∀ n, b[n]? = some false ↔ out n)
    (allIn : ∀ n, ¬ out n) : firstBad b = none := by
  refine List.findIdx?_eq_none_iff.mpr (fun x member => ?_)
  obtain ⟨m, at_⟩ := List.getElem?_of_mem member
  cases x with
  | true => rfl
  | false => exact absurd ((fields m).mp at_) (allIn m)

theorem areaCrcOk_iff : areaCrcOk l = true ↔ crcMatches l := beq_iff_eq

theorem firstFailure_crcS (bad : ¬ crcMatches i.areaS) : i.firstFailure = some (1, 255) :=
  if_pos (by simp [← areaCrcOk_iff] at bad; simp [bad])

theorem firstFailure_crcF (okS : crcMatches i.areaS) (bad : ¬ crcMatches i.areaF) : i.firstFailure = some (2, 255) := by
  rw [← areaCrcOk_iff] at okS bad
  rw [Image.firstFailure, okS]
  simp [bad, areaFCode]

section
variable (okS : crcMatches i.areaS) (okF : crcMatches i.areaF)
include okS okF

theorem firstFailure_fields : i.firstFailure = match firstBad i.fieldsS with
    | some n => some (1, n)
    | none => match firstBad i.fieldsF with
      | some n => some (2, n)
      | none => i.badShotLimit.map (fun n => (2, n)) := by
  rw [← areaCrcOk_iff] at okS okF
  rw [Image.firstFailure, okS, okF]
  rfl

theorem firstFailure_areaS (first : firstOut (outS i.areaS) n) : i.firstFailure = some (1, n) := by
  rw [firstFailure_fields okS okF, firstBad_of_firstOut (fieldsS_eq_false i) first]

theorem firstFailure_areaF (inS : ∀ n, ¬ outS i.areaS n) (first : firstOut (outF i.areaF) n) :
    i.firstFailure = some (2, n) := by
  rw [firstFailure_fields okS okF, firstBad_of_none (fieldsS_eq_false i) inS,
    firstBad_of_firstOut (fieldsF_eq_false i) first]

theorem firstFailure_shotLimits (inS : ∀ n, ¬ outS i.areaS n) (inF : ∀ n, ¬ outF i.areaF n) :
    i.firstFailure = i.badShotLimit.map (fun n => (2, n)) := by
  rw [firstFailure_fields okS okF, firstBad_of_none (fieldsS_eq_false i) inS,
    firstBad_of_none (fieldsF_eq_false i) inF]

end

theorem shotLimit_eq (i : Image) : i.shotLimit .ordinary = fieldAt i.areaF 0 1 ∧
    i.shotLimit .elevated = fieldAt i.areaF 14 1 ∧ i.shotLimit .extreme = fieldAt i.areaF 28 1 :=
  ⟨f8_eq .., f8_eq .., f8_eq ..⟩

theorem badShotLimit_eq (i : Image) : i.badShotLimit =
    if fieldAt i.areaF 0 1 < fieldAt i.areaF 14 1 then some 11
    else if fieldAt i.areaF 14 1 < fieldAt i.areaF 28 1 then some 22 else none := by
  obtain ⟨ordinary, elevated, extreme⟩ := shotLimit_eq i
  rw [Image.badShotLimit, ordinary, elevated, extreme]

theorem firstFailure_of_passesStart (passes : passesStart i) : i.firstFailure = none := by
  obtain ⟨okS, okF, inS, inF, first, second⟩ := passes
  rw [firstFailure_shotLimits okS okF inS inF, badShotLimit_eq, if_neg (by omega), if_neg (by omega)]
  rfl

theorem cmdStart_refuses {area index : Nat} (config : s.isRun = false)
    (fails : s.cport.staging.firstFailure = some (area, index)) :
    cmdStart s = replyWith .refusedRange [byteOf area, byteOf index] s := by
  rw [cmdStart, fails]
  exact if_neg (by simp [config])

theorem onlyAnswers_start_refused {area index : Nat} (up : s.resetHeld = false) (config : s.isRun = false)
    (fails : s.cport.staging.firstFailure = some (area, index)) :
    OnlyAnswers .start .refusedRange [byteOf area, byteOf index] s :=
  onlyAnswers_replyWith rfl up (cmdStart_refuses config fails)

/-- Settles O43: the checks of START one after the other, each field against its row of the layouts. -/
theorem startChecksTheStagingImage : Obligations.StartChecksTheStagingImage := by
  refine ⟨settingsReadAt, ?_⟩
  rintro s i up rfl
  refine ⟨fun run => onlyAnswers_reply rfl up (if_pos run), fun config bad => ?_, fun config okS bad => ?_,
    fun config okS okF => ⟨fun n first => ?_, fun inS => ⟨fun n first => ?_, fun inF => ⟨fun first => ?_,
      fun first second => ?_⟩⟩⟩⟩
  · exact onlyAnswers_start_refused up config (firstFailure_crcS bad)
  · exact onlyAnswers_start_refused up config (firstFailure_crcF okS bad)
  · exact onlyAnswers_start_refused up config (firstFailure_areaS okS okF first)
  · exact onlyAnswers_start_refused up config (firstFailure_areaF okS okF inS first)
  · refine onlyAnswers_start_refused (index := 11) up config ?_
    rw [firstFailure_shotLimits okS okF inS inF, badShotLimit_eq, if_pos first]
    rfl
  · refine onlyAnswers_start_refused (index := 22) up config ?_
    rw [firstFailure_shotLimits okS okF inS inF, badShotLimit_eq, if_neg (by omega), if_pos second]
    rfl

end Sys2Proof.Claims
end

section
/-! The shared steps of START and of SOFT RESET in RUN: LINK pins the configured neighbours and takes the placements
outstanding, and BLK places the records that stand. -/

namespace Sys2Proof.Claims

open Sys2Proof Sys2Proof.Machine

variable {s t u v w : State} {i : Image} {l : List Neighbour} {k : BlockKey}

/-! ### Chains of steps -/

theorem Chain.append {α : Type} {step : α → State → State → Prop} {as bs : List α} (h : Chain step as s t)
    (h' : Chain step bs t u) : Chain step (as ++ bs) s u := by
  induction as generalizing s with
  | nil => exact h ▸ h'
  | cons a as ih =>
    obtain ⟨v, first, rest⟩ := h
    exact ⟨v, first, ih rest⟩

/-! ### Pinning (R124, R125) -/

theorem pinsOne_pinOne (i : Image) (c : Byte × Relation) (s : State) : PinsOne i c s { s with
    link := { s.link with table := pinOne s.now i.beaconInterval s.link.table c } } := by
  refine ⟨_, rfl, fun present => ?_, fun absent => ?_⟩
  · exact if_pos (Option.isSome_iff_ne_none.2 fun none_ => by
      obtain ⟨e, mem, address⟩ := present
      exact findNeighbour_eq_none.1 none_ e mem address)
  · have added : pinOne s.now i.beaconInterval s.link.table c =
        addNeighbour s.now (pinnedEntry i c.1 c.2) s.link.table :=
      if_neg (by simp [findNeighbour_eq_none.2 absent])
    rw [added]
    refine ⟨addNeighbour_room, fun old before after_ full nodup eq free younger notOlder => ?_⟩
    rw [eq] at full nodup ⊢
    exact addNeighbour_full full nodup free younger notOlder

theorem chain_pinOne (i : Image) (cs : List (Byte × Relation)) (s : State) : Chain (PinsOne i) cs s { s with
    link := { s.link with table := cs.foldl (pinOne s.now i.beaconInterval) s.link.table } } := by
  induction cs generalizing s with
  | nil => rfl
  | cons c cs ih => exact ⟨_, pinsOne_pinOne i c s, ih _⟩

theorem allPinned_pinAll (table : t.link.table = pinAll s.now i l) :
    AllPinned i (l.filter (fun e => decide (e.address ≠ i.stationAddress))) s t := by
  refine ⟨_, chain_pinOne i i.configured _, table.trans ?_⟩
  have kept : (fun e : Neighbour => e.address != i.stationAddress) = fun e => decide (e.address ≠ i.stationAddress) := by
    funext e
    rw [decide_not, bne, beq_decide]
  rw [pinAll, kept]

/-- What LINK knows of a configured neighbour before it is heard. -/
def Unheard (e : Neighbour) : Prop := e.pinned = true ∧ e.status = .lost ∧ e.lastSol = none

theorem unheard_pinOne {now : Ms} {interval : Nat} {c : Byte × Relation} (unheard : ∀ e ∈ l, Unheard e) :
    ∀ e ∈ pinOne now interval l c, Unheard e := by
  intro e mem
  unfold pinOne at mem
  split at mem
  · obtain ⟨x, memX, rfl⟩ := List.mem_map.1 mem
    obtain ⟨pinned, lost, sol⟩ := unheard x memX
    split
    · exact ⟨rfl, rfl, sol⟩
    · exact ⟨pinned, lost, sol⟩
  · rcases Nat.lt_or_ge l.length 24 with room | full
    · rw [addNeighbour_room room] at mem
      rcases List.mem_append.1 mem with old | new
      · exact unheard e old
      · obtain rfl := List.mem_singleton.1 new
        exact ⟨rfl, rfl, rfl⟩
    · rw [addNeighbour_pinned full fun x memX => (unheard x memX).1] at mem
      exact unheard e mem

theorem unheard_pinAll (now : Ms) (i : Image) : ∀ e ∈ pinAll now i [], Unheard e :=
  List.foldlRecOn (motive := fun table => ∀ e ∈ table, Unheard e) i.configured _ (by simp)
    fun _ unheard _ _ => unheard_pinOne unheard

/-! ### LINK takes placements (R127, R128, R132) -/

/-- The slots after a placement. -/
def slotsAfter (x : Slots) : Placement → Slots
  | .owned f => x.put f
  | .beaconRequest => { x with beacon := true }

/-- What the placements `ps`, taken in RUN one after the other, make of LINK. -/
structure LinkTook (ps : List Placement) (s t : State) : Prop where
  slots : t.link.slots = ps.foldl slotsAfter s.link.slots
  beaconAt : t.link.beaconAt =
    if .beaconRequest ∈ ps then some (after s.now (s.image.beaconInterval * 1000)) else s.link.beaconAt
  deferred : s.link.tx = .defer ∨ (s.link.tx = .idle ∧ ps ≠ []) → t.link.tx = .defer
  sends : sameSends s t
  lfsr : t.link.lfsr = s.link.lfsr
  table : t.link.table = s.link.table

theorem linkTook_takePlacement (p : Placement) (run : s.isRun = true) : LinkTook [p] s (takePlacement p s) := by
  cases p with
  | owned f =>
    rw [show takePlacement (.owned f) s = putFrame f s from if_pos run, putFrame, startTransmitter]
    split <;> constructor <;> simp_all [slotsAfter, sameSends, enterDefer, txEnter]
  | beaconRequest =>
    rw [show takePlacement .beaconRequest s = placeBeacon s from if_pos run, placeBeacon, startTransmitter]
    split <;> constructor <;> simp_all [slotsAfter, sameSends, enterDefer, txEnter]

theorem LinkTook.cons {p : Placement} {ps : List Placement} (first : LinkTook [p] s u) (rest : LinkTook ps u t)
    (now : u.now = s.now) (image : u.image = s.image) : LinkTook (p :: ps) s t where
  slots := by rw [rest.slots, first.slots]; rfl
  beaconAt := by
    rw [rest.beaconAt, first.beaconAt, now, image]
    by_cases here : p = .beaconRequest
    · simp [here]
    · simp [Ne.symm here]
  deferred h := rest.deferred (.inl (first.deferred (h.imp id fun idle => ⟨idle.1, by simp⟩)))
  sends := by
    obtain ⟨sol, fresh, last, sending, key, txd, cd, rx⟩ := first.sends
    obtain ⟨sol', fresh', last', sending', key', txd', cd', rx'⟩ := rest.sends
    exact ⟨sol'.trans sol, fresh'.trans fresh, last'.trans last, sending'.trans sending, key'.trans key,
      txd'.trans txd, cd'.trans cd, rx'.trans rx⟩
  lfsr := rest.lfsr.trans first.lfsr
  table := rest.table.trans first.table

theorem linkTook_foldl (ps : List Placement) (run : s.isRun = true) :
    LinkTook ps s (ps.foldl (fun t p => takePlacement p (takeHandOver (.framePlacement p) t)) s) := by
  induction ps generalizing s with
  | nil => exact ⟨rfl, rfl, fun h => h.resolve_right (fun idle => idle.2 rfl), ⟨rfl, rfl, rfl, rfl, rfl, rfl, rfl, rfl⟩,
      rfl, rfl⟩
  | cons p ps ih =>
    obtain ⟨slots, beaconAt, deferred, sends, lfsr, table⟩ :=
      linkTook_takePlacement (s := takeHandOver (.framePlacement p) s) p run
    have first : LinkTook [p] s (takePlacement p (takeHandOver (.framePlacement p) s)) :=
      ⟨slots, beaconAt, deferred, sends, lfsr, table⟩
    exact first.cons (ih (by simpa [takeHandOver, State.isRun] using run)) (by simp [takeHandOver])
      (by simp [takeHandOver, State.image])

theorem linkTook_takePlacements (run : s.isRun = true) :
    LinkTook (s.handovers.filterMap placementOf) s (takePlacements s) := linkTook_foldl _ run

theorem eventFrame_takePlacements (s : State) :
    EventFrame [.meas, .elem, .fin, .sequencer, .blk, .prof, .tripco, .hunt] s (takePlacements s) := by
  refine List.foldlRecOn (motive := fun t => EventFrame _ s t) _ _ (EventFrame.refl s) fun t h p _ => h.trans ?_
  simp [EventFrame, Frame, sameBlock, sameSettings, sameTransaction, takeHandOver]

theorem isNone_placementOf (e : Instr) : (placementOf e).isNone = !isPlacement e := by
  cases e <;> rfl

theorem handovers_takePlacements (s : State) :
    (takePlacements s).handovers = s.handovers.filter (fun e => !isPlacement e) := by
  simp only [takePlacements_handovers, isNone_placementOf]

theorem filterMap_placementOf (ps : List Placement) : (ps.map Instr.framePlacement).filterMap placementOf = ps := by
  rw [List.filterMap_map]
  exact List.filterMap_some

theorem filter_placements (ps : List Placement) :
    (ps.map Instr.framePlacement).filter (fun e => !isPlacement e) = [] :=
  List.filter_eq_nil_iff.2 fun e mem => by
    obtain ⟨p, -, rfl⟩ := List.mem_map.1 mem
    simp [isPlacement]

/-! ### The records that stand (R88, R97) -/

/-- BLK places a record of effect LOCK where its condition holds. -/
def standingStored (c : Prop) [Decidable c] (k : BlockKey) (s : State) : State :=
  if c then storeBlock k .lock none s else s

section StandingStored

variable {c : Prop} [Decidable c]

theorem eventFrame_standingStored (k : BlockKey) (s : State) :
    EventFrame [.meas, .elem, .fin, .sequencer, .prof, .link, .tripco, .hunt] s (standingStored c k s) := by
  unfold standingStored
  split
  · exact eventFrame_storeBlock ..
  · exact EventFrame.refl s

@[simp] theorem standingStored_frame (k : BlockKey) (s : State) :
    (standingStored c k s).sequencer = s.sequencer ∧ (standingStored c k s).fin = s.fin ∧
      (standingStored c k s).meas = s.meas ∧ (standingStored c k s).address = s.address ∧
      (standingStored c k s).handovers = s.handovers ∧ (standingStored c k s).blk.watches = s.blk.watches := by
  unfold standingStored
  split <;> simp

theorem inputSet_standingStored (k : BlockKey) (n : Nat) (s : State) :
    (standingStored c k s).inputSet n = s.inputSet n := by
  simp [State.inputSet, State.input]

theorem fieldRecord_standingStored (k : BlockKey) (n : Nat) (s : State) :
    fieldRecord n (standingStored c k s) = fieldRecord n s := by
  simp [fieldRecord]

theorem putsRecord_storeBlock (rest : s.sequencer.st ≠ .deadHold) :
    PutsRecord k .lock none s (storeBlock k .lock none s) := by
  refine ⟨_, stored_storeBlock k .lock none s, fun _ _ => rfl, fun _ => ⟨fun _ => rfl, fun st => absurd ?_ rest⟩⟩
  simpa using st

theorem chain_standingStored (rest : s.sequencer.st ≠ .deadHold) :
    Chain (fun k => PutsRecord k .lock none) (if c then [k] else []) s (standingStored c k s) := by
  unfold standingStored
  split
  · exact ⟨_, putsRecord_storeBlock rest, rfl⟩
  · rfl

end StandingStored

theorem placeStanding_eq (s : State) : placeStanding s =
    standingStored (s.inputSet 5 = true) (fieldRecord 5 s) (standingStored (s.inputSet 2 = true) (fieldRecord 2 s)
      (standingStored (s.meas.status = .stale) { source := .self, origin := s.address, tag := 1 } s)) := by
  let self := standingStored (s.meas.status = .stale) { source := .self, origin := s.address, tag := 1 } s
  let nonReclose := standingStored (self.inputSet 2 = true) (fieldRecord 2 self) self
  calc placeStanding s
      = standingStored (nonReclose.inputSet 5 = true) (fieldRecord 5 nonReclose) nonReclose := rfl
    _ = _ := by
      simp only [nonReclose, self, inputSet_standingStored, fieldRecord_standingStored]

theorem chain_placeStanding (rest : s.sequencer.st ≠ .deadHold) :
    Chain (fun k => PutsRecord k .lock none) (standingKeys s) s (placeStanding s) := by
  rw [placeStanding_eq]
  refine ((chain_standingStored rest).append (chain_standingStored ?_)).append (chain_standingStored ?_)
  · simpa using rest
  · simpa using rest

theorem eventFrame_placeStanding (s : State) :
    EventFrame [.meas, .elem, .fin, .sequencer, .prof, .link, .tripco, .hunt] s (placeStanding s) := by
  rw [placeStanding_eq]
  exact ((eventFrame_standingStored ..).trans (eventFrame_standingStored ..)).trans (eventFrame_standingStored ..)

theorem handovers_placeStanding (s : State) : (placeStanding s).handovers = s.handovers := by
  simp [placeStanding_eq]

/-- The record of a key stands, or BLK shows that there was no room for it. -/
def Stands (k : BlockKey) (s : State) : Prop := hasKey k s.blk.table = true ∨ s.blk.overflow = true

theorem Stands.storeBlock (h : Stands k s) (k' : BlockKey) : Stands k (storeBlock k' .lock none s) := by
  by_cases present : hasKey k' s.blk.table = true
  · rw [storeBlock_refresh k' _ _ s present]
    refine h.imp (fun there => ?_) id
    have mem {l : List BlockRecord} : hasKey k l = true ↔ k ∈ l.map (·.key) := by simp [hasKey_iff]
    rw [mem] at there ⊢
    exact (Safety.map_key_refreshRecord ..).symm ▸ there
  · rw [Bool.not_eq_true] at present
    by_cases room : s.blk.table.length < 16
    · rw [storeBlock_new k' _ _ s present room]
      refine h.imp (fun there => ?_) id
      simp only [hasKey, List.any_append, Bool.or_eq_true] at there ⊢
      exact .inl there
    · rw [storeBlock_full k' _ _ s present room]
      exact .inr (by simp)

theorem Stands.standingStored {c : Prop} [Decidable c] (h : Stands k s) (k' : BlockKey) :
    Stands k (standingStored c k' s) := by
  unfold Claims.standingStored
  split
  · exact h.storeBlock k'
  · exact h

theorem stands_standingStored {c : Prop} [Decidable c] (holds : c) (s : State) : Stands k (standingStored c k s) := by
  rw [standingStored, if_pos holds]
  exact storeBlock_stored k .lock none s

theorem stands_placeStanding (s : State) :
    (s.meas.status = .stale → Stands (selfKey s) (placeStanding s)) ∧
    (s.inputSet 2 = true → Stands (fieldKey s 2) (placeStanding s)) ∧
    (s.inputSet 5 = true → Stands (fieldKey s 5) (placeStanding s)) := by
  rw [placeStanding_eq]
  exact ⟨fun stale => ((stands_standingStored stale s).standingStored _).standingStored _,
    fun high => (stands_standingStored high _).standingStored _, fun high => stands_standingStored high _⟩

end Sys2Proof.Claims
end

section
/-! START: what each step makes of the part, and what every block holds in RUN. -/

namespace Sys2Proof.Claims

open Sys2Proof Sys2Proof.Machine

variable {s t u v w : State} {i : Image} {st : SeqState}

/-! ### The standing records, and what SEQ is meanwhile (R83; log 32) -/

theorem storeBlock_withSequencer (q : SequencerState) (k : BlockKey) (s : State) :
    storeBlock k .lock none { s with sequencer := q } = { storeBlock k .lock none s with sequencer := q } := by
  simp only [storeBlock]
  split <;> rfl

theorem standingStored_withSequencer {c : Prop} [Decidable c] (q : SequencerState) (k : BlockKey) (s : State) :
    standingStored c k { s with sequencer := q } = { standingStored c k s with sequencer := q } := by
  unfold standingStored
  split
  · exact storeBlock_withSequencer q k s
  · rfl

theorem placeStanding_withSequencer (q : SequencerState) (s : State) :
    placeStanding { s with sequencer := q } = { placeStanding s with sequencer := q } := by
  rw [placeStanding_eq, placeStanding_eq, ← standingStored_withSequencer, ← standingStored_withSequencer,
    ← standingStored_withSequencer]
  rfl

theorem inputSet_of_contacts (contacts : sameContacts s t) (n : Nat) : t.inputSet n = s.inputSet n := by
  rw [State.inputSet, contacts.1, State.inputSet]

theorem standingKeys_congr (meas : t.meas.status = s.meas.status) (contacts : sameContacts s t)
    (address : t.address = s.address) : standingKeys t = standingKeys s := by
  simp only [standingKeys, fieldRecord, inputSet_of_contacts contacts, meas, address]

/-- What BLK placed at `s` is what the statements say of a later state `t` that left BLK and the notices. -/
theorem standingPlaced_placeStanding {b : BlkState} {ns : List Notice} (rest : t.sequencer.st ≠ .deadHold)
    (noticed : Noticed ns u s) (blk : s.blk = b) (image : s.image = t.image) (now : s.now = t.now)
    (keys : standingKeys t = standingKeys s) (placed : t.blk = (placeStanding s).blk)
    (quiet : Noticed [] (placeStanding s) t) : StandingPlaced b ns u t := by
  have chain : Chain (fun k => PutsRecord k .lock none) (standingKeys s) { s with sequencer := t.sequencer }
      { placeStanding s with sequencer := t.sequencer } :=
    placeStanding_withSequencer t.sequencer s ▸ chain_placeStanding (s := { s with sequencer := t.sequencer }) rest
  exact ⟨{ s with sequencer := t.sequencer }, { placeStanding s with sequencer := t.sequencer }, noticed, blk, image, now,
    rfl, keys ▸ chain, placed, quiet⟩

/-! ### SEQ's step (R57) -/

theorem transition_seqStart (position : st = if s.fin.position = .closed then .closedRest else .lockout) :
    Transition st none [stateNote st .start s] [stateFrame st 0 s]
      { s with
        sequencer := { s.sequencer with
          shot := 0, manualClose := false, noReclose := false, lastCause := .none } } (seqStart s) := by
  subst position
  unfold seqStart
  split <;> exact transition_seqMove ..

/-- Placements that leave the STATE frame and the BEACON waiting in their slots. -/
def LeavesState (ps : List Placement) : Prop := ∀ x : Slots,
  (ps.foldl slotsAfter x).state = x.state ∧ (ps.foldl slotsAfter x).beacon = x.beacon

/-- What TRIPCO places after a transition's own frames. -/
theorem tripcoReview_handovers (s : State) : ∃ tail : List Placement,
    (tripcoReview s).handovers = s.handovers ++ tail.map Instr.framePlacement ∧ LeavesState tail := by
  have stays {v : State} (same : v.handovers = s.handovers) : ∃ tail : List Placement,
      v.handovers = s.handovers ++ tail.map Instr.framePlacement ∧ LeavesState tail :=
    ⟨[], by simpa using same, fun _ => ⟨rfl, rfl⟩⟩
  unfold tripcoReview
  split
  · split
    · exact stays rfl
    · exact ⟨[.owned (.restrain (restrainPayload s))], rfl, fun _ => ⟨rfl, rfl⟩⟩
  · split
    · unfold endEpisode
      simp only
      split
      · exact stays rfl
      · exact ⟨[.owned .release], rfl, fun _ => ⟨rfl, rfl⟩⟩
    · exact stays rfl

/-! ### START as far as SEQ (R175, steps 1 to 5) -/

/-- The notice of a demand that PROF follows at once, where the effective profile changes (R110, R111). -/
def followNotes (p : ProfState) (s : State) : List Notice :=
  if p.effective = s.prof.effective then []
  else [profileNote 3 s.prof.effective p.effective p.port p.field p.peer s]

theorem startProfile_eq {p : ProfState} (follows : p = s.prof.follow (peerDemand s)) : startProfile s = { s with
    prof := p, cport := (followNotes p s).foldl (fun c n => c.queue s.image.attnMask n) s.cport,
    handovers := s.handovers ++ [.framePlacement .beaconRequest] } := by
  subst follows
  by_cases same : (s.prof.follow (peerDemand s)).effective = s.prof.effective
  · rw [followNotes, if_pos same]
    exact congrArg askBeacon (if_pos same)
  · rw [followNotes, if_neg same]
    refine (congrArg askBeacon (if_neg same)).trans ?_
    rw [queueProfileChanged_eq]
    rfl

/-- The peer demand that PROF finds at START: that of the pinned table (R110). -/
def startDemand (s : State) : Profile := peerDemand (startLink (lockSettings s))

/-- The notices of START that stand before SEQ's. -/
def startNotes (p : ProfState) (s : State) : List Notice :=
  note .started s.cport.staging.stationAddress (half (positionCode s.fin.position)) (half (profileCode s.prof.effective))
    s :: followNotes p (lockSettings s)

/-- The part before SEQ's step: the settings locked, LINK, TRIPCO and PROF started, and nothing else changed. -/
def beforeSeq (p : ProfState) (s : State) : State :=
  { s with
    cport := (startNotes p s).foldl (fun c n => c.queue s.cport.staging.attnMask n) (lockSettings s).cport,
    link := { s.link with
      lfsr := s.cport.staging.stationAddress.setWidth 16, table := pinAll s.now s.cport.staging s.link.table },
    tripco := { TripcoState.reset with records := s.cport.staging.downstream.map Restraint.fresh },
    prof := p, handovers := s.handovers ++ [.framePlacement .beaconRequest] }

theorem announceStart_eq (s : State) : announceStart (startTripco (startLink (lockSettings s))) = { s with
    cport := (lockSettings s).cport.queue s.cport.staging.attnMask (note .started s.cport.staging.stationAddress
      (half (positionCode s.fin.position)) (half (profileCode s.prof.effective)) s),
    link := { s.link with
      lfsr := s.cport.staging.stationAddress.setWidth 16, table := pinAll s.now s.cport.staging s.link.table },
    tripco := { TripcoState.reset with records := s.cport.staging.downstream.map Restraint.fresh } } := rfl

theorem announceStart_image (s : State) :
    (announceStart (startTripco (startLink (lockSettings s)))).image = s.cport.staging := by
  rw [announceStart_eq]
  simp [State.image, queue_settings, lockSettings, refreshAttn]

theorem startProfile_announceStart (s : State) :
    startProfile (announceStart (startTripco (startLink (lockSettings s)))) =
      beforeSeq (s.prof.follow (startDemand s)) s := by
  have image := announceStart_image s
  have demand : peerDemand (announceStart (startTripco (startLink (lockSettings s)))) = startDemand s := by
    rw [peerDemand, State.followPeers, image]
    rfl
  have notes (p : ProfState) : followNotes p (announceStart (startTripco (startLink (lockSettings s)))) =
      followNotes p (lockSettings s) := by
    simp only [followNotes, profileNote, note, State.address, image]
    rfl
  rw [startProfile_eq rfl, demand, image, notes]
  rfl

theorem enterRun_eq (s : State) : enterRun s = refreshHealthy (placeStanding (takePlacements (seqStart
    (beforeSeq (s.prof.follow (startDemand s)) s)))) := by
  rw [enterRun, startProfile_announceStart]

section BeforeSeq

variable (p : ProfState) (s : State)

theorem beforeSeq_cport : (beforeSeq p s).cport.part = .run ∧ (beforeSeq p s).cport.staging = s.cport.staging ∧
    (beforeSeq p s).cport.locked = some s.cport.staging := by
  simp [beforeSeq, queueAll_settings, lockSettings, refreshAttn]

theorem beforeSeq_isRun : (beforeSeq p s).isRun = true := by
  rw [State.isRun, (beforeSeq_cport p s).1]
  rfl

theorem beforeSeq_image : (beforeSeq p s).image = s.cport.staging := by
  obtain ⟨-, -, locked⟩ := beforeSeq_cport p s
  rw [State.image, locked, Option.getD_some]

end BeforeSeq

/-! ### What SEQ's step leaves to LINK and BLK -/

theorem Transition.cport {timer : Option Ms} {ns : List Notice} {fs : List OwnedFrame}
    (h : Transition st timer ns fs s t) : t.cport = ns.foldl (fun c n => c.queue s.image.attnMask n) s.cport := by
  obtain ⟨p, -, -, queued, -, -, -, rfl⟩ := h
  simpa [Queued] using queued

theorem Transition.handovers {timer : Option Ms} {ns : List Notice} {fs : List OwnedFrame}
    (h : Transition st timer ns fs s t) : ∃ tail : List Placement,
      t.handovers = s.handovers ++ placements fs ++ tail.map Instr.framePlacement ∧ LeavesState tail := by
  obtain ⟨p, -, -, -, handed, -, -, rfl⟩ := h
  exact handed ▸ tripcoReview_handovers p

/-- The part `c` after SEQ's step of START, the demands being `p`. -/
structure Began (st : SeqState) (p : ProfState) (s c : State) : Prop where
  seqIs : SeqIs st none c
  counts : c.sequencer.shot = 0 ∧ c.sequencer.manualClose = false ∧ c.sequencer.noReclose = false ∧
    c.sequencer.lastCause = .none
  contacts : sameContacts s c
  records : c.tripco.records = s.cport.staging.downstream.map Restraint.fresh
  frame : EventFrame [.meas, .elem, .blk, .prof, .link, .hunt] (beforeSeq p s) c
  cport : c.cport = (startNotes p s ++ [stateNote st .start c]).foldl
    (fun c n => c.queue s.cport.staging.attnMask n) (lockSettings s).cport
  handovers : ∃ tail : List Placement, c.handovers = s.handovers ++ (Placement.beaconRequest ::
      .owned (.state { st := st, pos := s.fin.position, shot := 0 }) :: tail).map Instr.framePlacement ∧
    LeavesState tail

theorem began_seqStart (p : ProfState) (position : st = if s.fin.position = .closed then .closedRest else .lockout) :
    Began st p s (seqStart (beforeSeq p s)) := by
  have h := transition_seqStart (s := beforeSeq p s) position
  obtain ⟨seqIs, counts, contacts, -, records, -, -⟩ := h.leaves
  obtain ⟨tail, handed, states⟩ := h.handovers
  have frame : EventFrame [.meas, .elem, .blk, .prof, .link, .hunt] (beforeSeq p s) (seqStart (beforeSeq p s)) := by
    simp [EventFrame, Frame, sameBlock, sameSettings, sameTransaction]
  refine ⟨seqIs, counts, contacts, records, frame, ?_, tail, ?_, states⟩
  · have same : stateNote st .start (seqStart (beforeSeq p s)) = stateNote st .start (beforeSeq p s) :=
      stateNote_congr frame.1.2.2 frame.1.address
    rw [h.cport, same, List.foldl_append]
    show List.foldl (fun c n => c.queue (beforeSeq p s).image.attnMask n) (beforeSeq p s).cport _ = _
    rw [beforeSeq_image]
    rfl
  · rw [handed]
    simp [beforeSeq, placements, stateFrame]

/-! ### START (R175) -/

/-- What the last steps of START and of SOFT RESET leave: LINK takes its placements and BLK its standing records. -/
theorem eventFrame_placed (s : State) :
    EventFrame [.meas, .elem, .fin, .sequencer, .prof, .tripco, .hunt] s (placeStanding (takePlacements s)) :=
  ((eventFrame_takePlacements s).mono (by decide)).trans ((eventFrame_placeStanding _).mono (by decide))

theorem LinkTook.started {before tail : List Placement} {x : StateInfo}
    (h : LinkTook (before ++ .beaconRequest :: .owned (.state x) :: tail) s t) (leaves : LeavesState tail) :
    t.link.slots.state = some x ∧ t.link.slots.beacon = true ∧
      t.link.beaconAt = some (after s.now (s.image.beaconInterval * 1000)) := by
  have slots := h.slots
  rw [List.foldl_append, List.foldl_cons, List.foldl_cons] at slots
  obtain ⟨state, beacon⟩ := leaves (slotsAfter (slotsAfter (before.foldl slotsAfter s.link.slots) .beaconRequest)
    (.owned (.state x)))
  exact ⟨slots ▸ state, slots ▸ beacon, h.beaconAt.trans (if_pos (by simp))⟩

/-- The part in RUN, before its answer. -/
structure Entered (st : SeqState) (p : ProfState) (s t : State) : Prop where
  seqIs : SeqIs st none t
  counts : t.sequencer.shot = 0 ∧ t.sequencer.manualClose = false ∧ t.sequencer.noReclose = false ∧
    t.sequencer.lastCause = .none
  contacts : sameContacts s t
  cport : t.cport.part = .run ∧ t.cport.staging = s.cport.staging ∧ t.cport.locked = some s.cport.staging
  records : t.tripco.records = s.cport.staging.downstream.map Restraint.fresh
  prof : t.prof = p
  others : t.meas = s.meas ∧ t.elem = s.elem ∧ t.hunt = s.hunt ∧ t.now = s.now ∧ t.pending = s.pending
  link : sameSends s t ∧ t.link.lfsr = s.cport.staging.stationAddress.setWidth 16 ∧
    t.link.table = pinAll s.now s.cport.staging s.link.table ∧
    t.link.slots.state = some { st := st, pos := s.fin.position, shot := 0 } ∧ t.link.slots.beacon = true ∧
    t.link.beaconAt = some (after s.now (s.cport.staging.beaconInterval * 1000))
  handovers : t.handovers = s.handovers.filter (fun e => !isPlacement e)
  placed : StandingPlaced s.blk (startNotes p s ++ [stateNote st .start t]) (lockSettings s) t

section Began

variable {p : ProfState} {c : State}

theorem Began.linkTook (h : Began st p s c) : sameSends s (takePlacements c) ∧
    (takePlacements c).link.lfsr = s.cport.staging.stationAddress.setWidth 16 ∧
    (takePlacements c).link.table = pinAll s.now s.cport.staging s.link.table ∧
    (takePlacements c).link.slots.state = some { st := st, pos := s.fin.position, shot := 0 } ∧
    (takePlacements c).link.slots.beacon = true ∧
    (takePlacements c).link.beaconAt = some (after s.now (s.cport.staging.beaconInterval * 1000)) := by
  obtain ⟨-, -, -, -, began, -, tail, handed, leaves⟩ := h
  have run : c.isRun = true := began.1.isRun.trans (beforeSeq_isRun p s)
  have link : c.link = (beforeSeq p s).link := began.1.1 .link (by decide)
  have now : c.now = s.now := began.1.2.2
  have image : c.image = s.cport.staging := began.1.image.trans (beforeSeq_image p s)
  have took := linkTook_takePlacements run
  rw [handed, List.filterMap_append, filterMap_placementOf] at took
  obtain ⟨state, beacon, beaconAt⟩ := took.started leaves
  obtain ⟨-, -, -, sends, lfsr, table⟩ := took
  rw [sameSends, link] at sends
  rw [now, image] at beaconAt
  rw [link] at lfsr table
  exact ⟨sends, lfsr, table, state, beacon, beaconAt⟩

theorem Began.handed (h : Began st p s c) :
    (placeStanding (takePlacements c)).handovers = s.handovers.filter (fun e => !isPlacement e) := by
  obtain ⟨tail, handed, -⟩ := h.handovers
  rw [handovers_placeStanding, handovers_takePlacements, handed, List.filter_append, filter_placements, List.append_nil]

theorem Began.standing (h : Began st p s c) (rest : st ≠ .deadHold) :
    StandingPlaced s.blk (startNotes p s ++ [stateNote st .start (placeStanding (takePlacements c))]) (lockSettings s)
      (placeStanding (takePlacements c)) := by
  have taken := eventFrame_takePlacements c
  have stands := eventFrame_placeStanding (takePlacements c)
  have placed := taken.mono (cs := []) (by decide) |>.trans (stands.mono (by decide))
  have image := stands.1.image
  have fin : (placeStanding (takePlacements c)).fin = (takePlacements c).fin := stands.1.1 .fin (by decide)
  have meas : (placeStanding (takePlacements c)).meas = (takePlacements c).meas := stands.1.1 .meas (by decide)
  have sequencer : (placeStanding (takePlacements c)).sequencer = c.sequencer :=
    (eventFrame_placed c).1.1 .sequencer (by decide)
  have blk : (takePlacements c).blk = s.blk := (taken.1.1 .blk (by decide)).trans (h.frame.1.1 .blk (by decide))
  have cport : (takePlacements c).cport = c.cport := (takePlacements_rest c).2.2.2.2.1
  have same : stateNote st .start (placeStanding (takePlacements c)) = stateNote st .start c :=
    stateNote_congr placed.1.2.2 placed.1.address
  refine standingPlaced_placeStanding ?_ ?_ blk image.symm stands.1.2.2.symm
    (standingKeys_congr (by rw [meas]) (sameContacts_of_fin fin) stands.1.address) rfl ⟨rfl, rfl, rfl⟩
  · rw [sequencer, h.seqIs.1]
    exact rest
  · rw [same, Noticed, cport, h.cport]
    exact ⟨rfl, rfl, rfl⟩

theorem Began.entered (h : Began st p s c) (rest : st ≠ .deadHold) :
    Entered st p s (placeStanding (takePlacements c)) := by
  have placed := eventFrame_placed c
  have stands := eventFrame_placeStanding (takePlacements c)
  obtain ⟨blocks, ⟨part, staging, locked, -, pending⟩, now⟩ := placed.1
  obtain ⟨blocks', ⟨part', staging', locked', -, pending'⟩, now'⟩ := h.frame.1
  obtain ⟨runs, keeps, locks⟩ := beforeSeq_cport p s
  have sequencer : (placeStanding (takePlacements c)).sequencer = c.sequencer := blocks .sequencer (by decide)
  have fin : (placeStanding (takePlacements c)).fin = c.fin := blocks .fin (by decide)
  have tripco : (placeStanding (takePlacements c)).tripco = c.tripco := blocks .tripco (by decide)
  have link : (placeStanding (takePlacements c)).link = (takePlacements c).link := stands.1.1 .link (by decide)
  have kept {b : Block} (mem : b ∈ [.meas, .elem, .prof, .hunt]) :
      sameBlock (beforeSeq p s) (placeStanding (takePlacements c)) b :=
    sameBlock_trans (blocks' b (by revert b; decide)) (blocks b (by revert b; decide))
  refine ⟨?_, ?_, sameContacts_trans h.contacts (sameContacts_of_fin fin), ⟨part.trans (part'.trans runs),
      staging.trans (staging'.trans keeps), locked.trans (locked'.trans locks)⟩, ?_, kept (b := .prof) (by decide),
    ⟨kept (b := .meas) (by decide), kept (b := .elem) (by decide), kept (b := .hunt) (by decide), now.trans now',
      pending.trans pending'⟩, ?_, h.handed, h.standing rest⟩
  · rw [SeqIs, sequencer]
    exact h.seqIs
  · rw [sequencer]
    exact h.counts
  · rw [tripco]
    exact h.records
  · rw [sameSends, link]
    exact h.linkTook

end Began

end Sys2Proof.Claims
end

section
/-! START enters RUN. -/

namespace Sys2Proof.Claims

open Sys2Proof Sys2Proof.Machine

variable {s t u : State} {st : SeqState} {p : ProfState}

theorem follow_demands (peer : Profile) (p : ProfState) : (p.follow peer).port = p.port ∧ (p.follow peer).field = p.field ∧
    (p.follow peer).peer = peer ∧ Safety.IsLarger (p.follow peer).ownDemand p.port p.field ∧
    Safety.IsLarger (p.follow peer).target (p.follow peer).ownDemand peer ∧
    (p.follow peer).effective = (p.follow peer).target ∧ (p.follow peer).relax = .none ∧
    (p.follow peer).relaxAt = none :=
  ⟨rfl, rfl, rfl, (Safety.isLarger_iff ..).2 rfl, (Safety.isLarger_iff ..).2 rfl, rfl, rfl, rfl⟩

section Entered

variable {e : State}

theorem Entered.image (h : Entered st p s e) : e.image = s.cport.staging := by
  obtain ⟨-, -, locked⟩ := h.cport
  rw [State.image, locked, Option.getD_some]

theorem Entered.isRun (h : Entered st p s e) : e.isRun = true := by
  obtain ⟨part, -⟩ := h.cport
  rw [State.isRun, part]
  rfl

theorem Entered.healthy (h : Entered st p s e) (rest : st ≠ .failed) :
    healthyLevel e = decide (s.meas.status = .fresh) := by
  obtain ⟨meas, -⟩ := h.others
  rw [healthyLevel_eq, h.isRun, h.seqIs.1, meas]
  simp [rest]

theorem Entered.peer (h : Entered st p s e) : Safety.IsPeerDemand (startDemand s) e := by
  obtain ⟨-, -, table, -⟩ := h.link
  exact (isPeerDemand_congr (s := startLink (lockSettings s)) table h.image).2 (Safety.isPeerDemand_peerDemand _)

theorem Entered.notes (h : Entered st p s e) : startNotes p s =
    [note .started s.cport.staging.stationAddress (half (positionCode s.fin.position)) (half (profileCode s.prof.effective))
      s] ++ (if p.effective = s.prof.effective then []
        else [profileNote 3 s.prof.effective p.effective p.port p.field p.peer e]) := by
  obtain ⟨-, -, -, now, -⟩ := h.others
  have address : e.address = s.cport.staging.stationAddress := congrArg Image.stationAddress h.image
  have same : profileNote 3 s.prof.effective p.effective p.port p.field p.peer (lockSettings s) =
      profileNote 3 s.prof.effective p.effective p.port p.field p.peer e := by
    simp only [profileNote, note, address, now]
    rfl
  rw [← same]
  rfl

end Entered

/-- The records that stand are in the table, or BLK shows that there was no room. -/
def StandingHeld (s t : State) : Prop :=
  (s.meas.status = .stale → Stands (selfKey t) t) ∧ (s.inputSet 2 = true → Stands (fieldKey t 2) t) ∧
    (s.inputSet 5 = true → Stands (fieldKey t 5) t)

theorem standingHeld_placeStanding (meas : t.meas.status = s.meas.status) (contacts : sameContacts s t) :
    StandingHeld s (placeStanding t) := by
  have level := inputSet_of_contacts contacts
  have address : (placeStanding t).address = t.address := (eventFrame_placeStanding t).1.address
  obtain ⟨self, nonReclose, gasLow⟩ := stands_placeStanding t
  simp only [StandingHeld, fieldKey, selfKey, address] at self nonReclose gasLow ⊢
  rw [meas] at self
  rw [level] at nonReclose gasLow
  exact ⟨self, nonReclose, gasLow⟩

theorem Began.held {c : State} (h : Began st p s c) : StandingHeld s (placeStanding (takePlacements c)) := by
  have taken := eventFrame_takePlacements c
  have meas : (takePlacements c).meas = s.meas := (taken.1.1 .meas (by decide)).trans (h.frame.1.1 .meas (by decide))
  have fin : (takePlacements c).fin = c.fin := taken.1.1 .fin (by decide)
  exact standingHeld_placeStanding (by rw [meas]) (sameContacts_trans h.contacts (sameContacts_of_fin fin))

theorem enterRun_entered (position : st = if s.fin.position = .closed then .closedRest else .lockout)
    (rest : st ≠ .deadHold) : ∃ e : State, enterRun s = refreshHealthy e ∧
      Entered st (s.prof.follow (startDemand s)) s e ∧ StandingHeld s e :=
  have began := began_seqStart _ position
  ⟨_, enterRun_eq s, began.entered rest, began.held⟩

/-- Settles O44: what SEQ's step, the placements and the standing records leave, read off the state entered. -/
theorem startEntersRun : Obligations.StartEntersRun := by
  rintro s _ st up config rfl passes position
  have live : st ≠ .deadHold ∧ st ≠ .failed := by
    subst position
    split <;> decide
  obtain ⟨e, enters, h, self, nonReclose, gasLow⟩ := enterRun_entered position live.1
  have answer : cmdStart s = reply .accepted (refreshHealthy e) := by
    rw [cmdStart, firstFailure_of_passesStart passes, ← enters]
    exact if_neg (by simp [config])
  obtain ⟨port, field, peer, own, target, effective, relax, relaxAt⟩ := follow_demands (startDemand s) s.prof
  have run := h.isRun
  have address : e.address = s.cport.staging.stationAddress := congrArg Image.stationAddress h.image
  have healthy := h.healthy live.2
  have isPeer := h.peer
  have placed := h.placed
  rw [h.notes] at placed
  obtain ⟨seqIs, ⟨shot, manualClose, noReclose, lastCause⟩, contacts, ⟨part, staging, locked⟩, records, prof,
    ⟨meas, elem, hunt, now, pending⟩, ⟨sends, lfsr, table, state, beacon, beaconAt⟩, handovers, -⟩ := h
  generalize s.prof.follow (startDemand s) = p at *
  generalize startDemand s = d at *
  subst prof peer
  exact ⟨_, answeredNow_reply rfl up answer, answeredNow_enterResponse .., run, staging, locked, seqIs, shot,
    manualClose, noReclose, lastCause, port, field, isPeer, own, target, effective, relax, relaxAt, sends, lfsr, table,
    allPinned_pinAll table, ⟨_, (Safety.enabledQueued_iff _ _).symm, placed⟩, address, state, beacon, beaconAt,
    records, self, nonReclose, gasLow, healthy, contacts, handovers, now, pending, meas, elem, hunt⟩

end Sys2Proof.Claims
end

section
/-! SOFT RESET in RUN. -/

namespace Sys2Proof.Claims

open Sys2Proof Sys2Proof.Machine

variable {s t u : State} {st : SeqState} {k : BlockKey} {c : Prop} [Decidable c]

/-! ### What the standing records leave of the others (R97) -/

/-- Of the records of source TAG none comes or goes, and what joins is a SELF or a FIELD record. -/
def TagsKept (s t : State) : Prop :=
  (∀ r : BlockRecord, r.key.source = .tag → (r ∈ t.blk.table ↔ r ∈ s.blk.table)) ∧
    ∀ r ∈ t.blk.table, r.key ∈ s.blk.table.map (·.key) ∨ r.key.source = .self ∨ r.key.source = .field

theorem TagsKept.refl (s : State) : TagsKept s s :=
  ⟨fun _ _ => Iff.rfl, fun _ mem => .inl (List.mem_map_of_mem mem)⟩

theorem TagsKept.trans (h : TagsKept s t) (h' : TagsKept t u) : TagsKept s u := by
  refine ⟨fun r tag => (h'.1 r tag).trans (h.1 r tag), fun r mem => ?_⟩
  rcases h'.2 r mem with old | new
  · obtain ⟨x, memX, key⟩ := List.mem_map.1 old
    exact key ▸ h.2 x memX
  · exact .inr new

theorem tagsKept_storeBlock (own : k.source = .self ∨ k.source = .field) (s : State) :
    TagsKept s (storeBlock k .lock none s) := by
  have other {r : BlockRecord} (tag : r.key.source = .tag) : r.key ≠ k := by
    rintro rfl
    rcases own with own | own <;> rw [own] at tag <;> exact absurd tag (by decide)
  by_cases present : hasKey k s.blk.table = true
  · rw [storeBlock_refresh k _ _ s present]
    refine ⟨fun r tag => ?_, fun r mem => .inl ?_⟩
    · simp only [refreshRecord_eq_map, List.mem_map]
      constructor
      · rintro ⟨x, mem, rfl⟩
        by_cases key : x.key = k
        · rw [if_pos key] at tag
          exact absurd key (other tag)
        · rwa [if_neg key]
      · exact fun mem => ⟨r, mem, if_neg (other tag)⟩
    · rw [← Safety.map_key_refreshRecord k .lock none]
      exact List.mem_map_of_mem mem
  · rw [Bool.not_eq_true] at present
    by_cases room : s.blk.table.length < 16
    · rw [storeBlock_new k _ _ s present room]
      refine ⟨fun r tag => ?_, fun r mem => ?_⟩
      · have new : r ≠ { key := k, effect := .lock, setTime := s.now, expiry := expiryAfter s.now none } := by
          rintro rfl
          exact other tag rfl
        simp [new]
      · rcases List.mem_append.1 mem with old | new
        · exact .inl (List.mem_map_of_mem old)
        · obtain rfl := List.mem_singleton.1 new
          exact .inr own
    · rw [storeBlock_full k _ _ s present room]
      exact .refl s

theorem tagsKept_standingStored (own : k.source = .self ∨ k.source = .field) (s : State) :
    TagsKept s (standingStored c k s) := by
  unfold standingStored
  split
  · exact tagsKept_storeBlock own s
  · exact .refl s

theorem tagsKept_placeStanding (s : State) : TagsKept s (placeStanding s) := by
  rw [placeStanding_eq]
  exact ((tagsKept_standingStored (.inl rfl) s).trans (tagsKept_standingStored (.inr rfl) _)).trans
    (tagsKept_standingStored (.inr rfl) _)

theorem watches_placeStanding (s : State) : (placeStanding s).blk.watches = s.blk.watches := by
  simp [placeStanding_eq]

/-! ### Few notices do not overflow the queue (R179) -/

/-- At most `n` notices joined the queue, and with room for them none was lost. -/
def FewNotices (n : Nat) (s t : State) : Prop :=
  s.cport.notices.length + n ≤ 64 → t.cport.overflow = s.cport.overflow ∧
    ∃ more : List Notice, more.length ≤ n ∧ t.cport.notices = s.cport.notices ++ more

theorem FewNotices.trans {m n : Nat} (h : FewNotices m s t) (h' : FewNotices n t u) : FewNotices (m + n) s u := by
  intro room
  obtain ⟨overflow, more, few, notices⟩ := h (by omega)
  obtain ⟨overflow', more', few', notices'⟩ := h' (by
    rw [notices, List.length_append]
    omega)
  refine ⟨overflow'.trans overflow, more ++ more', ?_, by rw [notices', notices, List.append_assoc]⟩
  rw [List.length_append]
  omega

theorem fewNotices_standingStored (s : State) : FewNotices 1 s (standingStored c k s) := by
  have none_ {t : State} (cport : t.cport = s.cport) : FewNotices 1 s t := fun _ =>
    ⟨by rw [cport], [], Nat.zero_le _, by simp [cport]⟩
  unfold standingStored
  split
  · by_cases present : hasKey k s.blk.table = true
    · exact none_ (by rw [storeBlock_refresh k _ _ s present])
    · rw [Bool.not_eq_true] at present
      by_cases room : s.blk.table.length < 16
      · exact none_ (by rw [storeBlock_new k _ _ s present room])
      · intro fits
        rw [storeBlock_full k _ _ s present room]
        have queued (mask : Nat) (n : Notice) := queue_room (c := s.cport) (mask := mask) (n := n) (by omega)
        refine ⟨?_, [_], Nat.le_refl 1, congrArg CportState.notices (queued ..)⟩
        show (s.cport.queue _ _).overflow = _
        rw [queued]
  · exact none_ rfl

theorem fewNotices_placeStanding (s : State) : FewNotices 3 s (placeStanding s) := by
  rw [placeStanding_eq]
  exact ((fewNotices_standingStored s).trans (fewNotices_standingStored _)).trans (fewNotices_standingStored _)

/-! ### The steps before SEQ's (R178, steps 1 to 4) -/

/-- The part after LINK's step, CPORT's and those of the other blocks, and with the TAG records alone. -/
def cleared (st : SeqState) (s : State) : State :=
  { s with
    link := { s.link with
      slots := Slots.empty, tx := .idle, txTimer := none, sending := none, key := false, txd := none, rx := .hunt,
      table := pinAll s.now s.image [] },
    handovers := s.handovers.filter (fun e => (placementOf e).isNone),
    cport := CportState.queue { s.cport with notices := [], overflow := false, attn := false } s.image.attnMask
      (note .restarted s.address (half (seqStateCode st)) (half (profileCode s.prof.ownDemand)) s),
    elem := ElemState.reset,
    tripco := { TripcoState.reset with records := s.tripco.records.map (fun r => Restraint.fresh r.address) },
    hunt := { HuntState.reset with ownSeq := s.hunt.ownSeq },
    meas := { s.meas with snapState := .none, snapshot := none },
    blk := { s.blk with
      table := s.blk.table.filter (fun r => decide (r.key.source = .tag)), overflow := false } }

theorem resetBlocks_eq (position : st = if s.fin.position = .closed then .closedRest else .lockout) :
    resetBlocks (resetElements (resetQueue (resetLink s))) = placeStanding (cleared st s) := by
  subst position
  rfl

/-! ### SEQ's step and PROF's (R178, steps 5 and 6) -/

/-- The part once SEQ has taken its state, and PROF its demands, before LINK takes the placements. -/
def reseated (st : SeqState) (s : State) : State :=
  { s with
    sequencer := SequencerState.reset.enter st none,
    fin := (forceStatic { s with sequencer := SequencerState.reset.enter st none }).fin,
    prof := s.prof.follow .ordinary,
    handovers := s.handovers ++
      [Placement.owned (.state { st := st, pos := s.fin.position, shot := 0 }), .beaconRequest].map
        Instr.framePlacement }

theorem resetProfile_resetSequencer (position : st = if s.fin.position = .closed then .closedRest else .lockout) :
    resetProfile (resetSequencer s) = reseated st s := by
  subst position
  rw [resetProfile, resetSequencer, forceStatic_only_fin]
  simp [reseated, placeStateFrame, placeFrame, askBeacon, handOver, restingState, SequencerState.enter]
  rfl

theorem softResetRun_eq (position : st = if s.fin.position = .closed then .closedRest else .lockout) :
    softResetRun s = refreshHealthy (takePlacements (reseated st (placeStanding (cleared st s)))) := by
  have fin : (placeStanding (cleared st s)).fin = s.fin := (eventFrame_placeStanding _).1.1 .fin (by decide)
  rw [softResetRun, resetBlocks_eq position, resetProfile_resetSequencer (st := st) (by rw [fin]; exact position)]

theorem finFollows_congr {p q : State} (fin : q.fin = p.fin) (image : q.image = p.image) (h : FinFollows st s p) :
    FinFollows st s q := by
  obtain ⟨forced, healthy, same, changed, contacts⟩ := h
  have wet : WetHigh q ↔ WetHigh p := by
    simp only [WetHigh, SensedStatic, fin, image]
  refine ⟨?_, ?_, ?_, ?_, sameContacts_trans contacts (sameContacts_of_fin fin)⟩ <;> rw [fin]
  · exact forced
  · exact healthy
  · exact same
  · rw [wet]
    exact changed

theorem FinFollows.of_healthy {p q : State} (fin : q.fin = p.fin) (lamp : healthyLevel q = healthyLevel p)
    (image : q.image = p.image) (h : FinFollows st s (refreshHealthy p)) : FinFollows st s (refreshHealthy q) := by
  refine finFollows_congr ?_ ?_ h
  · simp only [Machine.refreshHealthy, fin, lamp]
  · simpa using image

theorem FinFollows.contacts {e : State} (h : FinFollows st s (refreshHealthy e)) (u : State) (fin : s.fin = u.fin) :
    sameContacts u e := by
  obtain ⟨-, -, -, -, contacts⟩ := h
  exact sameContacts_trans (sameContacts_of_fin fin) contacts

/-! ### What every block holds then -/

/-- The part after SOFT RESET in RUN, before HEALTHY is set anew and before its answer. -/
structure Softened (st : SeqState) (s t : State) : Prop where
  cport : t.cport.part = s.cport.part ∧ t.cport.staging = s.cport.staging ∧ t.cport.locked = s.cport.locked
  sequencer : t.sequencer = SequencerState.reset.enter st none
  prof : t.prof = s.prof.follow .ordinary
  others : t.now = s.now ∧ t.pending = s.pending ∧ t.elem = ElemState.reset ∧
    t.hunt = { HuntState.reset with ownSeq := s.hunt.ownSeq } ∧
    t.meas = { s.meas with snapState := .none, snapshot := none } ∧
    t.tripco = { TripcoState.reset with records := s.tripco.records.map (fun r => Restraint.fresh r.address) }
  handovers : t.handovers = s.handovers.filter (fun e => !isPlacement e)
  sends : t.link.sol = s.link.sol ∧ t.link.freshStart = s.link.freshStart ∧ t.link.lastSent = s.link.lastSent ∧
    t.link.lfsr = s.link.lfsr ∧ t.link.cd = s.link.cd
  line : t.link.key = false ∧ t.link.txd = none ∧ t.link.sending = none ∧ t.link.rx = .hunt ∧ t.link.tx = .defer
  slots : t.link.slots = { Slots.empty with
    state := some { st := st, pos := s.fin.position, shot := 0 }, beacon := true }
  beaconAt : t.link.beaconAt = some (after s.now (s.image.beaconInterval * 1000))
  table : t.link.table = pinAll s.now s.image []
  tags : TagsKept (cleared st s) t
  watches : t.blk.watches = s.blk.watches
  held : (s.meas.status = .stale → Stands (selfKey s) t) ∧ (s.inputSet 2 = true → Stands (fieldKey s 2) t) ∧
    (s.inputSet 5 = true → Stands (fieldKey s 5) t)
  notices : t.cport.overflow = false ∧ ∃ more : List Notice, t.cport.notices =
    note .restarted s.address (half (seqStateCode st)) (half (profileCode s.prof.ownDemand)) s :: more
  follows : FinFollows st s (refreshHealthy t)
  placed : StandingPlaced
    { s.blk with table := s.blk.table.filter (fun r => decide (r.key.source = .tag)), overflow := false }
    [note .restarted s.address (half (seqStateCode st)) (half (profileCode s.prof.ownDemand)) s]
    { s with cport := { s.cport with notices := [], overflow := false, attn := false } } t

/-- The part before LINK takes the placements. -/
def seated (st : SeqState) (s : State) : State := reseated st (placeStanding (cleared st s))

theorem filterMap_cleared (st : SeqState) (s : State) : (cleared st s).handovers.filterMap placementOf = [] :=
  List.filterMap_eq_nil_iff.2 fun e mem => by simpa using (List.mem_filter.1 mem).2

theorem filter_cleared (st : SeqState) (s : State) : (cleared st s).handovers.filter (fun e => !isPlacement e) =
    s.handovers.filter (fun e => !isPlacement e) := by
  simp [cleared, isNone_placementOf, List.filter_filter]

theorem cleared_image (st : SeqState) (s : State) : (cleared st s).image = s.image := by
  simp [cleared, State.image, queue_settings]

theorem handovers_seated (st : SeqState) (s : State) : (seated st s).handovers = (cleared st s).handovers ++
    [Placement.owned (.state { st := st, pos := s.fin.position, shot := 0 }), .beaconRequest].map
      Instr.framePlacement := by
  have fin : (placeStanding (cleared st s)).fin = s.fin := (eventFrame_placeStanding _).1.1 .fin (by decide)
  rw [seated, reseated, handovers_placeStanding, fin]

theorem cleared_isRun (st : SeqState) (s : State) : (cleared st s).isRun = s.isRun := by
  simp [cleared, State.isRun, queue_settings]

/-- BLK's step leaves all but BLK and the notices. -/
theorem eventFrame_seated (st : SeqState) (s : State) :
    EventFrame [.meas, .elem, .link, .tripco, .hunt] (cleared st s) (seated st s) := by
  have stands := (eventFrame_placeStanding (cleared st s)).mono (cs := [.meas, .elem, .link, .tripco, .hunt]) (by decide)
  exact stands.trans (by simp [EventFrame, Frame, sameBlock, sameSettings, sameTransaction, seated, reseated])

theorem linkTook_seated (st : SeqState) (run : s.isRun = true) : LinkTook
    [.owned (.state { st := st, pos := s.fin.position, shot := 0 }), .beaconRequest] (seated st s)
    (takePlacements (seated st s)) := by
  have took := linkTook_takePlacements (s := seated st s)
    ((eventFrame_seated st s).1.isRun.trans ((cleared_isRun st s).trans run))
  rwa [handovers_seated, List.filterMap_append, filterMap_cleared, filterMap_placementOf, List.nil_append] at took

/-- SEQ's new state is the one FIN takes, whatever BLK and LINK made of the part before (R44, R53). -/
theorem finFollows_seated (st : SeqState) (s : State) :
    FinFollows st s (refreshHealthy (takePlacements (seated st s))) := by
  obtain ⟨blocks, settings, now⟩ := (eventFrame_placeStanding (cleared st s)).1
  let x : State := { placeStanding (cleared st s) with sequencer := SequencerState.reset.enter st none }
  have taken := eventFrame_takePlacements (seated st s)
  have fin : x.fin = s.fin := blocks .fin (by decide)
  have meas : x.meas = { s.meas with snapState := .none, snapshot := none } := blocks .meas (by decide)
  have runs : x.isRun = s.isRun := ((eventFrame_placeStanding (cleared st s)).1.isRun).trans (cleared_isRun st s)
  have image : x.image = s.image := ((eventFrame_placeStanding (cleared st s)).1.image).trans (cleared_image st s)
  have follows : FinFollows st { s with meas := { s.meas with snapState := .none, snapshot := none } }
      (refreshHealthy (forceStatic x)) := finFollows_forceStatic fin rfl meas runs image
  have lamp : healthyLevel (takePlacements (seated st s)) = healthyLevel (forceStatic x) := by
    have sequencer : (takePlacements (seated st s)).sequencer = x.sequencer := taken.1.1 .sequencer (by decide)
    have samples : (takePlacements (seated st s)).meas = x.meas := taken.1.1 .meas (by decide)
    have running : (takePlacements (seated st s)).isRun = x.isRun := taken.1.isRun
    rw [healthyLevel_eq, healthyLevel_eq, sequencer, samples, running]
    simp
  have inputs : (takePlacements (seated st s)).fin = (forceStatic x).fin := taken.1.1 .fin (by decide)
  have kept : (takePlacements (seated st s)).image = s.image :=
    (taken.1.image.trans (eventFrame_seated st s).1.image).trans (cleared_image st s)
  have forced : (forceStatic x).image = x.image := by simp
  exact FinFollows.of_healthy inputs lamp (kept.trans (forced.trans image).symm) follows

section Softened

variable {e : State}

theorem cleared_address (st : SeqState) (s : State) : (cleared st s).address = s.address :=
  congrArg Image.stationAddress (cleared_image st s)

theorem cleared_notices (st : SeqState) (s : State) : (cleared st s).cport.overflow = false ∧
    (cleared st s).cport.notices =
      [note .restarted s.address (half (seqStateCode st)) (half (profileCode s.prof.ownDemand)) s] :=
  ⟨rfl, rfl⟩

theorem noticed_cleared (st : SeqState) (s : State) :
    Noticed [note .restarted s.address (half (seqStateCode st)) (half (profileCode s.prof.ownDemand)) s]
      { s with cport := { s.cport with notices := [], overflow := false, attn := false } } (cleared st s) :=
  ⟨rfl, rfl, rfl⟩

theorem standingPlaced_cleared {bs : List Block} (rest : e.sequencer.st ≠ .deadHold) (frame : Frame bs (cleared st s) e)
    (meas : e.meas = (cleared st s).meas) (contacts : sameContacts (cleared st s) e)
    (blk : e.blk = (placeStanding (cleared st s)).blk) (cport : e.cport = (placeStanding (cleared st s)).cport) :
    StandingPlaced
      { s.blk with table := s.blk.table.filter (fun r => decide (r.key.source = .tag)), overflow := false }
      [note .restarted s.address (half (seqStateCode st)) (half (profileCode s.prof.ownDemand)) s]
      { s with cport := { s.cport with notices := [], overflow := false, attn := false } } e := by
  have keys := standingKeys_congr (by rw [meas]) contacts frame.address
  refine standingPlaced_placeStanding rest (noticed_cleared st s) rfl frame.image.symm frame.2.2.symm keys blk ?_
  rw [Noticed, cport]
  exact ⟨rfl, rfl, rfl⟩

theorem notices_placeStanding (st : SeqState) (s : State) : (placeStanding (cleared st s)).cport.overflow = false ∧
    ∃ more : List Notice, (placeStanding (cleared st s)).cport.notices =
      note .restarted s.address (half (seqStateCode st)) (half (profileCode s.prof.ownDemand)) s :: more := by
  obtain ⟨clear, only⟩ := cleared_notices st s
  obtain ⟨overflow, more, -, notices⟩ := fewNotices_placeStanding (cleared st s) (by
    rw [only, List.length_singleton]
    decide)
  exact ⟨overflow.trans clear, more, by rw [notices, only, List.singleton_append]⟩

theorem held_placeStanding (st : SeqState) (s : State) :
    (s.meas.status = .stale → Stands (selfKey s) (placeStanding (cleared st s))) ∧
    (s.inputSet 2 = true → Stands (fieldKey s 2) (placeStanding (cleared st s))) ∧
    (s.inputSet 5 = true → Stands (fieldKey s 5) (placeStanding (cleared st s))) := by
  have h := stands_placeStanding (cleared st s)
  simp only [selfKey, fieldKey, cleared_address] at h ⊢
  exact h

theorem softened (rest : st ≠ .deadHold) (run : s.isRun = true) : Softened st s (takePlacements (seated st s)) := by
  have taken := eventFrame_takePlacements (seated st s)
  have stands := eventFrame_placeStanding (cleared st s)
  have frame := (eventFrame_seated st s).mono (cs := [.meas, .elem, .tripco, .hunt]) (by decide) |>.trans
    (taken.mono (by decide))
  obtain ⟨took, wait, deferred, ⟨sol, fresh, last, sending, key, txd, cd, rx⟩, lfsr, table⟩ := linkTook_seated st run
  have link : (seated st s).link = (cleared st s).link := (eventFrame_seated st s).1.1 .link (by decide)
  rw [link] at took wait deferred sol fresh last sending key txd cd rx lfsr table
  have blk : (takePlacements (seated st s)).blk = (placeStanding (cleared st s)).blk := taken.1.1 .blk (by decide)
  have cport : (takePlacements (seated st s)).cport = (placeStanding (cleared st s)).cport :=
    (takePlacements_rest (seated st s)).2.2.2.2.1
  obtain ⟨blocks, ⟨part, staging, locked, -, pending⟩, now⟩ := frame.1
  constructor
  case cport => exact ⟨part, staging, locked⟩
  case sequencer => exact taken.1.1 .sequencer (by decide)
  case prof =>
    have demands : (placeStanding (cleared st s)).prof = s.prof := stands.1.1 .prof (by decide)
    exact (taken.1.1 .prof (by decide)).trans (congrArg (ProfState.follow .ordinary) demands)
  case others =>
    exact ⟨now, pending, blocks .elem (by decide), blocks .hunt (by decide), blocks .meas (by decide),
      blocks .tripco (by decide)⟩
  case handovers =>
    rw [handovers_takePlacements, handovers_seated, List.filter_append, filter_placements, List.append_nil, filter_cleared]
  case sends => exact ⟨sol, fresh, last, lfsr, cd⟩
  case line => exact ⟨key, txd, sending, rx, deferred (.inr ⟨rfl, by simp⟩)⟩
  case slots => exact took
  case beaconAt =>
    have now : (seated st s).now = s.now := (eventFrame_seated st s).1.2.2
    have image : (seated st s).image = s.image := (eventFrame_seated st s).1.image.trans (cleared_image st s)
    rw [wait, if_pos (by simp), now, image]
  case table => exact table
  case tags =>
    rw [TagsKept, blk]
    exact tagsKept_placeStanding _
  case watches =>
    rw [blk]
    exact watches_placeStanding _
  case held =>
    simp only [Stands, blk]
    exact held_placeStanding st s
  case notices =>
    rw [cport]
    exact notices_placeStanding st s
  case follows => exact finFollows_seated st s
  case placed =>
    have meas : (takePlacements (seated st s)).meas = (cleared st s).meas := blocks .meas (by decide)
    have sequencer : (takePlacements (seated st s)).sequencer.st = st :=
      congrArg SequencerState.st (taken.1.1 .sequencer (by decide))
    exact standingPlaced_cleared (by rw [sequencer]; exact rest) frame.1 meas
      ((finFollows_seated st s).contacts (cleared st s) rfl) blk cport

end Softened

/-- With no demand of a peer PROF follows its own (R114). -/
theorem follow_ordinary (p : ProfState) : Safety.IsLarger (p.follow .ordinary).target p.port p.field := by
  obtain ⟨-, -, -, own, -⟩ := follow_demands .ordinary p
  have same : (p.follow .ordinary).target = (p.follow .ordinary).ownDemand := by
    show profileMax (p.follow .ordinary).ownDemand .ordinary = _
    cases (p.follow .ordinary).ownDemand <;> rfl
  exact same ▸ own

theorem softResetRun_softened (position : st = if s.fin.position = .closed then .closedRest else .lockout)
    (run : s.isRun = true) : ∃ e : State, softResetRun s = refreshHealthy e ∧ Softened st s e := by
  have rest : st ≠ .deadHold := by
    subst position
    split <;> decide
  exact ⟨_, softResetRun_eq position, softened rest run⟩

/-- Settles O45: the steps of the reset one after the other, read off the state before the answer. -/
theorem softResetInRun : Obligations.SoftResetInRun := by
  intro s st up run position
  obtain ⟨e, resets, h⟩ := softResetRun_softened position run
  have answer : cmdSoftReset s = reply .accepted (refreshHealthy e) := by
    rw [← resets]
    exact if_pos run
  obtain ⟨port, field, peer, own, target, effective, relax, relaxAt⟩ := follow_demands .ordinary s.prof
  obtain ⟨⟨part, staging, locked⟩, sequencer, prof, ⟨now, pending, elem, hunt, meas, tripco⟩, handovers,
    ⟨sol, fresh, last, lfsr, cd⟩, ⟨key, txd, sending, rx, tx⟩, slots, beaconAt, table, ⟨tags, sources⟩, watches,
    ⟨self, nonReclose, gasLow⟩, ⟨overflow, notices⟩, follows, placed⟩ := h
  have runs : e.isRun = true := by
    rw [State.isRun, part]
    exact run
  have larger := follow_ordinary s.prof
  have unheard := unheard_pinAll s.now s.image
  rw [← table] at unheard
  have kept : ∀ r : BlockRecord, r.key.source = .tag → (r ∈ e.blk.table ↔ r ∈ s.blk.table) := fun r tag =>
    (tags r tag).trans (by simp [cleared, tag])
  have others : ∀ r ∈ e.blk.table, r.key.source = .tag ∨ r.key.source = .self ∨ r.key.source = .field := by
    intro r mem
    refine (sources r mem).imp_left fun old => ?_
    obtain ⟨x, memX, key⟩ := List.mem_map.1 old
    rw [← key]
    simpa using (List.mem_filter.1 memX).2
  generalize s.prof.follow .ordinary = p at *
  subst prof
  exact ⟨_, answeredNow_reply rfl up answer, answeredNow_enterResponse .., now, runs, staging, locked, notices, overflow,
    placed, by simp [SeqIs, sequencer, SequencerState.enter, beq_decide], congrArg SequencerState.shot sequencer,
    congrArg SequencerState.manualClose sequencer, congrArg SequencerState.noReclose sequencer,
    congrArg SequencerState.lastCause sequencer, elem, hunt, meas, tripco, fun r mem tag => (kept r tag).2 mem,
    fun r mem tag => (kept r tag).1 mem, others, watches, self, nonReclose, gasLow, port, field, peer, larger, effective,
    relax, relaxAt, sol, fresh, last, lfsr, cd, key, txd, sending, rx, tx, slots, beaconAt, table,
    allPinned_pinAll (l := []) table, unheard, follows, handovers, pending⟩

end Sys2Proof.Claims
end
